-- ==== Sys2Proof/Word.lean ====
section
/-! DEFINITION. The words of the station: a byte, a period number, a campaign total, the two channel counts. -/

namespace Sys2Proof

/-- One byte of a frame or of the configuration image (R186). -/
abbrev Byte := BitVec 8

/-- A four-bit field of the frame header: the record kind, the revision (R187). -/
abbrev Nibble := BitVec 4

/-- A period number: 0 to 65,535, continuing at 0 after 65,535 (R1). -/
abbrev Period := BitVec 16

/-- A campaign total: every one is kept modulo 2^48 (R77). -/
abbrev Total := BitVec 48

/-- A channel's counted-since-reset count, which wraps from 2^64 - 1 to 0 (R35). -/
abbrev Counted := BitVec 64

/-- A channel's credited-since-reset count, which wraps from 2^60 - 1 to 0 (R35). -/
abbrev Credited := BitVec 60

/-- The 16-bit register of the link's CRC (R129). -/
abbrev CheckWord := BitVec 16

end Sys2Proof
end

