-- ==== Sys2Proof/Syntax.lean ====
section
/-! DEFINITION. The commands of the station: one constructor per row of spec/opcode_table.json, with the operands the
event of that row brings from outside (a line, a channel, a frame as received, a meter reply, the memory's bytes). -/

namespace Sys2Proof

/-- The two channels of the plant link (R128). -/
inductive Chan where
  | a
  | b
  deriving DecidableEq, Repr

/-- The level of an input line, raw or debounced (R25). -/
inductive Level where
  | high
  | low
  deriving DecidableEq, Repr

/-- The direction of a debounced edge: rising when the level becomes HIGH, falling when it becomes LOW (R25). -/
inductive Edge where
  | rising
  | falling
  deriving DecidableEq, Repr

/-- The two alert lines (R181). -/
inductive AlertNo where
  | one
  | two
  deriving DecidableEq, Repr

/-- The three bit rates of the plant link: 62.5, 125 and 250 kbit/s (R128). -/
inductive BitRate where
  | r62
  | r125
  | r250
  deriving DecidableEq, Repr

/-- The six strap inputs as sampled at reset release: true where the input is high (R169). -/
structure Straps where
  st0 : Bool
  st1 : Bool
  st2 : Bool
  st3 : Bool
  st4 : Bool
  stp : Bool
  deriving DecidableEq, Repr

/-- A frame of the plant link as its header and payload give it (R187): what a receiver has after R130 found no receive
error in it, and what the station drives when it sends. The payload length of the header is the payload's length. -/
structure Frame where
  kind : Nibble
  revision : Nibble
  source : Byte
  destination : Byte
  period : Period
  condition : Byte
  tag : Byte
  payload : List Byte
  deriving DecidableEq, Repr

/-- What a receiver has collected between a start pattern and the end of the frame (R130): the whole bytes, the bits left
over that make no byte, and whether a stretch of 2 to 7 bit times without a transition occurred inside it. -/
structure RawFrame where
  bytes : List Byte
  spareBits : Nat
  gap : Bool
  deriving DecidableEq, Repr

/-- The eight bytes of a meter reply in the order of arrival (R45); `none` is a byte with a framing error, which the
receiver takes as a byte of unknown value (R43). -/
structure MeterReply where
  address : Option Byte
  select : Option Byte
  value3 : Option Byte
  value2 : Option Byte
  value1 : Option Byte
  value0 : Option Byte
  status : Option Byte
  check : Option Byte
  deriving DecidableEq, Repr

/-- What a reply window brought when it closes short (R50): how many bytes came whole, and how many bit times ago the last byte
started in it, absent when none did. -/
structure WindowEnd where
  received : Nat
  sinceStart : Option Nat
  deriving DecidableEq, Repr

/-- The commands: the rows of spec/opcode_table.json in the table's order. Input lines are numbered from 0 (IN1) to 7 (IN8).
Times are counted by the crystal from reset release, in ms; `elapsed` is in bit times of the line it speaks of. -/
inductive Instr where
  | hardwareReset
  | resetRelease (straps : Straps) (levels : Vector Level 8) (inhibitA inhibitB : Bool)
  | imageReadAttempt (memory : List Byte) (now : Nat)
  | retryWaitEnd
  | internalSecond
  | secondPulse (line : Fin 8)
  | lossWatchExpiry
  | periodExpiry
  | soloWaitEnd
  | sampleTick
  | waitTimerExpiry (number : Period)
  | alertPulseEnd (alert : AlertNo)
  | energyPulse (line : Fin 8)
  | cutPulse (line : Fin 8)
  | rejectPulse (line : Fin 8)
  | runningLevelChange (line : Fin 8) (edge : Edge)
  | faultLevelChange (line : Fin 8) (edge : Edge)
  | debouncedEdge (line : Fin 8) (edge : Edge) (time : Nat)
  | meterLineQuiet (elapsed : Nat)
  | quietWaitTimeout
  | requestSent
  | replyReceived (reply : MeterReply)
  | replyWindowClose (window : WindowEnd)
  | strayMeterByte (byte : Option Byte)
  | frameBegin (ch : Chan) (elapsed : Nat)
  | defer (ch : Chan)
  | frameGoneOutWhole (ch : Chan)
  | echoMismatch (ch : Chan)
  | inhibitActive (ch : Chan)
  | inhibitReleased (ch : Chan)
  | receiveError (ch : Chan) (raw : RawFrame)
  | bitRateFixed (ch : Chan) (rate : BitRate)
  | mark (ch : Chan) (frame : Frame)
  | tally (ch : Chan) (frame : Frame)
  | allotment (ch : Chan) (frame : Frame)
  | answerHeard (ch : Chan) (frame : Frame)
  | queryResult (ch : Chan) (frame : Frame)
  | queryLatest (ch : Chan) (frame : Frame)
  | queryCampaign (ch : Chan) (frame : Frame)
  | queryCondition (ch : Chan) (frame : Frame)
  | queryChannels (ch : Chan) (frame : Frame)
  | unknownRequest (ch : Chan) (frame : Frame)
  | orderZero (ch : Chan) (frame : Frame)
  | orderJob (ch : Chan) (frame : Frame)
  | receiverStart (ch : Chan)
  | inhibitedFrameEnd (ch : Chan)
  deriving DecidableEq, Repr

end Sys2Proof
end

