-- ==== Sys2Proof/Config.lean ====
section
/-! DEFINITION. The limits every 3140 shares, and the one value the manual leaves open. -/

namespace Sys2Proof.Config

/-- The limit of a channel accumulator, in sixteenths of a Wh: 2^40 - 1 (R31). -/
def accumulatorLimit : Nat := 2 ^ 40 - 1

/-- The limit of an energy or a mass of one period: 4,294,967,295 (R33, R36, R37, R64). -/
def quantityLimit : Nat := 2 ^ 32 - 1

/-- The limit of every station counter and of a specific energy consumption: 65,535 (R167, R121). -/
def counterLimit : Nat := 65535

/-- The reject-excess carry is held in 64 bits (R41). -/
def carryLimit : Nat := 2 ^ 64 - 1

/-- The book holds at most 12 entries (R61). -/
def bookSize : Nat := 12

/-- The transmit queue holds at most 8 records (R141). -/
def queueSize : Nat := 8

/-- The recent-frame list holds at most 16 identities (R146). -/
def recentSize : Nat := 16

/-- A channel fails when its echo-fault count reaches 8 (R135). -/
def echoFaultLimit : Nat := 8

/-- A channel is quiet once no transition has been seen on it for 8 bit times (R129). -/
def quietBits : Nat := 8

/-- The meter line is quiet once no byte has started on it for three byte times of 10 bits (R43, R50). -/
def meterQuietBits : Nat := 30

/-- One byte of the meter line occupies 10 bit times, so a byte that arrives whole has started that long ago (R43). -/
def meterByteBits : Nat := 10

/-- The loader makes at most four attempts (R172). -/
def maxAttempts : Nat := 4

/-- The longest payload of a frame (R129). -/
def maxPayload : Nat := 120

/-- FREE VALUE (log entry 1). The manual holds the reject-excess carry in 64 bits and states no value for an excess that
would pass them (R41): for such an excess the carry is this value, of which nothing can be proved. -/
opaque carryPastLimit : Nat → BitVec 64

end Sys2Proof.Config
end

