-- ==== Sys2Proof/Machine/State.lean ====
section
/-! DEFINITION. The state of one 3140: every register, table, book, queue, counter, condition and timer the spec names, block
by block, the queue of waiting commands, and the state a hardware reset leaves. -/

namespace Sys2Proof.Machine

open Sys2Proof

/-! ### Names with a fixed set of values -/

/-- The accounting state (R2). -/
inductive Accounting where
  | loading
  | unconfigured
  | starting
  | accounting
  deriving DecidableEq, Repr

/-- The base-source state of the time base (R4). -/
inductive BaseSource where
  | internal
  | external
  | fallback
  deriving DecidableEq, Repr

/-- The role of the station (00_scope.md, R173). -/
inductive Role where
  | line
  | furnace
  | pool
  deriving DecidableEq, Repr

/-- The basis kind of an apportioning station (R84). -/
inductive BasisKind where
  | mass
  | good
  | runtime
  deriving DecidableEq, Repr

/-- The energy carriers, in ascending order of their codes 1 to 5 (00_scope.md). -/
inductive Carrier where
  | gas
  | electric
  | oxygen
  | air
  | other
  deriving DecidableEq, Repr

/-- The role of an input line (R24). -/
inductive LineRole where
  | unused
  | energy
  | cut
  | reject
  | running
  | fault
  | second
  deriving DecidableEq, Repr

/-- The polarity of an input line: the counted edge of a pulse role, the active level of a level role (R191). -/
inductive Polarity where
  | risingHigh
  | fallingLow
  deriving DecidableEq, Repr

/-- The debounce width of an input line (R25). -/
inductive Debounce where
  | ms1
  | ms4
  deriving DecidableEq, Repr

/-- Where the station number comes from (R170). -/
inductive NumberSource where
  | straps
  | image
  deriving DecidableEq, Repr

/-- The mode of an alert line (R181, R182). -/
inductive AlertMode where
  | level
  | pulse
  deriving DecidableEq, Repr

/-- The rates of the meter port (R43). -/
inductive MeterBaud where
  | b9600
  | b19200
  | b38400
  deriving DecidableEq, Repr

/-- The state of a link channel (R134 to R138). -/
inductive ChanState where
  | active
  | failed
  | inhibited
  deriving DecidableEq, Repr

/-- The runtime state of a meter entry (R47). -/
inductive MeterState where
  | noReference
  | active
  | failed
  deriving DecidableEq, Repr

/-- What the loader is doing (R168, R171, R172): held by RESET, reading the image, waiting 100 ms for the next attempt, or
done until the next hardware reset. -/
inductive LoaderPhase where
  | held
  | reading
  | retryWait
  | ended
  deriving DecidableEq, Repr

/-- The kind of a book entry (R62). -/
inductive EntryKind where
  | leadIn
  | regular
  | irregular
  deriving DecidableEq, Repr

/-- The state of a book entry (R62). -/
inductive EntryState where
  | opened
  | settling
  | struck
  deriving DecidableEq, Repr

/-- The cause of an entry's open (R62). -/
inductive Cause where
  | ownExpiry
  | mark (station : Nat)
  | evidence (station : Nat)
  | soloStart
  | start
  deriving DecidableEq, Repr

/-- The state of an item of a LINE entry's share list (R63). -/
inductive ShareState where
  | absent
  | estimated
  | received
  deriving DecidableEq, Repr

/-- The state of an item of an apportioning entry's contributor list (R64). -/
inductive ItemState where
  | received
  | estimated
  | excluded
  deriving DecidableEq, Repr

/-- The records a station hands to its transmit queue (R140). -/
inductive RecordKind where
  | mark
  | tally
  | allotment
  | answer
  deriving DecidableEq, Repr

/-- The outcome of a request (R153, R188). -/
inductive RequestOutcome where
  | answered
  | notHeld
  | pending
  | notReady
  | unknown
  | accepted
  | refusedCode
  | refusedRole
  | refusedRange
  | refusedState
  deriving DecidableEq, Repr

/-! ### The configuration -/

/-- An input line as the loader takes it (R24, R25, R29). -/
structure LineSetup where
  role : LineRole
  polarity : Polarity
  debounce : Debounce
  deriving DecidableEq, Repr

/-- The source of a configured channel: an input line or a meter entry (R30). -/
inductive ChannelSource where
  | line (i : Fin 8)
  | meter (m : Fin 8)
  deriving DecidableEq, Repr

/-- A configured energy channel as the accumulator bank takes it (R30). -/
structure ChannelSetup where
  source : ChannelSource
  carrier : Carrier
  pulse : Nat
  deriving DecidableEq, Repr

/-- A configured meter entry as the meter port takes it (R46). -/
structure MeterSetup where
  address : Byte
  select : Byte
  modulus : Nat
  scale : Nat
  limit : Nat
  feeds : Option (Fin 8)
  deriving DecidableEq, Repr

/-- A job: gob weight in grams and gobs per cut (R39). -/
structure Job where
  gob : Nat
  perCut : Nat
  deriving DecidableEq, Repr

/-- The mode and condition group of an alert line as taken from the image (R174, R191). -/
structure AlertSetup where
  mode : AlertMode
  group : Byte
  deriving DecidableEq, Repr

/-- The configuration as the blocks take it after clamping (R173 to R178). `table` is the contributor table or the
subscription table; `channels` and `meters` hold `none` for an unconfigured channel and an empty entry. -/
structure Settings where
  source : NumberSource
  role : Role
  rate : BitRate
  periodLength : Nat
  interval : Nat
  t1 : Nat
  t2 : Nat
  external : Bool
  authorization : Nat
  tag : List Byte
  alert1 : AlertSetup
  alert2 : AlertSetup
  lines : Vector LineSetup 8
  baud : MeterBaud
  meters : Vector (Option MeterSetup) 8
  channels : Vector (Option ChannelSetup) 8
  basis : BasisKind
  table : List Nat
  job : Job
  deriving DecidableEq, Repr

/-! ### The start-up loader -/

/-- The start-up loader (09_start_up_and_the_configuration_image.md). `attempt` is the number of the attempt that runs or was
last made, 0 before the first and after loading, which does not keep it (R172). `sent` is what the attempt in progress sends
the serial memory on SDO, empty while none is (R171). `own` is the settled station number, absent while it is not settled and
where it is invalid. -/
structure Loader where
  phase : LoaderPhase
  attempt : Nat
  sent : List Byte
  straps : Straps
  image : List Byte
  own : Option Nat
  source : NumberSource
  clamped : Bool
  deriving DecidableEq, Repr

/-! ### Time base and period control -/

/-- Time base and period control (01_periods_and_the_period_mark.md). `sampleDue` is a sample tick that a base tick has
given and the meter port has not yet taken (R9). The open period number is the open entry's; the solo wait runs exactly
while the accounting state is STARTING (R20, R11). -/
structure TimeBase where
  accounting : Accounting
  source : BaseSource
  seconds : Nat
  lossWatch : Bool
  skipped : Nat
  stale : Nat
  starting : Bool
  timebase : Bool
  gap : Bool
  sampleDue : Bool
  deriving DecidableEq, Repr

/-! ### Input unit and accumulator bank -/

/-- One input line: its debounced level and the times of its last debounced edges (R25, R28). -/
structure InputLine where
  level : Level
  lastRise : Option Nat
  lastFall : Option Nat
  deriving DecidableEq, Repr

/-- One energy channel: its accumulator in sixteenths of a Wh and its two counts since reset (R31, R35). -/
structure ChannelState where
  held : Nat
  counted : Counted
  credited : Credited
  deriving DecidableEq, Repr

/-- The accumulator bank (02_energy_and_mass_inputs.md); `carry` is the reject-excess carry X (R41). -/
structure Bank where
  channels : Vector ChannelState 8
  pull : Nat
  reject : Nat
  cuts : Nat
  runSeconds : Nat
  job : Job
  carry : Nat
  deriving DecidableEq, Repr

/-! ### Meter port -/

/-- The runtime state of a meter entry (R47); `alarm` is the alarm flag of its most recent valid reply. -/
structure MeterEntry where
  state : MeterState
  miss : Nat
  rounds : Nat
  reference : Option Nat
  alarm : Bool
  deriving DecidableEq, Repr

/-- The three bytes of a request (R44). -/
structure MeterRequest where
  address : Byte
  select : Byte
  check : Byte
  deriving DecidableEq, Repr

/-- The three steps of a poll (R50): waiting for quiet, sending the request, and the reply window. -/
inductive PollPhase where
  | waitQuiet
  | sending (request : MeterRequest)
  | window (request : MeterRequest)
  deriving DecidableEq, Repr

/-- The poll of the round in progress (R49). -/
structure Poll where
  entry : Fin 8
  phase : PollPhase
  deriving DecidableEq, Repr

/-- The meter port controller (03_the_meter_port.md). `poll` is absent while no round is in progress; `quietTime` is how long
no byte has started on MRX, in bit times. -/
structure MeterPort where
  entries : Vector MeterEntry 8
  poll : Option Poll
  quietTime : Nat
  overruns : Nat
  failedPolls : Nat
  discontinuities : Nat
  alarmSeen : Bool
  deriving DecidableEq, Repr

/-! ### The period book -/

/-- The eleven flags of an entry (R64). -/
structure EntryFlags where
  meterFault : Bool
  catchUp : Bool
  discontinuity : Bool
  estimated : Bool
  revised : Bool
  excluded : Bool
  noBasis : Bool
  jobChange : Bool
  saturated : Bool
  timebase : Bool
  preZero : Bool
  deriving DecidableEq, Repr

/-- What a RECEIVED share item records of the allotment it took (R111): its revision, E, B and basis kind, and the basis
listed for this line with its estimated indication, absent when the line is not listed. -/
structure AllotmentFigures where
  revision : Nibble
  e : Nat
  b : Nat
  basis : BasisKind
  listed : Option (Nat × Bool)
  deriving DecidableEq, Repr

/-- An item of a LINE entry's share list (R63). -/
structure ShareItem where
  station : Nat
  state : ShareState
  share : Nat
  allotment : Option AllotmentFigures
  deriving DecidableEq, Repr

/-- The result of a struck LINE entry (R63, R120, R121). -/
structure LineResult where
  eLine : Nat
  secGood : Option Nat
  secPull : Option Nat
  deriving DecidableEq, Repr

/-- The further parts of a LINE entry (R63). -/
structure LinePart where
  pull : Nat
  reject : Nat
  good : Nat
  runSeconds : Nat
  cuts : Nat
  shares : List ShareItem
  result : Option LineResult
  deriving DecidableEq, Repr

/-- An item of an apportioning entry's contributor list (R86). -/
structure ContributorItem where
  station : Nat
  state : ItemState
  basis : Nat
  deriving DecidableEq, Repr

/-- The further parts of a FURNACE or POOL entry (R64). -/
structure AllotPart where
  e : Nat
  basis : BasisKind
  items : List ContributorItem
  b : Nat
  revision : Nat
  residue : Option Nat
  sec : Option Nat
  deriving DecidableEq, Repr

/-- The role part of an entry (R63, R64). -/
inductive RolePart where
  | line (part : LinePart)
  | apportioning (part : AllotPart)
  deriving DecidableEq, Repr

/-- A book entry (R62). `number` is absent for the lead-in; `timer` is present while the entry is SETTLING (R70). -/
structure Entry where
  number : Option Period
  kind : EntryKind
  state : EntryState
  cause : Cause
  duration : Nat
  flags : EntryFlags
  carriers : List (Carrier × Nat)
  revisions : Nat
  timer : Option Nat
  part : RolePart
  deriving DecidableEq, Repr

/-- The five campaign energy totals of a LINE station (R75). -/
structure EnergyTotals where
  gas : Total
  electric : Total
  oxygen : Total
  air : Total
  other : Total
  deriving DecidableEq, Repr

/-- The campaign totals of a LINE station (R75); `shares` has one total for each subscribed station, in table order. -/
structure LineTotals where
  energy : EnergyTotals
  shares : List (Nat × Total)
  eLine : Total
  pull : Total
  reject : Total
  good : Total
  runSeconds : Total
  struck : Total
  estimated : Total
  skipped : Total
  deriving DecidableEq, Repr

/-- The campaign totals of an apportioning station (R76). -/
structure AllotTotals where
  measured : Total
  allotted : Total
  undistributed : Total
  basis : Total
  struck : Total
  deriving DecidableEq, Repr

/-- The period book (04_the_period_book_and_campaign_totals.md): entries in opening order, the oldest first. -/
structure Book where
  entries : List Entry
  line : LineTotals
  allot : AllotTotals
  zeroPending : Bool
  late : Nat
  deriving DecidableEq, Repr

/-- A row of the contributor table with its last basis (R82, R83), or of the subscription table with its last share (R106,
R107). -/
structure Peer where
  station : Nat
  last : Option Nat
  deriving DecidableEq, Repr

/-! ### The link controller -/

/-- A record as it is handed over (R140); `estimated` is the ESTIMATED flag its frames carry (R149). -/
structure Record where
  kind : RecordKind
  revision : Nibble
  destination : Byte
  period : Period
  tag : Byte
  payload : List Byte
  estimated : Bool
  deriving DecidableEq, Repr

/-- A record in the transmit queue, its place in the order of entry and the channels it is owed to (R140, R141). -/
structure Queued where
  seq : Nat
  record : Record
  owedA : Bool
  owedB : Bool
  deriving DecidableEq, Repr

/-- A frame being driven onto a channel (R132 to R138). `seq` names the queued record; `withdrawn` that its MARK was withdrawn
meanwhile, `superseded` that its MARK took a new number meanwhile (R143), `unchecked` that the channel's inhibit became
active, so that it runs to its last cell without echo comparison (R138). -/
structure InFlight where
  seq : Nat
  frame : Frame
  withdrawn : Bool
  superseded : Bool
  unchecked : Bool
  deriving DecidableEq, Repr

/-- One link channel (07_the_plant_link.md). `quietTime` is the quiet time and `counted` the counted deference time, both in
bit times; `counted` is absent while the channel is not counting (R129, R132). -/
structure LinkChannel where
  state : ChanState
  echoFaults : Nat
  probe : Bool
  quietTime : Nat
  counted : Option Nat
  receiving : Bool
  errors : Nat
  inFlight : Option InFlight
  deriving DecidableEq, Repr

/-- The identity of a frame in the recent-frame list (R146). -/
structure Identity where
  kind : Nibble
  source : Byte
  destination : Byte
  period : Period
  revision : Nibble
  tag : Byte
  deriving DecidableEq, Repr

/-- The link controller (07_the_plant_link.md). `rate` is the bit rate, absent until an image or a leader fixes it (R152);
`nextSeq` numbers the records in their order of entry. -/
structure Link where
  a : LinkChannel
  b : LinkChannel
  queue : List Queued
  nextSeq : Nat
  recent : List Identity
  formatErrors : Nat
  overflow : Nat
  unsent : Nat
  rate : Option BitRate
  service : Bool
  deriving DecidableEq, Repr

/-! ### The request handler and the output lines -/

/-- The last refusal (R166). -/
structure LastRefusal where
  order : Bool
  code : Byte
  source : Byte
  tag : Byte
  outcome : RequestOutcome
  deriving DecidableEq, Repr

/-- The request handler (08_queries_and_orders.md). -/
structure Requests where
  queries : Nat
  accepted : Nat
  refused : Nat
  unknown : Nat
  lastRefusal : Option LastRefusal
  deriving DecidableEq, Repr

/-- One alert line (R181, R182): its mode (none until loading ends), its group, its OR as last worked out, and whether its
pulse timer runs. -/
structure AlertLine where
  mode : Option AlertMode
  group : Byte
  lastOr : Bool
  pulse : Bool
  deriving DecidableEq, Repr

/-- The alert outputs (10_alert_and_phase_lines.md); `estimatedStrike` is the estimated-strike state (R184). -/
structure Alerts where
  one : AlertLine
  two : AlertLine
  estimatedStrike : Bool
  deriving DecidableEq, Repr

/-! ### The whole station -/

/-- One 3140 and the commands that wait for it, first in, first out. -/
structure State where
  loader : Loader
  settings : Option Settings
  time : TimeBase
  inputs : Vector InputLine 8
  bank : Bank
  meter : MeterPort
  book : Book
  contributors : List Peer
  subscriptions : List Peer
  link : Link
  requests : Requests
  alerts : Alerts
  pending : List Instr
  deriving DecidableEq, Repr

/-- No command of this station ends in a fault: the spec gives every event an effect or says that it has none (log entry 2).
The type has no constructor, so that nothing can raise one. -/
inductive Fault where
  deriving DecidableEq, Repr

/-- The reasons a command is refused. -/
inductive Refusal where
  /-- Raised only by an arm of Dispatch.lean for a row that has no meaning yet; safe. No arm raises it in this model. -/
  | notModelled (mnemonic : String)
  deriving DecidableEq, Repr

/-! ### The state after a hardware reset -/

/-- Straps not yet sampled (log entry 4): all low, as unfitted straps read (R169). -/
def Straps.unfitted : Straps := ⟨false, false, false, false, false, false⟩

/-- The loader while RESET is held (R168). -/
def Loader.atReset : Loader :=
  { phase := .held, attempt := 0, sent := [], straps := Straps.unfitted, image := [], own := none, source := .straps, clamped := false }

/-- Time base and period control after a hardware reset (R168, table of 01_periods_and_the_period_mark.md). -/
def TimeBase.atReset : TimeBase :=
  { accounting := .loading, source := .internal, seconds := 0, lossWatch := false, skipped := 0, stale := 0,
    starting := true, timebase := false, gap := false, sampleDue := false }

/-- An input line before reset release samples it (log entry 4). -/
def InputLine.atReset : InputLine := { level := .low, lastRise := none, lastFall := none }

/-- A channel after a hardware reset: all 0 (R35). -/
def ChannelState.atReset : ChannelState := { held := 0, counted := 0, credited := 0 }

/-- The job of a station that runs none: 0 g at 0 gobs, as the CONDITION answer shows it (R189, log entry 4). -/
def Job.absent : Job := { gob := 0, perCut := 0 }

/-- The accumulator bank after a hardware reset (R168). -/
def Bank.atReset : Bank :=
  { channels := Vector.replicate 8 ChannelState.atReset, pull := 0, reject := 0, cuts := 0, runSeconds := 0,
    job := Job.absent, carry := 0 }

/-- A meter entry after a hardware reset (R47). -/
def MeterEntry.atReset : MeterEntry :=
  { state := .noReference, miss := 0, rounds := 1, reference := none, alarm := false }

/-- The meter port after a hardware reset (R47, R58). -/
def MeterPort.atReset : MeterPort :=
  { entries := Vector.replicate 8 MeterEntry.atReset, poll := none, quietTime := 0, overruns := 0, failedPolls := 0,
    discontinuities := 0, alarmSeen := false }

/-- Energy totals of 0. -/
def EnergyTotals.zero : EnergyTotals := ⟨0, 0, 0, 0, 0⟩

/-- The LINE campaign totals at 0, with one share total for each station named. -/
def LineTotals.zero (stations : List Nat) : LineTotals :=
  { energy := EnergyTotals.zero, shares := stations.map fun n => (n, 0), eLine := 0, pull := 0, reject := 0, good := 0,
    runSeconds := 0, struck := 0, estimated := 0, skipped := 0 }

/-- The apportioning campaign totals at 0. -/
def AllotTotals.zero : AllotTotals := ⟨0, 0, 0, 0, 0⟩

/-- The book after a hardware reset: empty (R61). -/
def Book.atReset : Book :=
  { entries := [], line := LineTotals.zero [], allot := AllotTotals.zero, zeroPending := false, late := 0 }

/-- A link channel while RESET is held; reset release reads its inhibit input (R138, R168). -/
def LinkChannel.atReset : LinkChannel :=
  { state := .active, echoFaults := 0, probe := false, quietTime := 0, counted := none, receiving := false, errors := 0,
    inFlight := none }

/-- The link controller after a hardware reset (R168). -/
def Link.atReset : Link :=
  { a := LinkChannel.atReset, b := LinkChannel.atReset, queue := [], nextSeq := 0, recent := [], formatErrors := 0,
    overflow := 0, unsent := 0, rate := none, service := false }

/-- The request handler after a hardware reset (R168). -/
def Requests.atReset : Requests := { queries := 0, accepted := 0, refused := 0, unknown := 0, lastRefusal := none }

/-- An alert line after a hardware reset: released, no mode, an empty group (R181). -/
def AlertLine.atReset : AlertLine := { mode := none, group := 0, lastOr := false, pulse := false }

/-- The alert outputs after a hardware reset (R181, R184). -/
def Alerts.atReset : Alerts := { one := AlertLine.atReset, two := AlertLine.atReset, estimatedStrike := false }

/-- The machine right after reset: RESET still held, every block in its reset state (R168), no command waiting. -/
def State.reset : State :=
  { loader := Loader.atReset, settings := none, time := TimeBase.atReset,
    inputs := Vector.replicate 8 InputLine.atReset, bank := Bank.atReset, meter := MeterPort.atReset,
    book := Book.atReset, contributors := [], subscriptions := [], link := Link.atReset, requests := Requests.atReset,
    alerts := Alerts.atReset, pending := [] }

end Sys2Proof.Machine
end

