-- ==== Sys2Proof/Machine/Flags.lean ====
section
/-! DEFINITION. Every flag and condition: the entry flags, the causes of the METER and CHANNEL conditions, the condition word
of a frame header, the members of an alert group, the phase code. -/

namespace Sys2Proof

/-- The level an edge ends at (R25). -/
def Edge.endLevel : Edge → Level
  | .rising => .high
  | .falling => .low

end Sys2Proof

namespace Sys2Proof.Machine

open Sys2Proof

/-! ### Levels, edges and the activity of input lines -/

/-- The counted edge of a pulse role (R26). -/
def Polarity.countedEdge : Polarity → Edge
  | .risingHigh => .rising
  | .fallingLow => .falling

/-- The active level of a level role (R27). -/
def Polarity.activeLevel : Polarity → Level
  | .risingHigh => .high
  | .fallingLow => .low

/-- A line with a level role is active while its debounced level equals its active level (R27). -/
def lineActive (setup : LineSetup) (line : InputLine) : Bool :=
  line.level == setup.polarity.activeLevel

/-- Some line of the given role is active; false without a configuration (R27). -/
def State.anyActive (s : State) (role : LineRole) : Bool :=
  match s.settings with
  | none => false
  | some c => (List.finRange 8).any fun i => c.lines[i].role == role && lineActive c.lines[i] s.inputs[i]

/-- At least one FAULT line is active (R42). -/
def State.faultActive (s : State) : Bool := s.anyActive .fault

/-- The configuration gives some line the role. -/
def State.hasRole (s : State) (role : LineRole) : Bool :=
  match s.settings with
  | none => false
  | some c => (List.finRange 8).any fun i => c.lines[i].role == role

/-! ### The conditions -/

/-- At least one configured meter entry is FAILED (R56, R57). -/
def State.meterFailed (s : State) : Bool :=
  match s.settings with
  | none => false
  | some c => (List.finRange 8).any fun i => c.meters[i].isSome && s.meter.entries[i].state == .failed

/-- The METER condition is held set while any of its three causes holds (R57). -/
def State.meterCondition (s : State) : Bool := s.faultActive || s.meterFailed || s.meter.alarmSeen

/-- The CHANNEL condition is set while either channel is not ACTIVE (R139). -/
def State.channelCondition (s : State) : Bool := s.link.a.state != .active || s.link.b.state != .active

/-- The station is listen-only while its number is invalid, and while both channels are INHIBITED (R144). -/
def State.listenOnly (s : State) : Bool :=
  s.loader.own.isNone || (s.link.a.state == .inhibited && s.link.b.state == .inhibited)

/-- A byte of eight flags, the first in bit 7. -/
def byteOfBits (b7 b6 b5 b4 b3 b2 b1 b0 : Bool) : Byte :=
  BitVec.ofNat 8 (b7.toNat * 128 + b6.toNat * 64 + b5.toNat * 32 + b4.toNat * 16 + b3.toNat * 8 + b2.toNat * 4
    + b1.toNat * 2 + b0.toNat)

/-- The condition word: seven flags of the station as they stand, and the record's ESTIMATED flag (R149, R187). -/
def State.conditionWord (s : State) (estimated : Bool) : Byte :=
  byteOfBits s.time.starting s.meterCondition estimated s.time.timebase s.loader.clamped s.channelCondition s.time.gap
    s.link.service

/-! ### Alert groups and the phase code -/

/-- The members of an alert group that are true, in the bits of R191. -/
def State.alertMembers (s : State) : Byte :=
  byteOfBits s.alerts.estimatedStrike (s.time.accounting == .unconfigured) s.loader.clamped s.link.service s.time.gap
    s.time.timebase s.channelCondition s.meterCondition

/-- The OR of a group's members; an empty group's is always false (R181). -/
def State.groupOr (s : State) (group : Byte) : Bool := group &&& s.alertMembers != 0

/-- The alert line is active: exactly while its OR is true in LEVEL mode (R181), while its pulse timer runs in PULSE mode
(R182), never before it has a mode. -/
def AlertLine.active (l : AlertLine) : Bool :=
  match l.mode with
  | none => false
  | some .level => l.lastOr
  | some .pulse => l.pulse

/-- At least one entry is SETTLING (R185). -/
def State.anySettling (s : State) : Bool := s.book.entries.any fun e => e.state == .settling

/-- The phase code PH1 PH0 (R185). -/
def State.phaseCode (s : State) : Bool × Bool :=
  match s.time.accounting with
  | .loading | .unconfigured => (true, false)
  | .starting => (true, true)
  | .accounting => (false, s.anySettling)

/-! ### Entry flags -/

/-- No flag set. -/
def EntryFlags.none : EntryFlags :=
  ⟨false, false, false, false, false, false, false, false, false, false, false⟩

/-- The measurement flags that a tally carries (R108). -/
def EntryFlags.measurement (f : EntryFlags) : EntryFlags :=
  { EntryFlags.none with meterFault := f.meterFault, catchUp := f.catchUp, discontinuity := f.discontinuity,
                         jobChange := f.jobChange, saturated := f.saturated, timebase := f.timebase }

/-- The 2-byte field of the entry flags (R187). -/
def EntryFlags.bits (f : EntryFlags) : Nat :=
  f.meterFault.toNat + f.catchUp.toNat * 2 + f.discontinuity.toNat * 4 + f.estimated.toNat * 8 + f.revised.toNat * 16
    + f.excluded.toNat * 32 + f.noBasis.toNat * 64 + f.jobChange.toNat * 128 + f.saturated.toNat * 256
    + f.timebase.toNat * 512 + f.preZero.toNat * 1024

/-- The flags with METER-FAULT set. -/
def EntryFlags.withMeterFault (f : EntryFlags) : EntryFlags := { f with meterFault := true }

/-- The flags with CATCH-UP set. -/
def EntryFlags.withCatchUp (f : EntryFlags) : EntryFlags := { f with catchUp := true }

/-- The flags with DISCONTINUITY set. -/
def EntryFlags.withDiscontinuity (f : EntryFlags) : EntryFlags := { f with discontinuity := true }

/-- The flags with JOB-CHANGE set. -/
def EntryFlags.withJobChange (f : EntryFlags) : EntryFlags := { f with jobChange := true }

/-- The flags with SATURATED set. -/
def EntryFlags.withSaturated (f : EntryFlags) : EntryFlags := { f with saturated := true }

/-- The flags with TIMEBASE set. -/
def EntryFlags.withTimebase (f : EntryFlags) : EntryFlags := { f with timebase := true }

end Sys2Proof.Machine
end

