-- ==== Sys2Proof/Machine/Ops.lean ====
section
/-! DEFINITION. The named operations the meanings share: holding arithmetic, the half-range rule, the division of energy, the
views and updates of the book, the accumulator bank and the alert lines. -/

namespace Sys2Proof.Machine

open Sys2Proof

/-! ### Arithmetic -/

/-- A quantity that holds at its limit. -/
def hold (limit n : Nat) : Nat := min limit n

/-- A station counter grows by k, holding at 65,535 (R167). -/
def grow (counter k : Nat) : Nat := hold Config.counterLimit (counter + k)

/-- A quotient rounded half up: the exact quotient rounded down, then raised by 1 when twice the remainder is at least the
divisor (R97, R121). -/
def roundHalfUp (n d : Nat) : Nat := n / d + if d ≤ 2 * (n % d) then 1 else 0

/-- A specific energy consumption: 10,000 times the energy over the divisor, rounded half up and held at 65,535; absent when
the divisor is 0 (R77, R97, R121). -/
def specificEnergy (energy divisor : Nat) : Option Nat :=
  if divisor = 0 then none else some (hold Config.counterLimit (roundHalfUp (10000 * energy) divisor))

/-- The specific energy consumption would pass 65,535 (R77, R97, R121). -/
def specificEnergySaturates (energy divisor : Nat) : Bool :=
  divisor != 0 && decide (Config.counterLimit < roundHalfUp (10000 * energy) divisor)

/-- The share of a basis value b in E over the total basis B: floor(E × b / B), and 0 when B is 0 (R94, R96, R111). -/
def shareOf (e b total : Nat) : Nat := if total = 0 then 0 else e * b / total

/-! ### Period numbers -/

/-- How far n lies after p: (n - p) modulo 65,536 (R1). -/
def periodsAfter (n p : Period) : Nat := (n - p).toNat

/-- The half-range rule: n is newer than p (R1). -/
def isNewer (n p : Period) : Bool := decide (1 ≤ periodsAfter n p ∧ periodsAfter n p ≤ 32767)

/-! ### The book: finding entries -/

/-- The open entry (R61: at most one, the newest). -/
def State.openEntry (s : State) : Option Entry := s.book.entries.find? fun e => e.state == .opened

/-- The open period number: absent while the lead-in is open or no entry is open. -/
def State.openNumber (s : State) : Option Period := s.openEntry.bind Entry.number

/-- The entry held for period n (R61). -/
def State.held (s : State) (n : Period) : Option Entry := s.book.entries.find? fun e => e.number == some n

/-- Replaces the entry that has the same number, or is the lead-in as well. -/
def replaceEntry (e : Entry) (entries : List Entry) : List Entry :=
  entries.map fun x => if x.number == e.number then e else x

/-- The book with the entry put back in its place. -/
def State.putEntry (s : State) (e : Entry) : State :=
  { s with book := { s.book with entries := replaceEntry e s.book.entries } }

/-- Gives the open entry among the entries the flags f makes of its flags. -/
def flagOpened (f : EntryFlags → EntryFlags) (entries : List Entry) : List Entry :=
  entries.map fun e => if e.state == .opened then { e with flags := f e.flags } else e

/-- Gives the open entry the flags f makes of its flags; with no open entry nothing changes. -/
def State.flagOpen (s : State) (f : EntryFlags → EntryFlags) : State :=
  { s with book := { s.book with entries := flagOpened f s.book.entries } }

/-! ### Alert lines -/

/-- An alert line takes its newly worked-out OR: a rise in PULSE mode starts the pulse timer, and a fall does not end a pulse
(R181, R182). A line with no mode yet stays as it is. -/
def AlertLine.take (l : AlertLine) (now : Bool) : AlertLine :=
  match l.mode with
  | none => l
  | some .level => { l with lastOr := now }
  | some .pulse => { l with lastOr := now, pulse := l.pulse || (now && !l.lastOr) }

/-- Both grouped ORs are worked out again, as at every event that changes the truth of a member (R181). -/
def State.refreshAlerts (s : State) : State :=
  { s with alerts := { s.alerts with one := s.alerts.one.take (s.groupOr s.alerts.one.group),
                                     two := s.alerts.two.take (s.groupOr s.alerts.two.group) } }

/-- Sets the SERVICE condition (R150). -/
def State.setService (s : State) : State := { s with link := { s.link with service := true } }.refreshAlerts

/-- Clears the SERVICE condition (R150). -/
def State.clearService (s : State) : State := { s with link := { s.link with service := false } }.refreshAlerts

/-- A record is dropped as late: the late counter grows and SERVICE is set (R74). -/
def State.dropLate (s : State) : State :=
  State.setService { s with book := { s.book with late := grow s.book.late 1 } }

/-! ### The accumulator bank -/

/-- What an accumulator holds after an amount arrives: the sum, held at 2^40 - 1 (R31). -/
def accumulate (held amount : Nat) : Nat := hold Config.accumulatorLimit (held + amount)

/-- A channel takes an amount of sixteenths: the counted count grows by what the accumulator actually took (R31, R32). -/
def ChannelState.credit (c : ChannelState) (amount : Nat) : ChannelState :=
  { c with held := accumulate c.held amount,
           counted := c.counted + BitVec.ofNat 64 (accumulate c.held amount - c.held) }

/-- An amount of sixteenths arrives at channel i; a sum that would pass the limit gives the open entry SATURATED (R31, R32). -/
def State.creditChannel (s : State) (i : Fin 8) (amount : Nat) : State :=
  let t := { s with bank := { s.bank with channels := s.bank.channels.set i (s.bank.channels[i].credit amount) } }
  if Config.accumulatorLimit < s.bank.channels[i].held + amount then t.flagOpen EntryFlags.withSaturated else t

/-- The configured channel that a source feeds (R30: at most one). -/
def Settings.channelOf (c : Settings) (source : ChannelSource) : Option (Fin 8) :=
  (List.finRange 8).find? fun i => (c.channels[i].map ChannelSetup.source) == some source

/-- An amount delivered for a source is added to the channel that has it; the bank discards an amount that no configured
channel takes (R31, R32). -/
def State.deliver (s : State) (c : Settings) (source : ChannelSource) (amount : Nat) : State :=
  match c.channelOf source with
  | none => s
  | some i => s.creditChannel i amount

/-- A mass or count of the open period after an addition, held at 4,294,967,295 (R36, R37). -/
def addQuantity (quantity amount : Nat) : Nat := hold Config.quantityLimit (quantity + amount)

/-- Gives the open entry SATURATED when the test holds (R36, R37). -/
def State.saturateIf (s : State) (test : Bool) : State :=
  if test then s.flagOpen EntryFlags.withSaturated else s

/-! ### Input lines -/

/-- The debounced level of line i takes the level at the end of the edge (R25). -/
def State.setLevel (s : State) (i : Fin 8) (edge : Edge) : State :=
  { s with inputs := s.inputs.set i { s.inputs[i] with level := edge.endLevel } }

/-- Line i has the role, as the loader took it. -/
def State.lineHasRole (s : State) (i : Fin 8) (role : LineRole) : Bool :=
  match s.settings with
  | none => false
  | some c => c.lines[i].role == role

/-- The edge of line i that its pulse role counts (R26); RISING without a configuration. -/
def State.countedEdge (s : State) (i : Fin 8) : Edge :=
  match s.settings with
  | none => .rising
  | some c => c.lines[i].polarity.countedEdge

/-- An edge can occur on line i: its debounced level stands at the other level (R25). -/
def State.edgePossible (s : State) (i : Fin 8) (edge : Edge) : Bool := s.inputs[i].level != edge.endLevel

/-- A counted edge of a pulse role can occur on line i (R26, R28). -/
def State.pulsePossible (s : State) (i : Fin 8) (role : LineRole) : Bool :=
  s.lineHasRole i role && s.edgePossible i (s.countedEdge i)

/-- The role of the station, once an image is loaded. -/
def State.role (s : State) : Option Role := s.settings.map Settings.role

/-- The station is a LINE. -/
def State.isLine (s : State) : Bool := s.role == some .line

/-- The station measures: its state is STARTING or ACCOUNTING (R2). -/
def State.measuring (s : State) : Bool :=
  s.time.accounting == .starting || s.time.accounting == .accounting

/-- RESET is held (R168). -/
def State.inReset (s : State) : Bool := s.loader.phase == .held

end Sys2Proof.Machine
end

