-- ==== Sys2Proof/Machine/Formats.lean ====
section
/-! DEFINITION. The byte layouts of 12_record_and_image_formats.md: numbers, the frame, its check word and its cells, record
payloads and answer bodies. -/

namespace Sys2Proof

/-! ### Numbers and the check word -/

/-- A number in w bytes, the most significant byte first (R186). -/
def toBytes : Nat → Nat → List Byte
  | 0, _ => []
  | w + 1, n => BitVec.ofNat 8 (n / 256 ^ w) :: toBytes w n

/-- The number that bytes spell, the most significant byte first (R186). -/
def ofBytes (bytes : List Byte) : Nat := bytes.foldl (fun n b => n * 256 + b.toNat) 0

/-- One byte holding a number. -/
def byte (n : Nat) : Byte := BitVec.ofNat 8 n

/-- The bits of a byte, the most significant first: as a frame sends them and as the serial memory passes them (R129, R171). -/
def bitsOf (b : Byte) : List Bool := (List.range 8).map fun i => b.getLsbD (7 - i)

/-- The level of a bit on a line of one conductor: HIGH for 1 (log entries 38 and 40). -/
def levelOf (bit : Bool) : Level := if bit then .high else .low

/-- One bit enters the CRC register: polynomial x^16 + x^12 + x^5 + 1, no reflection (R129). -/
def crcBit (register : CheckWord) (bit : Bool) : CheckWord :=
  if register.msb != bit then (register <<< 1) ^^^ 0x1021#16 else register <<< 1

/-- One byte enters the CRC register, the most significant bit first (R129). -/
def crcByte (register : CheckWord) (b : Byte) : CheckWord :=
  [7, 6, 5, 4, 3, 2, 1, 0].foldl (fun r i => crcBit r (b.getLsbD i)) register

/-- The check word of a string of bytes: register preset to all ones, no final inversion (R129). -/
def crc (bytes : List Byte) : CheckWord := bytes.foldl crcByte 0xFFFF#16

/-! ### Frames -/

/-- The 8 bytes of the header (R187). -/
def Frame.header (f : Frame) : List Byte :=
  [f.kind ++ f.revision, f.source, f.destination] ++ toBytes 2 f.period.toNat
    ++ [f.condition, f.tag, byte f.payload.length]

/-- Header, payload and check word in the order sent (R129). -/
def Frame.bytes (f : Frame) : List Byte :=
  f.header ++ f.payload ++ toBytes 2 (crc (f.header ++ f.payload)).toNat

/-- How long a frame lasts: 91 + 8L bit times (R129). -/
def Frame.bitTimes (f : Frame) : Nat := 91 + 8 * f.payload.length

/-! ### Cells (R128, R129) -/

/-- How long a cell lasts, in microseconds: one bit time of the rate (R128). -/
def BitRate.cellTime : BitRate → Nat
  | .r62 => 16
  | .r125 => 8
  | .r250 => 4

/-- The other level of a pair. -/
def Level.opposite : Level → Level
  | .high => .low
  | .low => .high

/-- The level at the end of a cell that begins when the pair stands at `before`: a 1 changes it twice, a 0 once (R128). -/
def cellEnd (before : Level) (bit : Bool) : Level := if bit then before else before.opposite

/-- The cells of a string of bits, one level for each half bit time, on a pair that stands at `before`: the level changes at the
start of every cell, and a second time at the middle of a cell that carries a 1 (R128). -/
def cells : Level → List Bool → List Level
  | _, [] => []
  | before, bit :: bits => before.opposite :: cellEnd before bit :: cells (cellEnd before bit) bits

/-- The leader: 8 cells carrying 1, 0, 1, 0, 1, 0, 1, 0 (R129). -/
def leader : List Bool := [true, false, true, false, true, false, true, false]

/-- The start pattern after cells that end at `before`: one level for one and a half bit times, then the opposite level for as
long, each level changing at its start (R129, log entry 39). -/
def startPattern (before : Level) : List Level := List.replicate 3 before.opposite ++ List.replicate 3 before

/-- The bits of header, payload and check word in the order sent, each byte with its most significant bit first (R129). -/
def Frame.bits (f : Frame) : List Bool := f.bytes.flatMap bitsOf

/-- The levels that a frame drives, one for each half bit time, on a pair that rests at `rest`: leader, start pattern, and the
cells of header, payload and check word (R128, R129). The manual names no rest level, so that it is an argument; that the first
cell begins with a change from it is the model's reading (log entry 39). -/
def Frame.wave (rest : Level) (f : Frame) : List Level :=
  let lead := cells rest leader
  let start := startPattern (lead.getLastD rest)
  lead ++ start ++ cells (start.getLastD rest) f.bits

/-! ### Receiving -/

/-- What a receiver collects of a frame that reaches it whole. -/
def Frame.received (f : Frame) : RawFrame := { bytes := f.bytes, spareBits := 0, gap := false }

/-- The check word at the end of the bytes is the CRC of the bytes before it (R129, R130). -/
def RawFrame.checks (r : RawFrame) : Bool :=
  r.bytes.drop (r.bytes.length - 2) == toBytes 2 (crc (r.bytes.take (r.bytes.length - 2))).toNat

/-- The receive errors (R130). -/
def RawFrame.isError (r : RawFrame) : Bool :=
  decide (r.bytes.length < 10) || r.spareBits != 0 || r.gap || decide (10 + Config.maxPayload < r.bytes.length)
    || r.bytes.length != 10 + (r.bytes.getD 7 0).toNat || !r.checks

end Sys2Proof

namespace Sys2Proof.Machine

open Sys2Proof

/-! ### Codes (R187, R188, R189) -/

/-- The kind of a record in the header (R187). -/
def RecordKind.code : RecordKind → Nibble
  | .mark => 1
  | .tally => 2
  | .allotment => 3
  | .answer => 6

/-- The carrier codes (00_scope.md). -/
def Carrier.code : Carrier → Nat
  | .gas => 1
  | .electric => 2
  | .oxygen => 3
  | .air => 4
  | .other => 5

/-- The kind codes of an entry (R187). -/
def EntryKind.code : EntryKind → Nat
  | .leadIn => 1
  | .regular => 2
  | .irregular => 3

/-- The state codes of an entry (R187). -/
def EntryState.code : EntryState → Nat
  | .opened => 1
  | .settling => 2
  | .struck => 3

/-- The cause codes of an entry (R187). -/
def Cause.code : Cause → Nat
  | .ownExpiry => 1
  | .mark _ => 2
  | .evidence _ => 3
  | .soloStart => 4
  | .start => 5

/-- The station of a cause, 0 where it has none (R189). -/
def Cause.station : Cause → Nat
  | .mark n | .evidence n => n
  | _ => 0

/-- The basis kind codes (R187). -/
def BasisKind.code : BasisKind → Nat
  | .mass => 1
  | .good => 2
  | .runtime => 3

/-- The share state codes (R189). -/
def ShareState.code : ShareState → Nat
  | .absent => 1
  | .estimated => 2
  | .received => 3

/-- The contributor state codes (R189). -/
def ItemState.code : ItemState → Nat
  | .received => 1
  | .estimated => 2
  | .excluded => 3

/-- The outcome codes (R188). -/
def RequestOutcome.code : RequestOutcome → Nat
  | .answered => 1
  | .notHeld => 2
  | .pending => 3
  | .notReady => 4
  | .unknown => 5
  | .accepted => 6
  | .refusedCode => 7
  | .refusedRole => 8
  | .refusedRange => 9
  | .refusedState => 10

/-- The accounting state codes (R189). -/
def Accounting.code : Accounting → Nat
  | .loading => 1
  | .unconfigured => 2
  | .starting => 3
  | .accounting => 4

/-- The role codes, 0 when there is none (R189). -/
def roleCode : Option Role → Nat
  | none => 0
  | some .line => 1
  | some .furnace => 2
  | some .pool => 3

/-- The base-source state codes (R189). -/
def BaseSource.code : BaseSource → Nat
  | .internal => 1
  | .external => 2
  | .fallback => 3

/-- The channel state codes (R189). -/
def ChanState.code : ChanState → Nat
  | .active => 1
  | .failed => 2
  | .inhibited => 3

/-- The input role codes (R189). -/
def LineRole.code : LineRole → Nat
  | .unused => 0
  | .energy => 1
  | .cut => 2
  | .reject => 3
  | .running => 4
  | .fault => 5
  | .second => 6

/-- The meter state codes (R189). -/
def MeterState.code : MeterState → Nat
  | .noReference => 1
  | .active => 2
  | .failed => 3

/-- The source code of a channel: 1 to 8 for IN1 to IN8, 9 to 16 for meter entries 1 to 8 (R189). -/
def ChannelSource.code : ChannelSource → Nat
  | .line i => i.val + 1
  | .meter m => m.val + 9

/-! ### Record payloads (R188) -/

/-- The carrier items of an entry: 5 bytes each (R187). -/
def carrierItems (carriers : List (Carrier × Nat)) : List Byte :=
  carriers.flatMap fun c => byte c.1.code :: toBytes 4 c.2

/-- The payload of the TALLY of a LINE entry (R108, R188). -/
def tallyPayload (e : Entry) (p : LinePart) : List Byte :=
  byte e.kind.code :: toBytes 2 e.flags.measurement.bits ++ toBytes 2 e.duration ++ toBytes 4 p.pull ++ toBytes 4 p.reject
    ++ toBytes 4 p.good ++ toBytes 2 p.runSeconds ++ toBytes 4 p.cuts ++ [byte e.carriers.length] ++ carrierItems e.carriers

/-- The listed contributors: those whose items are RECEIVED or ESTIMATED (R93). -/
def listedItems (items : List ContributorItem) : List ContributorItem := items.filter fun i => i.state != .excluded

/-- An item of an ALLOTMENT: the station in bits 0 to 4, the estimated indication in bit 7, the basis value (R188). -/
def allotmentItem (i : ContributorItem) : List Byte :=
  byte (i.station % 32 + (i.state == .estimated).toNat * 128) :: toBytes 4 i.basis

/-- The payload of the ALLOTMENT of an apportioning entry (R100, R188). -/
def allotmentPayload (p : AllotPart) : List Byte :=
  toBytes 4 p.e ++ [byte p.basis.code] ++ toBytes 6 p.b ++ [byte (listedItems p.items).length]
    ++ (listedItems p.items).flatMap allotmentItem

/-! ### Answer bodies: book entries (R157, R189) -/

/-- The common fields of an entry answer's part 0 (R189). -/
def entryCommon (e : Entry) : List Byte :=
  [byte e.kind.code, byte e.state.code, byte e.cause.code, byte e.cause.station] ++ toBytes 2 e.duration
    ++ toBytes 2 e.flags.bits ++ [byte e.revisions, byte e.carriers.length] ++ carrierItems e.carriers

/-- What part 0 adds for a LINE entry (R189). -/
def linePart0 (p : LinePart) : List Byte :=
  let r := p.result.getD { eLine := 0, secGood := none, secPull := none }
  toBytes 4 p.pull ++ toBytes 4 p.reject ++ toBytes 4 p.good ++ toBytes 2 p.runSeconds ++ toBytes 4 p.cuts
    ++ toBytes 5 r.eLine ++ toBytes 2 (r.secGood.getD 0) ++ toBytes 2 (r.secPull.getD 0)
    ++ [byte (r.secGood.isSome.toNat + r.secPull.isSome.toNat * 2)]

/-- How many items stand in a state. -/
def countItems (state : ItemState) (items : List ContributorItem) : Nat := items.countP fun i => i.state == state

/-- What part 0 adds for an apportioning entry (R189). -/
def allotPart0 (p : AllotPart) : List Byte :=
  toBytes 4 p.e ++ [byte p.basis.code] ++ toBytes 6 p.b ++ [byte p.revision] ++ toBytes 4 (p.residue.getD 0)
    ++ [byte (countItems .received p.items), byte (countItems .estimated p.items), byte (countItems .excluded p.items)]
    ++ toBytes 2 (p.sec.getD 0) ++ [byte p.sec.isSome.toNat]

/-- A LINE share item, 23 bytes (R189). Bit 2 of the presence byte is the estimated indication (log entry 18). -/
def shareItemBytes (i : ShareItem) : List Byte :=
  let listed := i.allotment.bind AllotmentFigures.listed
  [byte i.station, byte i.state.code,
    byte (i.allotment.isSome.toNat + listed.isSome.toNat * 2 + (listed.map Prod.snd == some true).toNat * 4),
    byte ((i.allotment.map fun a => a.revision.toNat).getD 0)]
    ++ toBytes 4 i.share ++ toBytes 4 ((i.allotment.map AllotmentFigures.e).getD 0)
    ++ toBytes 6 ((i.allotment.map AllotmentFigures.b).getD 0)
    ++ [byte ((i.allotment.map fun a => a.basis.code).getD 0)] ++ toBytes 4 ((listed.map Prod.fst).getD 0)

/-- An apportioning contributor item, 10 bytes, with the share worked out for the answer (R157, R189). -/
def contributorItemBytes (p : AllotPart) (i : ContributorItem) : List Byte :=
  [byte i.station, byte i.state.code] ++ toBytes 4 i.basis
    ++ toBytes 4 (if i.state == .excluded then 0 else shareOf p.e i.basis p.b)

/-- A list of items preceded by its count byte (R186). -/
def counted {α : Type} (encode : α → List Byte) (items : List α) : List Byte :=
  byte items.length :: items.flatMap encode

/-- The body of the requested part of an entry (R154, R157). -/
def entryBody (e : Entry) (part : Nat) : List Byte :=
  match e.part with
  | .line p =>
    if part = 0 then entryCommon e ++ linePart0 p
    else if part = 1 then counted shareItemBytes p.shares
    else counted shareItemBytes []
  | .apportioning p =>
    if part = 0 then entryCommon e ++ allotPart0 p
    else if part = 1 then counted (contributorItemBytes p) (p.items.take 8)
    else counted (contributorItemBytes p) (p.items.drop 8)

/-! ### Answer bodies: campaign, condition, channels (R158 to R160, R189) -/

/-- A campaign total in 6 bytes (R189). -/
def totalBytes (t : Total) : List Byte := toBytes 6 t.toNat

/-- The CAMPAIGN body of a LINE station (R158, R189). -/
def campaignLine (t : LineTotals) (zeroPending : Bool) : List Byte :=
  totalBytes t.energy.gas ++ totalBytes t.energy.electric ++ totalBytes t.energy.oxygen ++ totalBytes t.energy.air
    ++ totalBytes t.energy.other ++ counted (fun p => byte p.1 :: totalBytes p.2) t.shares
    ++ totalBytes t.eLine ++ totalBytes t.pull ++ totalBytes t.reject ++ totalBytes t.good ++ totalBytes t.runSeconds
    ++ totalBytes t.struck ++ totalBytes t.estimated ++ totalBytes t.skipped
    ++ toBytes 2 ((specificEnergy t.eLine.toNat t.good.toNat).getD 0)
    ++ toBytes 2 ((specificEnergy t.eLine.toNat t.pull.toNat).getD 0)
    ++ [byte (zeroPending.toNat + (specificEnergy t.eLine.toNat t.good.toNat).isSome.toNat * 2
          + (specificEnergy t.eLine.toNat t.pull.toNat).isSome.toNat * 4
          + (specificEnergySaturates t.eLine.toNat t.good.toNat).toNat * 8
          + (specificEnergySaturates t.eLine.toNat t.pull.toNat).toNat * 16)]

/-- The divisor of the campaign SEC: a FURNACE's total basis; a POOL gives none (R77). -/
def campaignDivisor (role : Role) (t : AllotTotals) : Nat :=
  match role with
  | .furnace => t.basis.toNat
  | _ => 0

/-- The CAMPAIGN body of an apportioning station (R158, R189). -/
def campaignAllot (role : Role) (basis : BasisKind) (t : AllotTotals) (zeroPending : Bool) : List Byte :=
  byte basis.code :: totalBytes t.measured ++ totalBytes t.allotted ++ totalBytes t.undistributed ++ totalBytes t.basis
    ++ totalBytes t.struck ++ toBytes 2 ((specificEnergy t.measured.toNat (campaignDivisor role t)).getD 0)
    ++ [byte (zeroPending.toNat + (specificEnergy t.measured.toNat (campaignDivisor role t)).isSome.toNat * 2
          + (specificEnergySaturates t.measured.toNat (campaignDivisor role t)).toNat * 4)]

/-- The CAMPAIGN body of the station (R158); empty without a configuration. -/
def State.campaignBody (s : State) : List Byte :=
  match s.settings with
  | none => []
  | some c =>
    match c.role with
    | .line => campaignLine s.book.line s.book.zeroPending
    | r => campaignAllot r c.basis s.book.allot s.book.zeroPending

/-- The five bytes of the last refusal, zeros when there is none (R189). -/
def lastRefusalBytes : Option LastRefusal → List Byte
  | none => toBytes 5 0
  | some r => [r.code, r.source, r.tag, byte r.outcome.code, 0]

/-- The CONDITION body, part 0 (R159, R189). -/
def State.conditionPart0 (s : State) : List Byte :=
  [byte s.time.accounting.code, byte (roleCode s.role), byte (s.loader.own.getD 0),
    byte ((s.loader.source == .image).toNat + s.listenOnly.toNat * 2 + s.openNumber.isSome.toNat * 4
      + s.requests.lastRefusal.isSome.toNat * 8
      + ((s.requests.lastRefusal.map LastRefusal.order) == some true).toNat * 16),
    s.conditionWord false]
    ++ toBytes 2 ((s.openNumber.map BitVec.toNat).getD 0)
    ++ [byte s.time.source.code, byte s.book.entries.length, byte (s.book.entries.countP fun e => e.state == .settling)]
    ++ ((s.settings.map Settings.tag).getD (toBytes 6 0))
    ++ toBytes 2 s.bank.job.gob ++ [byte s.bank.job.perCut]
    ++ toBytes 2 s.time.stale ++ toBytes 2 s.time.skipped ++ toBytes 2 s.book.late
    ++ toBytes 2 s.requests.queries ++ toBytes 2 s.requests.accepted ++ toBytes 2 s.requests.refused
    ++ toBytes 2 s.requests.unknown ++ lastRefusalBytes s.requests.lastRefusal

/-- The two bytes of a link channel in CONDITION part 1 (R189). -/
def linkChannelBytes (c : LinkChannel) : List Byte :=
  [byte (c.state.code + c.probe.toNat * 128), byte c.echoFaults]

/-- The byte of an input line in CONDITION part 1: its role as taken, UNUSED without a configuration, and its level (R189). -/
def State.lineByte (s : State) (i : Fin 8) : Byte :=
  byte (((s.settings.map fun c => c.lines[i].role.code).getD 0) + (s.inputs[i].level == .high).toNat * 128)

/-- The CONDITION body, part 1 (R159, R189). -/
def State.conditionPart1 (s : State) : List Byte :=
  linkChannelBytes s.link.a ++ linkChannelBytes s.link.b
    ++ toBytes 2 s.link.a.errors ++ toBytes 2 s.link.b.errors ++ toBytes 2 s.link.formatErrors
    ++ toBytes 2 s.link.overflow ++ toBytes 2 s.link.unsent
    ++ (List.finRange 8).map fun i => s.lineByte i

/-- The configured meter entries in table order; none without a configuration (R46). -/
def State.configuredMeters (s : State) : List (Fin 8) :=
  match s.settings with
  | none => []
  | some c => (List.finRange 8).filter fun m => c.meters[m].isSome

/-- The item of a configured meter entry in CONDITION part 2, 9 bytes (R189). -/
def State.meterItem (s : State) (m : Fin 8) : List Byte :=
  let e := s.meter.entries[m]
  [byte (m.val + 1), byte (e.state.code + e.reference.isSome.toNat * 64 + e.alarm.toNat * 128), byte e.miss]
    ++ toBytes 2 e.rounds ++ toBytes 4 (e.reference.getD 0)

/-- The CONDITION body, part 2 (R159, R189). -/
def State.conditionPart2 (s : State) : List Byte :=
  counted (fun m => s.meterItem m) s.configuredMeters
    ++ toBytes 2 s.meter.overruns ++ toBytes 2 s.meter.failedPolls ++ toBytes 2 s.meter.discontinuities

/-- An item of the station table in CONDITION part 3, 5 bytes (R189). -/
def peerBytes (p : Peer) : List Byte :=
  byte (p.station % 32 + p.last.isSome.toNat * 128) :: toBytes 4 (p.last.getD 0)

/-- The CONDITION body, part 3: basis kind and contributor table, or code 0 and the subscription table (R159, R189). -/
def State.conditionPart3 (s : State) : List Byte :=
  match s.settings with
  | none => [0, 0]
  | some c =>
    match c.role with
    | .line => 0 :: counted peerBytes s.subscriptions
    | _ => byte c.basis.code :: counted peerBytes s.contributors

/-- The CONDITION body of a part (R159). -/
def State.conditionBody (s : State) (part : Nat) : List Byte :=
  if part = 0 then s.conditionPart0
  else if part = 1 then s.conditionPart1
  else if part = 2 then s.conditionPart2
  else s.conditionPart3

/-- A channel in the CHANNELS answer, 23 bytes; an unconfigured one is sent as zeros (R160, R189). -/
def State.channelBytes (s : State) (i : Fin 8) : List Byte :=
  match s.settings.bind fun c => c.channels[i] with
  | none => toBytes 23 0
  | some setup =>
    let c := s.bank.channels[i]
    [byte setup.carrier.code, byte setup.source.code] ++ toBytes 8 c.credited.toNat ++ toBytes 5 c.held
      ++ toBytes 8 c.counted.toNat

/-- The CHANNELS body: channels 1 to 4 in part 0, 5 to 8 in part 1 (R154, R160). -/
def State.channelsBody (s : State) (part : Nat) : List Byte :=
  (((List.finRange 8).drop (4 * part)).take 4).flatMap fun i => s.channelBytes i

end Sys2Proof.Machine
end

