-- ==== Sys2Proof/Machine/Operands.lean ====
section
/-! DEFINITION. The operand forms: what the station reads in a received frame (identity, format, tally, allotment, query and
order fields), in a meter reply, and which row of the command table a frame belongs to. -/

namespace Sys2Proof

/-! ### Received frames -/

/-- The byte at an offset of the payload, 0 past its end. -/
def Frame.at (f : Frame) (i : Nat) : Nat := (f.payload.getD i 0).toNat

/-- The number in w bytes from an offset of the payload (R186). -/
def Frame.field (f : Frame) (i w : Nat) : Nat := ofBytes ((f.payload.drop i).take w)

/-- The frame identity (R146). -/
def Frame.identity (f : Frame) : Machine.Identity :=
  { kind := f.kind, source := f.source, destination := f.destination, period := f.period, revision := f.revision, tag := f.tag }

/-- An item of a received ALLOTMENT: station, basis value, estimated indication (R188). -/
abbrev ListedItem := Nat × Nat × Bool

/-- The items of an ALLOTMENT, five bytes each (R188). -/
def listedFrom : List Byte → List ListedItem
  | st :: b3 :: b2 :: b1 :: b0 :: rest => (st.toNat % 32, ofBytes [b3, b2, b1, b0], st.msb) :: listedFrom rest
  | _ => []

/-- The contributor list of an ALLOTMENT (R188). -/
def Frame.listed (f : Frame) : List ListedItem := listedFrom (f.payload.drop 12)

/-- The payload length is admitted for the frame's kind, and the count byte of a TALLY or an ALLOTMENT gives the n that the
length implies (R189, R190). -/
def Frame.lengthAdmitted (f : Frame) : Bool :=
  let l := f.payload.length
  match f.kind.toNat with
  | 1 => l == 0
  | 2 => decide (f.at 23 ≤ 5) && l == 24 + 5 * f.at 23
  | 3 => decide (f.at 11 ≤ 16) && l == 12 + 5 * f.at 11
  | 4 => l == 1
  | 5 => l == 6
  | 6 => decide (2 ≤ l ∧ l ≤ Config.maxPayload)
  | _ => false

/-- The codes inside a TALLY or an ALLOTMENT that the format test reads (R190). -/
def Frame.codesAdmitted (f : Frame) : Bool :=
  match f.kind.toNat with
  | 2 => f.at 0 == 2 || f.at 0 == 3
  | 3 => decide (1 ≤ f.at 4 ∧ f.at 4 ≤ 3) && f.listed.all fun i => decide (1 ≤ i.1 ∧ i.1 ≤ 30)
  | _ => true

/-- The frame is no format error (R145, R190). -/
def Frame.formatOk (f : Frame) : Bool :=
  decide (1 ≤ f.kind.toNat ∧ f.kind.toNat ≤ 6) && f.lengthAdmitted
    && decide (1 ≤ f.source.toNat ∧ f.source.toNat ≤ 30) && decide (1 ≤ f.destination.toNat ∧ f.destination.toNat ≤ 31)
    && decide (f.revision.toNat ≤ 3) && f.codesAdmitted

/-- The rows of the command table that a received frame can belong to. -/
inductive FrameRow where
  | mark
  | tally
  | allotment
  | answer
  | queryResult
  | queryLatest
  | queryCampaign
  | queryCondition
  | queryChannels
  | unknown
  | orderZero
  | orderJob
  deriving DecidableEq, Repr

/-- The last part that a query item defines (R154). -/
def lastPart : FrameRow → Nat
  | .queryResult | .queryLatest => 2
  | .queryCondition => 3
  | .queryChannels => 1
  | _ => 0

/-- The row of a query item with the part requested; UNKNOWN for an item code outside the table or an undefined part (R154). -/
def queryRow (item part : Nat) : FrameRow :=
  let row : FrameRow := match item with
    | 1 => .queryResult
    | 2 => .queryLatest
    | 3 => .queryCampaign
    | 4 => .queryCondition
    | 5 => .queryChannels
    | _ => .unknown
  if part ≤ lastPart row then row else .unknown

/-- The row a frame belongs to (R145, R154, R162, R188). -/
def Frame.row (f : Frame) : FrameRow :=
  match f.kind.toNat with
  | 1 => .mark
  | 2 => .tally
  | 3 => .allotment
  | 4 => queryRow (f.at 0) f.revision.toNat
  | 5 => match f.at 0 with
    | 1 => .orderZero
    | 2 => .orderJob
    | _ => .unknown
  | 6 => .answer
  | _ => .unknown

/-! ### Meter frames -/

/-- The check byte of a meter frame: the ones' complement of the sum, modulo 256, of the bytes before it (R44). -/
def meterCheck (bytes : List Byte) : Byte := ~~~(bytes.foldl (· + ·) 0)

end Sys2Proof

namespace Sys2Proof.Machine

open Sys2Proof

/-- The request to a meter entry (R44). -/
def MeterSetup.request (m : MeterSetup) : MeterRequest :=
  { address := m.address, select := m.select, check := meterCheck [m.address, m.select] }

/-- The reading of a valid reply to the request outstanding: the counter value and the alarm flag; `none` when any test of
R45 fails. -/
def validReading (m : MeterSetup) (request : MeterRequest) (r : MeterReply) : Option (Nat × Bool) :=
  match r.address, r.select, r.value3, r.value2, r.value1, r.value0, r.status, r.check with
  | some a, some sel, some v3, some v2, some v1, some v0, some st, some ck =>
    if ck = meterCheck [a, sel, v3, v2, v1, v0, st] ∧ a = request.address ∧ sel = request.select
        ∧ ofBytes [v3, v2, v1, v0] < m.modulus then
      some (ofBytes [v3, v2, v1, v0], st.getLsbD 0)
    else none
  | _, _, _, _, _, _, _, _ => none

/-- The basis kind of a code of 1 to 3 (R187). -/
def basisOfCode : Nat → Option BasisKind
  | 1 => some .mass
  | 2 => some .good
  | 3 => some .runtime
  | _ => none

/-- The figure of a TALLY that the basis kind reads: pull, good or run seconds (R84, R188). -/
def tallyBasis (kind : BasisKind) (f : Frame) : Nat :=
  match kind with
  | .mass => f.field 5 4
  | .good => f.field 13 4
  | .runtime => f.field 17 2

/-- What a line takes from an allotment (R111): its share and the figures its item records. -/
structure TakenShare where
  share : Nat
  figures : AllotmentFigures
  deriving DecidableEq, Repr

/-- The line's share of an allotment: by the first item that lists its own number, 0 when none does; `none` when the
allotment is inconsistent, with a listed basis above B (R111). -/
def takenShare (own : Option Nat) (f : Frame) : Option TakenShare :=
  let figures : AllotmentFigures :=
    { revision := f.revision, e := f.field 0 4, b := f.field 5 6, basis := (basisOfCode (f.at 4)).getD .mass, listed := none }
  match f.listed.find? fun i => some i.1 == own with
  | none => some { share := 0, figures := figures }
  | some i =>
    if figures.b < i.2.1 then none
    else some { share := shareOf figures.e i.2.1 figures.b, figures := { figures with listed := some i.2 } }

end Sys2Proof.Machine
end

