-- ==== Sys2Proof/Machine/Image.lean ====
section
/-! DEFINITION. The configuration image: the tests of a read attempt (R171), the layout (R191, R192) and the clamping of every
field in the order the spec fixes (R173 to R178). -/

namespace Sys2Proof.Machine

open Sys2Proof

/-! ### Reading -/

/-- The number of bytes of an image (R191). -/
def imageLength : Nat := 154

/-- The byte at an offset of the image. -/
def imageByte (img : List Byte) (i : Nat) : Nat := (img.getD i 0).toNat

/-- The number in w bytes from an offset of the image. -/
def imageField (img : List Byte) (i w : Nat) : Nat := ofBytes ((img.drop i).take w)

/-- What an attempt sends the serial memory: the read instruction, the byte 3, and the two-byte address 0 (R171). -/
def readInstruction : List Byte := [3, 0, 0]

/-- The bytes an attempt clocks in: it stops at a wrong format tag, then at a wrong image length, and else reads the image to
its length (R171, R191). -/
def clockedIn (memory : List Byte) : List Byte :=
  if imageField memory 0 2 != 166 * 256 + 49 then memory.take 2
  else if imageField memory 2 2 != imageLength then memory.take 4
  else memory.take imageLength

/-- An attempt succeeds: the tag and the length are the ones this part reads, so that the whole image is clocked in, and the
check word matches (R171, R191). A memory that gives fewer bytes fails the attempt (log entry 9). -/
def imageReads (memory : List Byte) : Bool :=
  (clockedIn memory).length == imageLength
    && imageField (clockedIn memory) 152 2 == (crc ((clockedIn memory).take 152)).toNat

/-- The role code names one of the three roles (R173, R191). -/
def imageRole (img : List Byte) : Option Role :=
  match imageByte img 6 with
  | 1 => some .line
  | 2 => some .furnace
  | 3 => some .pool
  | _ => none

/-! ### Clamping -/

/-- A field as taken, and whether a clamp changed it. -/
abbrev Clamped (α : Type) := α × Bool

/-- The station-number source (R174, R191). -/
def takeSource (img : List Byte) : Clamped NumberSource :=
  match imageByte img 4 with
  | 0 => (.straps, false)
  | 1 => (.image, false)
  | _ => (.straps, true)

/-- The bit rate (R174, R191). -/
def takeRate (img : List Byte) : Clamped BitRate :=
  match imageByte img 7 with
  | 0 => (.r62, false)
  | 1 => (.r125, false)
  | 2 => (.r250, false)
  | _ => (.r125, true)

/-- The period length in seconds (R174, R191). -/
def takePeriodLength (img : List Byte) : Clamped Nat :=
  match imageByte img 8 with
  | 0 => (60, false)
  | 1 => (300, false)
  | 2 => (600, false)
  | 3 => (900, false)
  | 4 => (1800, false)
  | 5 => (3600, false)
  | _ => (900, true)

/-- The sample interval in seconds (R174, R191). -/
def takeInterval (img : List Byte) : Clamped Nat :=
  match imageByte img 9 with
  | 0 => (1, false)
  | 1 => (2, false)
  | 2 => (5, false)
  | 3 => (10, false)
  | _ => (10, true)

/-- T1 and T2 clamped once the period length is settled: T1 into 2 to 120, T2 into T1 + 2 up to the smaller of 240 and the
period length less 1; where that range is empty, T2 is its upper end and T1 is T2 - 2 (R175). -/
def clampWaits (periodLength t1 t2 : Nat) : Nat × Nat :=
  let first := max 2 (min 120 t1)
  let top := min 240 (periodLength - 1)
  if top < first + 2 then (top - 2, top) else (first, max (first + 2) (min top t2))

/-- T1 and T2 as taken (R175). -/
def takeWaits (img : List Byte) : Clamped (Nat × Nat) :=
  let w := clampWaits (takePeriodLength img).1 (imageByte img 10) (imageByte img 11)
  (w, w != (imageByte img 10, imageByte img 11))

/-- The time-base source: EXTERNAL when true (R174, R191). -/
def takeExternal (img : List Byte) : Clamped Bool :=
  match imageByte img 12 with
  | 0 => (false, false)
  | 1 => (true, false)
  | _ => (false, true)

/-- The alert configuration at an offset: the mode, and the group less the bits 8 to 15, which name no member (R174, R192). -/
def takeAlert (img : List Byte) (i : Nat) : Clamped AlertSetup :=
  let group := byte (imageByte img (i + 2))
  let stray := imageByte img (i + 1) != 0
  match imageByte img i with
  | 0 => ({ mode := .level, group := group }, stray)
  | 1 => ({ mode := .pulse, group := group }, stray)
  | _ => ({ mode := .level, group := group }, true)

/-- The meter port baud (R174, R191). -/
def takeBaud (img : List Byte) : Clamped MeterBaud :=
  match imageByte img 35 with
  | 0 => (.b9600, false)
  | 1 => (.b19200, false)
  | 2 => (.b38400, false)
  | _ => (.b9600, true)

/-! ### Step 1: the input line table (R177, R29) -/

/-- The role of input line i by its code alone; the code 7 names no role and the line is taken as UNUSED (R191, R192). -/
def codedRole (img : List Byte) (i : Fin 8) : Clamped LineRole :=
  match imageByte img (27 + i.val) % 8 with
  | 0 => (.unused, false)
  | 1 => (.energy, false)
  | 2 => (.cut, false)
  | 3 => (.reject, false)
  | 4 => (.running, false)
  | 5 => (.fault, false)
  | 6 => (.second, false)
  | _ => (.unused, true)

/-- The role may stand in a station of the given role: CUT, REJECT and RUNNING only in a LINE (R24, R29). -/
def roleFits (role : Role) (r : LineRole) : Bool :=
  role == .line || !(r == .cut || r == .reject || r == .running)

/-- The role of line i after step 1: roles that do not fit become UNUSED, and SECOND stays only on the lowest-numbered line
that carries it (R29, R177). -/
def steppedRole (img : List Byte) (role : Role) (i : Fin 8) : Clamped LineRole :=
  let r := codedRole img i
  if !roleFits role r.1 then (.unused, true)
  else if r.1 == .second && (List.finRange 8).any fun j => decide (j < i) && (codedRole img j).1 == .second then
    (.unused, true)
  else r

/-! ### Step 2: the channel table (R177, R30) -/

/-- The source of channel i by its code; a code above 16 is taken as none (R191, R192). -/
def codedSource (img : List Byte) (i : Fin 8) : Clamped (Option ChannelSource) :=
  let code := imageByte img (100 + 4 * i.val)
  if code = 0 then (none, false)
  else if code ≤ 8 then (some (.line (Fin.ofNat 8 (code - 1))), false)
  else if code ≤ 16 then (some (.meter (Fin.ofNat 8 (code - 9))), false)
  else (none, true)

/-- A source that channel i may take: a meter entry, or an input line whose role is ENERGY (R30). -/
def sourceAllowed (img : List Byte) (role : Role) : Option ChannelSource → Bool
  | none => false
  | some (.meter _) => true
  | some (.line l) => (steppedRole img role l).1 == .energy

/-- The source of channel i as taken: none when its line is not an ENERGY line, or when a lower-numbered channel has the same
source and is configured (R30). -/
def takenSource (img : List Byte) (role : Role) (i : Fin 8) : Clamped (Option ChannelSource) :=
  let source := codedSource img i
  if source.1.isNone then source
  else if !sourceAllowed img role source.1 then (none, true)
  else if (List.finRange 8).any fun j => decide (j < i) && (codedSource img j).1 == source.1 then (none, true)
  else source

/-- The carrier of channel i: code 0 is GAS, a code above 5 OTHER (R30). -/
def codedCarrier (img : List Byte) (i : Fin 8) : Clamped Carrier :=
  match imageByte img (101 + 4 * i.val) with
  | 0 => (.gas, true)
  | 1 => (.gas, false)
  | 2 => (.electric, false)
  | 3 => (.oxygen, false)
  | 4 => (.air, false)
  | 5 => (.other, false)
  | _ => (.other, true)

/-- Channel i as the accumulator bank takes it (R30). The carrier and the pulse value are read, and so clamped, only for a
channel that is configured, the pulse value only for one with a line source (log entry 10). -/
def takeChannel (img : List Byte) (role : Role) (i : Fin 8) : Clamped (Option ChannelSetup) :=
  let source := takenSource img role i
  match source.1 with
  | none => (none, source.2)
  | some (.line l) =>
    let pulse := imageField img (102 + 4 * i.val) 2
    (some { source := .line l, carrier := (codedCarrier img i).1, pulse := max 1 pulse },
      source.2 || (codedCarrier img i).2 || pulse == 0)
  | some (.meter m) =>
    (some { source := .meter m, carrier := (codedCarrier img i).1, pulse := 0 }, source.2 || (codedCarrier img i).2)

/-- Line i as the input unit takes it: an ENERGY line that no configured channel names becomes UNUSED (R29, R177). The bits 3, 6
and 7 of its byte are in no field and are not read (log entry 34). -/
def takeLine (img : List Byte) (role : Role) (i : Fin 8) : Clamped LineSetup :=
  let b := imageByte img (27 + i.val)
  let r := steppedRole img role i
  let named := (List.finRange 8).any fun j => (takenSource img role j).1 == some (.line i)
  let orphan := r.1 == .energy && !named
  ({ role := if orphan then .unused else r.1,
     polarity := if b / 16 % 2 = 0 then .risingHigh else .fallingLow,
     debounce := if b / 32 % 2 = 0 then .ms1 else .ms4 }, r.2 || orphan)

/-! ### Step 3: the meter table (R177, R46) -/

/-- The address and counter select of meter entry m, the select from bits 0 to 3 of its byte (R192); absent for address 0 and
for 128 to 255 (R46). -/
def codedMeter (img : List Byte) (m : Fin 8) : Option (Nat × Nat) :=
  let address := imageByte img (36 + 8 * m.val)
  if address = 0 ∨ 127 < address then none else some (address, imageByte img (37 + 8 * m.val) % 16)

/-- The modulus of a code; one that names none of the seven is 2^32 (R46, R191). -/
def modulusOfCode : Nat → Clamped Nat
  | 0 => (10 ^ 4, false)
  | 1 => (10 ^ 5, false)
  | 2 => (10 ^ 6, false)
  | 3 => (10 ^ 7, false)
  | 4 => (10 ^ 8, false)
  | 5 => (10 ^ 9, false)
  | 6 => (2 ^ 32, false)
  | _ => (2 ^ 32, true)

/-- The channel whose source, as taken, names meter entry m (R46). -/
def channelNaming (img : List Byte) (role : Role) (m : Fin 8) : Option (Fin 8) :=
  (List.finRange 8).find? fun i => (takenSource img role i).1 == some (.meter m)

/-- The code of the channel fed: 0 none, 1 to 8 (R191). -/
def fedCode : Option (Fin 8) → Nat
  | none => 0
  | some i => i.val + 1

/-- Meter entry m as the meter port takes it (R46). The fields of an empty entry are not read (log entry 10). -/
def takeMeter (img : List Byte) (role : Role) (m : Fin 8) : Clamped (Option MeterSetup) :=
  match codedMeter img m with
  | none => (none, imageByte img (36 + 8 * m.val) != 0)
  | some k =>
    if (List.finRange 8).any fun j => decide (j < m) && codedMeter img j == some k then (none, true)
    else
      let modulus := modulusOfCode (imageByte img (38 + 8 * m.val))
      let scale := imageField img (39 + 8 * m.val) 2
      let limit := imageField img (41 + 8 * m.val) 2
      let feeds := channelNaming img role m
      (some { address := byte k.1, select := byte k.2, modulus := modulus.1, scale := max 1 scale, limit := max 1 limit,
              feeds := feeds },
        modulus.2 || scale == 0 || limit == 0 || imageByte img (43 + 8 * m.val) != fedCode feeds)

/-! ### Basis kind, job, station number, station table -/

/-- The basis kind as a FURNACE or POOL takes it; a LINE reads none (R84, R176). -/
def takeBasis (img : List Byte) (role : Role) : Clamped BasisKind :=
  match role with
  | .line => (.mass, false)
  | .furnace => (.mass, imageByte img 132 != 1)
  | .pool =>
    match basisOfCode (imageByte img 132) with
    | some k => (k, false)
    | none => (.mass, true)

/-- The initial job as a LINE takes it; another station reads none (R176). -/
def takeJob (img : List Byte) (role : Role) : Clamped Job :=
  let raw : Job := { gob := imageField img 149 2, perCut := imageByte img 151 }
  let job : Job := { gob := max 1 raw.gob, perCut := max 1 (min 4 raw.perCut) }
  match role with
  | .line => (job, job != raw)
  | _ => (Job.absent, false)

/-- The strap number: ST0 carries 1, ST1 2, ST2 4, ST3 8 and ST4 16 (R169). -/
def strapNumber (s : Straps) : Nat :=
  s.st0.toNat + s.st1.toNat * 2 + s.st2.toNat * 4 + s.st3.toNat * 8 + s.st4.toNat * 16

/-- The strap parity is good when the number of inputs that are high, STP included, is odd (R169). -/
def strapParityGood (s : Straps) : Bool :=
  (s.st0.toNat + s.st1.toNat + s.st2.toNat + s.st3.toNat + s.st4.toNat + s.stp.toNat) % 2 == 1

/-- The number the straps settle; none when the parity is bad or the number is 0 or 31 (R170). -/
def strapOwn (s : Straps) : Option Nat :=
  if strapParityGood s ∧ 1 ≤ strapNumber s ∧ strapNumber s ≤ 30 then some (strapNumber s) else none

/-- The own number settled at the end of loading (R170). -/
def settleOwn (img : List Byte) (straps : Straps) : Option Nat :=
  match (takeSource img).1 with
  | .straps => strapOwn straps
  | .image => if 1 ≤ imageByte img 5 ∧ imageByte img 5 ≤ 30 then some (imageByte img 5) else none

/-- One place of the station table: 0 is passed over; 31, a larger number (log entry 11), the own number and a repeat are
dropped (R82, R106). -/
def takePlace (own : Option Nat) (acc : Clamped (List Nat)) (place : Nat) : Clamped (List Nat) :=
  if place = 0 then acc
  else if 30 < place ∨ some place = own ∨ place ∈ acc.1 then (acc.1, true)
  else (acc.1 ++ [place], acc.2)

/-- The numbers that remain of the station table (R82, R106). -/
def remainingPlaces (img : List Byte) (own : Option Nat) : Clamped (List Nat) :=
  ((List.range 16).map fun i => imageByte img (133 + i)).foldl (takePlace own) ([], false)

/-- The station table as taken: up to 16 contributors, or the first 4 as subscriptions (R82, R106). -/
def takeTable (img : List Byte) (role : Role) (own : Option Nat) : Clamped (List Nat) :=
  let kept := remainingPlaces img own
  match role with
  | .line => (kept.1.take 4, kept.2 || decide (4 < kept.1.length))
  | _ => kept

/-! ### The whole image -/

/-- The configuration that an image of a known role gives, after every clamp (R173 to R178). -/
def settingsOf (img : List Byte) (role : Role) (own : Option Nat) : Settings :=
  { source := (takeSource img).1
    role := role
    rate := (takeRate img).1
    periodLength := (takePeriodLength img).1
    interval := (takeInterval img).1
    t1 := (takeWaits img).1.1
    t2 := (takeWaits img).1.2
    external := (takeExternal img).1
    authorization := imageField img 13 2
    tag := (img.drop 15).take 6
    alert1 := (takeAlert img 21).1
    alert2 := (takeAlert img 24).1
    lines := Vector.ofFn fun i => (takeLine img role i).1
    baud := (takeBaud img).1
    meters := Vector.ofFn fun m => (takeMeter img role m).1
    channels := Vector.ofFn fun i => (takeChannel img role i).1
    basis := (takeBasis img role).1
    table := (takeTable img role own).1
    job := (takeJob img role).1 }

/-- At least one clamp changed a field, so that CLAMPED is set (R178). -/
def imageClamped (img : List Byte) (role : Role) (own : Option Nat) : Bool :=
  (takeSource img).2 || (takeRate img).2 || (takePeriodLength img).2 || (takeInterval img).2 || (takeWaits img).2
    || (takeExternal img).2 || (takeAlert img 21).2 || (takeAlert img 24).2 || (takeBaud img).2
    || ((List.finRange 8).any fun i => (takeLine img role i).2 || (takeChannel img role i).2 || (takeMeter img role i).2)
    || (takeBasis img role).2 || (takeTable img role own).2 || (takeJob img role).2

end Sys2Proof.Machine
end

