-- ==== Sys2Proof/Machine/Queue.lean ====
section
/-! DEFINITION. The transmit queue of the link controller: owing, handover, displacement, the MARK's replacement and
withdrawal, the pick, and the counted deference time (R131 to R144). -/

namespace Sys2Proof.Machine

open Sys2Proof

/-! ### Channels and owing -/

/-- One of the two channels. -/
def Link.chan (l : Link) : Chan → LinkChannel
  | .a => l.a
  | .b => l.b

/-- The link with one channel replaced. -/
def Link.setChan (l : Link) (ch : Chan) (c : LinkChannel) : Link :=
  match ch with
  | .a => { l with a := c }
  | .b => { l with b := c }

/-- The record is owed to the channel (R140). -/
def Queued.owed (q : Queued) : Chan → Bool
  | .a => q.owedA
  | .b => q.owedB

/-- The record with its debt to one channel set. -/
def Queued.setOwed (q : Queued) (ch : Chan) (owed : Bool) : Queued :=
  match ch with
  | .a => { q with owedA := owed }
  | .b => { q with owedB := owed }

/-- The channel is owed at least one record. -/
def Link.owes (l : Link) (ch : Chan) : Bool := l.queue.any fun q => q.owed ch

/-- The queued record is being transmitted on the channel. -/
def LinkChannel.carries (c : LinkChannel) (q : Queued) : Bool :=
  match c.inFlight with
  | none => false
  | some f => f.seq == q.seq

/-- A record leaves the queue at the moment it is owed to no channel (R141). -/
def Link.purge (l : Link) : Link := { l with queue := l.queue.filter fun q => q.owedA || q.owedB }

/-- How a channel counts after a change of what it is owed: a channel owed nothing stops counting; one that becomes owed a
record while it is quiet and owed nothing starts at 0, and before it is quiet counts its quiet time, for which R132 and R133
differ (log entry 29); a transmitting channel does not count (R132, R133). -/
def LinkChannel.recount (c : LinkChannel) (owedBefore owedNow : Bool) : LinkChannel :=
  if c.inFlight.isSome then c
  else if !owedNow then { c with counted := none }
  else if owedBefore && c.counted.isSome then c
  else { c with counted := some (if Config.quietBits ≤ c.quietTime then 0 else c.quietTime) }

/-- Both channels count again after a change from the link `old`. -/
def Link.recount (old l : Link) : Link :=
  { l with a := l.a.recount (old.owes .a) (l.owes .a), b := l.b.recount (old.owes .b) (l.owes .b) }

/-! ### Handing over -/

/-- On entry a record is owed to a channel that is ACTIVE, and to a FAILED one whose probe it becomes (R137, R140). -/
def LinkChannel.takes (c : LinkChannel) : Bool := c.state == .active || (c.state == .failed && c.probe)

/-- The record enters the queue, and the probe-pending marks clear (R137, R140). -/
def Link.enter (l : Link) (r : Record) : Link :=
  Link.recount l
    { l with queue := l.queue ++ [{ seq := l.nextSeq, record := r, owedA := l.a.takes, owedB := l.b.takes }]
             nextSeq := l.nextSeq + 1
             a := { l.a with probe := false }
             b := { l.b with probe := false } }

/-- The queue holds a MARK. -/
def Link.hasMark (l : Link) : Bool := l.queue.any fun q => q.record.kind == .mark

/-- What a queued MARK is owed to after it takes a new number: every ACTIVE channel, and a FAILED one to which it was owed as
its probe. An INHIBITED channel that still drives the old number is not owed the new one (R138, R143). -/
def LinkChannel.owesNewMark (c : LinkChannel) (owed : Bool) : Bool :=
  c.state == .active || (c.state == .failed && owed)

/-- A channel on which the old MARK is being transmitted carries the old number to the frame's end and is then owed the new
one; an inhibited channel is not (R138, R143). -/
def LinkChannel.supersede (c : LinkChannel) (mark : Queued → Bool) (queue : List Queued) : LinkChannel :=
  match c.inFlight with
  | none => c
  | some f =>
    if c.state != .inhibited && queue.any fun q => mark q && q.seq == f.seq then
      { c with inFlight := some { f with superseded := true, withdrawn := false } }
    else c

/-- The queued record is a MARK. -/
def Queued.isMark (q : Queued) : Bool := q.record.kind == .mark

/-- The queued MARK takes the new record, keeping its place; owed to no channel it leaves the queue as unsent (R143). -/
def Link.replaceMark (l : Link) (r : Record) : Link :=
  let queue := l.queue.map fun q =>
    if q.isMark then
      { q with record := r, owedA := l.a.owesNewMark q.owedA, owedB := l.b.owesNewMark q.owedB }
    else q
  let lost := queue.any fun q => q.isMark && !(q.owedA || q.owedB)
  Link.recount l
    (Link.purge { l with queue := queue
                         a := l.a.supersede Queued.isMark l.queue
                         b := l.b.supersede Queued.isMark l.queue
                         unsent := if lost then grow l.unsent 1 else l.unsent })

/-- The ANSWER that a MARK displaces: the one that entered most recently among those not in flight on either channel (R142). -/
def Link.displaceable (l : Link) : Option Queued :=
  l.queue.reverse.find? fun q => q.record.kind == .answer && !l.a.carries q && !l.b.carries q

/-- The queue without the record of that place in the order of entry. -/
def Link.remove (l : Link) (seq : Nat) : Link := Link.recount l { l with queue := l.queue.filter fun q => q.seq != seq }

/-- What became of a record handed over. -/
inductive Handover where
  | entered
  | replaced
  | unsent
  | overflowed
  | displaced
  deriving DecidableEq, Repr

/-- A record is handed to the link controller (R140, R142, R143, R144): the new link and what became of the record. A MARK handed
over while both channels are INHIBITED is discarded by R144 although an old MARK is still queued, which then keeps its number:
the manual does not say whether R143 or R144 goes first, and this is the model's choice (log entry 37). -/
def Link.handOver (l : Link) (listenOnly : Bool) (r : Record) : Link × Handover :=
  if listenOnly then ({ l with unsent := grow l.unsent 1 }, .unsent)
  else if r.kind == .mark && l.hasMark then (l.replaceMark r, .replaced)
  else if !(l.a.takes || l.b.takes) then ({ l with unsent := grow l.unsent 1 }, .unsent)
  else if l.queue.length < Config.queueSize then (l.enter r, .entered)
  else
    let full := { l with overflow := grow l.overflow 1 }
    match (if r.kind == .mark then l.displaceable else none) with
    | none => (full, .overflowed)
    | some q => ((full.remove q.seq).enter r, .displaced)

/-- The record has entered the queue. -/
def Handover.enters : Handover → Bool
  | .entered | .displaced => true
  | _ => false

/-- The handover was an overflow of the queue, which sets SERVICE (R142, R150). -/
def Handover.overflows : Handover → Bool
  | .overflowed | .displaced => true
  | _ => false

/-- A block hands a record to the link controller; an overflow sets SERVICE (R140, R142, R150). -/
def State.handOver (s : State) (r : Record) : State :=
  let h := s.link.handOver s.listenOnly r
  let t := { s with link := h.1 }
  if h.2.overflows then t.setService else t

/-- A record handed over now enters the queue (R150). -/
def State.wouldEnter (s : State) (r : Record) : Bool := (s.link.handOver s.listenOnly r).2.enters

/-- The MARK of a period (R10). -/
def markRecord (n : Period) : Record :=
  { kind := .mark, revision := 0, destination := 31, period := n, tag := 0, payload := [], estimated := false }

/-! ### Withdrawing the own MARK -/

/-- A channel on which the withdrawn MARK is being transmitted completes the frame, and is not owed it again (R143). -/
def LinkChannel.withdraw (c : LinkChannel) (queue : List Queued) : LinkChannel :=
  match c.inFlight with
  | none => c
  | some f =>
    if queue.any fun q => q.isMark && q.seq == f.seq then
      { c with inFlight := some { f with withdrawn := true, superseded := false } }
    else c

/-- The own MARK ceases to be owed to every channel on which it is not being transmitted (R143). -/
def Link.withdrawMark (l : Link) : Link :=
  let queue := l.queue.map fun q =>
    if q.isMark then { q with owedA := q.owedA && l.a.carries q, owedB := q.owedB && l.b.carries q } else q
  Link.recount l
    (Link.purge { l with queue := queue, a := l.a.withdraw l.queue, b := l.b.withdraw l.queue })

/-- Period control asks for the withdrawal of the own MARK (R11 step 7, R13). -/
def State.withdrawMark (s : State) : State := { s with link := s.link.withdrawMark }

/-! ### The pick and the wait -/

/-- The deference class of a record (R131). -/
def RecordKind.deferenceClass : RecordKind → Nat
  | .mark => 0
  | .allotment => 1
  | .tally => 2
  | .answer => 3

/-- The wait of a record kind at station n, in bit times (R131). -/
def waitOf (kind : RecordKind) (station : Nat) : Nat := 16 + 64 * kind.deferenceClass + 2 * station

/-- The better pick of two, the first of which entered earlier: the lower class, then the earlier entry (R133). -/
def betterPick (best : Option Queued) (q : Queued) : Option Queued :=
  match best with
  | none => some q
  | some b => if q.record.kind.deferenceClass < b.record.kind.deferenceClass then some q else some b

/-- The pick of a channel: among the records owed to it the lowest class, and in a class the first that entered (R133). -/
def Link.pick (l : Link) (ch : Chan) : Option Queued := (l.queue.filter fun q => q.owed ch).foldl betterPick none

/-! ### Ceasing to be owed -/

/-- The record of that place in the order of entry ceases to be owed to the channel. -/
def Link.release (l : Link) (ch : Chan) (seq : Nat) : Link :=
  { l with queue := l.queue.map fun q => if q.seq == seq then q.setOwed ch false else q }

/-- Every record ceases to be owed to the channel, but for one that is in flight on it (R136, R138). -/
def Link.releaseAll (l : Link) (ch : Chan) : Link :=
  { l with queue := l.queue.map fun q => q.setOwed ch (q.owed ch && (l.chan ch).carries q) }

/-- The frame in flight on the channel has ended: nothing is driven any more, and the last transition is now (R129, R132). At an
abandonment too the release of the pair counts as a transition, which the manual leaves open (log entry 33). -/
def LinkChannel.endFrame (c : LinkChannel) : LinkChannel := { c with inFlight := none, quietTime := 0, counted := none }

end Sys2Proof.Machine
end

