-- ==== Sys2Proof/Machine/Strikes.lean ====
section
/-! DEFINITION. The two engines: the strike and the revision of an entry in a LINE and in an apportioning station, with what
they add to the campaign totals (R72 to R79, R93 to R105, R117 to R125). -/

namespace Sys2Proof.Machine

open Sys2Proof

/-! ### Campaign totals -/

/-- A figure as a 48-bit addend (R77). -/
def total (n : Nat) : Total := BitVec.ofNat 48 n

/-- Adds to the total of one carrier (R75). -/
def EnergyTotals.add (t : EnergyTotals) (c : Carrier) (n : Nat) : EnergyTotals :=
  match c with
  | .gas => { t with gas := t.gas + total n }
  | .electric => { t with electric := t.electric + total n }
  | .oxygen => { t with oxygen := t.oxygen + total n }
  | .air => { t with air := t.air + total n }
  | .other => { t with other := t.other + total n }

/-- Adds each item of an entry's carrier totals (R75). -/
def EnergyTotals.addAll (t : EnergyTotals) (carriers : List (Carrier × Nat)) : EnergyTotals :=
  carriers.foldl (fun t c => t.add c.1 c.2) t

/-- Adds to the share total of one station (R75). -/
def addShareTotal (station : Nat) (n : Total) (shares : List (Nat × Total)) : List (Nat × Total) :=
  shares.map fun p => if p.1 = station then (p.1, p.2 + n) else p

/-- Adds each item of an entry's share list, whatever its state (R75). -/
def addShares (items : List ShareItem) (shares : List (Nat × Total)) : List (Nat × Total) :=
  items.foldl (fun t i => addShareTotal i.station (total i.share) t) shares

/-- The sum of an entry's carrier totals. -/
def carrierSum (carriers : List (Carrier × Nat)) : Nat := (carriers.map Prod.snd).sum

/-- The sum of the shares of a share list. -/
def shareSum (items : List ShareItem) : Nat := (items.map ShareItem.share).sum

/-- 1 for true, 0 for false, as a total. -/
def totalOf (b : Bool) : Total := total b.toNat

/-- What the strike of a LINE entry adds: a numbered entry everything, the lead-in its energy and masses (R75). -/
def LineTotals.addStrike (t : LineTotals) (e : Entry) (p : LinePart) (r : LineResult) : LineTotals :=
  { t with energy := t.energy.addAll e.carriers
           shares := addShares p.shares t.shares
           eLine := t.eLine + total r.eLine
           pull := t.pull + total p.pull
           reject := t.reject + total p.reject
           good := t.good + total p.good
           runSeconds := t.runSeconds + total p.runSeconds
           struck := t.struck + totalOf e.number.isSome
           estimated := t.estimated + totalOf (e.number.isSome && e.flags.estimated) }

/-- What the revision of a LINE entry moves, each by the new figure less the old (R79, R125). -/
def LineTotals.addRevision (t : LineTotals) (station oldShare newShare oldLine newLine : Nat)
    (oldEstimated newEstimated : Bool) : LineTotals :=
  { t with shares := addShareTotal station (total newShare - total oldShare) t.shares
           eLine := t.eLine + (total newLine - total oldLine)
           estimated := t.estimated + (totalOf newEstimated - totalOf oldEstimated) }

/-- What the strike of an apportioning entry adds: a numbered entry E, the sum of shares, the residue and B, the lead-in its E
as measured and undistributed (R76, R105). -/
def AllotTotals.addStrike (t : AllotTotals) (numbered : Bool) (p : AllotPart) : AllotTotals :=
  { measured := t.measured + total p.e
    allotted := t.allotted + total (p.e - p.residue.getD 0)
    undistributed := t.undistributed + total (p.residue.getD 0)
    basis := t.basis + total p.b
    struck := t.struck + totalOf numbered }

/-- What the revision of an apportioning entry moves (R79, R105). -/
def AllotTotals.addRevision (t : AllotTotals) (old new : AllotPart) : AllotTotals :=
  { t with allotted := t.allotted + (total (new.e - new.residue.getD 0) - total (old.e - old.residue.getD 0))
           undistributed := t.undistributed + (total (new.residue.getD 0) - total (old.residue.getD 0))
           basis := t.basis + (total new.b - total old.b) }

/-! ### The figures of a LINE entry -/

/-- The last value that a table holds for a station. -/
def lastOf (table : List Peer) (station : Nat) : Option Nat := (table.find? fun p => p.station == station).bind Peer.last

/-- A table with the last value of a station replaced. -/
def setLast (station value : Nat) (table : List Peer) : List Peer :=
  table.map fun p => if p.station = station then { p with last := some value } else p

/-- A share item that is not RECEIVED at the strike: ESTIMATED with the last share, or ABSENT with a share of 0 (R117). -/
def completeShare (table : List Peer) (i : ShareItem) : ShareItem :=
  if i.state = .received then i
  else match lastOf table i.station with
    | some x => { station := i.station, state := .estimated, share := x, allotment := none }
    | none => { station := i.station, state := .absent, share := 0, allotment := none }

/-- The line's own estimates: an item is ESTIMATED or ABSENT (R118). -/
def sharesEstimated (items : List ShareItem) : Bool := items.any fun i => i.state != .received

/-- A RECEIVED item was taken from an allotment that does not list this line (R118). -/
def sharesExcluded (items : List ShareItem) : Bool :=
  items.any fun i => i.state == .received && (i.allotment.bind AllotmentFigures.listed).isNone

/-- E_line and the two SECs (R120, R121). -/
def lineResult (carriers : List (Carrier × Nat)) (p : LinePart) : LineResult :=
  let e := carrierSum carriers + shareSum p.shares
  { eLine := e, secGood := specificEnergy e p.good, secPull := specificEnergy e p.pull }

/-- A SEC of the entry would pass its limit (R121). -/
def lineSaturates (carriers : List (Carrier × Nat)) (p : LinePart) : Bool :=
  let e := carrierSum carriers + shareSum p.shares
  specificEnergySaturates e p.good || specificEnergySaturates e p.pull

/-- The entry with its share list, its result and the flags that follow from them (R118, R120, R121). -/
def Entry.withShares (e : Entry) (p : LinePart) (shares : List ShareItem) : Entry :=
  let q := { p with shares := shares }
  { e with flags := { e.flags with estimated := sharesEstimated shares
                                   excluded := sharesExcluded shares
                                   saturated := e.flags.saturated || lineSaturates e.carriers q }
           part := .line { q with result := some (lineResult e.carriers q) } }

/-- The entry struck: its wait timer stops (R72). -/
def Entry.struckNow (e : Entry) : Entry := { e with state := .struck, timer := none }

/-- The last shares after a strike: every RECEIVED item's share, in table order (R119). -/
def updateLastShares (items : List ShareItem) (table : List Peer) : List Peer :=
  items.foldl (fun t i => if i.state = .received then setLast i.station i.share t else t) table

/-! ### The figures of an apportioning entry -/

/-- The item of a contributor at the strike: a RECEIVED item as it is, else ESTIMATED with the last basis, else EXCLUDED
(R93). -/
def completeItem (items : List ContributorItem) (c : Peer) : ContributorItem :=
  match items.find? fun i => i.station == c.station && i.state == .received with
  | some i => i
  | none =>
    match c.last with
    | some b => { station := c.station, state := .estimated, basis := b }
    | none => { station := c.station, state := .excluded, basis := 0 }

/-- B: the sum of the basis values of the RECEIVED and ESTIMATED items (R64, R93). -/
def basisTotal (items : List ContributorItem) : Nat := ((listedItems items).map ContributorItem.basis).sum

/-- The sum of the shares of the listed contributors (R94, R96). -/
def distributed (e : Nat) (items : List ContributorItem) : Nat :=
  ((listedItems items).map fun i => shareOf e i.basis (basisTotal items)).sum

/-- An entry's part with its items, B, residue and furnace SEC worked out (R93 to R97). -/
def AllotPart.withItems (p : AllotPart) (role : Role) (items : List ContributorItem) : AllotPart :=
  { p with items := items
           b := basisTotal items
           residue := some (p.e - distributed p.e items)
           sec := if role = .furnace then specificEnergy p.e (basisTotal items) else none }

/-- The entry with its items, its figures and the flags that follow from them (R97, R98). -/
def Entry.withItems (e : Entry) (p : AllotPart) (role : Role) (items : List ContributorItem) : Entry :=
  { e with flags := { e.flags with estimated := items.any fun i => i.state == .estimated
                                   noBasis := basisTotal items == 0
                                   saturated := e.flags.saturated
                                     || (role == .furnace && specificEnergySaturates p.e (basisTotal items)) }
           part := .apportioning (p.withItems role items) }

/-- The ALLOTMENT record of an entry (R100). -/
def allotmentRecord (n : Period) (flags : EntryFlags) (p : AllotPart) : Record :=
  { kind := .allotment, revision := BitVec.ofNat 4 p.revision, destination := 31, period := n, tag := 0,
    payload := allotmentPayload p, estimated := flags.estimated }

/-! ### Strikes -/

/-- What the book does at every strike, the entry already in its struck form: STARTING clears at a numbered strike, and an
ESTIMATED strike sets the estimated-strike state (R72, R23, R184). -/
def State.afterStrike (s : State) (e : Entry) : State :=
  State.refreshAlerts
    { (s.putEntry e) with
        time := { s.time with starting := s.time.starting && e.number.isNone }
        alerts := { s.alerts with estimatedStrike := s.alerts.estimatedStrike || e.flags.estimated } }

/-- The strike of a LINE entry (R117 to R123). The lead-in has no share list (R122). -/
def State.strikeLine (s : State) (e : Entry) (p : LinePart) : State :=
  let shares := p.shares.map (completeShare s.subscriptions)
  let struck := (e.withShares p shares).struckNow
  let q := { p with shares := shares }
  let t := s.afterStrike struck
  { t with subscriptions := updateLastShares shares s.subscriptions
           book := { t.book with line :=
             if e.flags.preZero then s.book.line else s.book.line.addStrike struck q (lineResult e.carriers q) } }

/-- The strike of an apportioning station's lead-in: its residue is its E, and it gets no item, no SEC, no flag and no
allotment (R64, R99). -/
def State.strikeLeadIn (s : State) (e : Entry) (p : AllotPart) : State :=
  let q := { p with residue := some p.e }
  let t := s.afterStrike { e.struckNow with part := .apportioning q }
  { t with book := { t.book with allot :=
      if e.flags.preZero then s.book.allot else s.book.allot.addStrike false q } }

/-- The strike of a numbered apportioning entry; its ALLOTMENT is queued (R93 to R101). -/
def State.strikeAllot (s : State) (role : Role) (n : Period) (e : Entry) (p : AllotPart) : State :=
  let items := s.contributors.map (completeItem p.items)
  let struck := (e.withItems p role items).struckNow
  let t := s.afterStrike struck
  let t := { t with book := { t.book with allot :=
    if e.flags.preZero then s.book.allot else s.book.allot.addStrike true (p.withItems role items) } }
  t.handOver (allotmentRecord n struck.flags (p.withItems role items))

/-- An entry strikes, by whatever cause; a STRUCK entry stays as it is (R71, R72). -/
def State.strike (s : State) (e : Entry) : State :=
  if e.state = .struck then s
  else match e.part, e.number with
    | .line p, _ => s.strikeLine e p
    | .apportioning p, none => s.strikeLeadIn e p
    | .apportioning p, some n => s.strikeAllot (s.role.getD .pool) n e p

/-! ### Revisions -/

/-- The book's part of every revision: REVISED, the revision count, SERVICE (R78). -/
def Entry.revised (e : Entry) : Entry :=
  { e with flags := { e.flags with revised := true }, revisions := hold 15 (e.revisions + 1) }

/-- An item that takes an allotment becomes RECEIVED (R111, R112). -/
def receivedItem (station : Nat) (t : TakenShare) : ShareItem :=
  { station := station, state := .received, share := t.share, allotment := some t.figures }

/-- A share list with the item of a station replaced. -/
def replaceShare (i : ShareItem) (items : List ShareItem) : List ShareItem :=
  items.map fun x => if x.station = i.station then i else x

/-- The revision of a LINE entry by an allotment from a station whose item was `old` (R114, R119, R124, R125). -/
def State.reviseLine (s : State) (e : Entry) (p : LinePart) (old : ShareItem) (t : TakenShare) : State :=
  let shares := replaceShare (receivedItem old.station t) p.shares
  let revised := (e.withShares p shares).revised
  let q := { p with shares := shares }
  let oldLine := (p.result.map LineResult.eLine).getD 0
  let moved := s.book.line.addRevision old.station old.share t.share oldLine (lineResult e.carriers q).eLine
    e.flags.estimated (sharesEstimated shares)
  let u := s.putEntry revised
  State.setService
    { u with subscriptions := setLast old.station t.share s.subscriptions
             book := { u.book with line := if e.flags.preZero then s.book.line else moved } }

/-- A contributor list with the item of a station become RECEIVED with a basis value (R88). -/
def receiveItem (station basis : Nat) (items : List ContributorItem) : List ContributorItem :=
  items.map fun i => if i.station = station then { i with state := .received, basis := basis } else i

/-- The revision of an apportioning entry by a late tally; the revised ALLOTMENT is queued (R88, R102, R103, R105). -/
def State.reviseAllot (s : State) (role : Role) (n : Period) (e : Entry) (p : AllotPart) (station basis : Nat) : State :=
  let items := receiveItem station basis p.items
  let q := { p with revision := p.revision + 1 }
  let revised := (e.withItems q role items).revised
  let u := s.putEntry revised
  let u := State.setService { u with book := { u.book with allot :=
    if e.flags.preZero then s.book.allot else s.book.allot.addRevision p (q.withItems role items) } }
  u.handOver (allotmentRecord n revised.flags (q.withItems role items))

end Sys2Proof.Machine
end

