-- ==== Sys2Proof/Machine/Book.lean ====
section
/-! DEFINITION. The book's close and open, the zero boundary, period control's boundary and the boundary evidence (R11 to R22,
R33, R34, R40, R66 to R69, R80, R81). -/

namespace Sys2Proof.Machine

open Sys2Proof

/-! ### The accumulator bank at a close -/

/-- A configured channel at a close: whole Wh credited, the remainder of 0 to 15 sixteenths kept (R33). -/
def ChannelState.close (c : ChannelState) : ChannelState :=
  { c with held := c.held % 16, credited := c.credited + BitVec.ofNat 60 (c.held / 16) }

/-- The channel table at a close; an unconfigured channel holds nothing and stays as it is (R33). -/
def closeChannels (c : Settings) (channels : Vector ChannelState 8) : Vector ChannelState 8 :=
  Vector.ofFn fun i => if c.channels[i].isSome then channels[i].close else channels[i]

/-- Channel i is configured with the carrier. -/
def Settings.hasCarrier (c : Settings) (carrier : Carrier) (i : Fin 8) : Bool :=
  (c.channels[i].map ChannelSetup.carrier) == some carrier

/-- The whole Wh that the channels of a carrier credit at a close (R33). -/
def carrierWh (c : Settings) (channels : Vector ChannelState 8) (carrier : Carrier) : Nat :=
  (((List.finRange 8).filter fun i => c.hasCarrier carrier i).map fun i => channels[i].held / 16).sum

/-- The distinct carriers of the configured channels, in ascending order of code (R34). -/
def configuredCarriers (c : Settings) : List Carrier :=
  [.gas, .electric, .oxygen, .air, .other].filter fun k => (List.finRange 8).any fun i => c.hasCarrier k i

/-- The carrier totals of the closing entry, each held at 4,294,967,295 (R33, R34). -/
def closingCarriers (c : Settings) (channels : Vector ChannelState 8) : List (Carrier × Nat) :=
  (configuredCarriers c).map fun k => (k, hold Config.quantityLimit (carrierWh c channels k))

/-- A carrier total would pass its limit (R33). -/
def carriersSaturate (c : Settings) (channels : Vector ChannelState 8) : Bool :=
  (configuredCarriers c).any fun k => decide (Config.quantityLimit < carrierWh c channels k)

/-- Good mass of a close: pull less the effective reject, never below 0 (R40). -/
def goodMass (pull reject carry : Nat) : Nat := pull - (reject + carry)

/-- The reject excess carried on: what the effective reject passes the pull by, in 64 bits; a greater excess gives the free
value of log entry 1 (R40, R41). -/
def nextCarry (pull reject carry : Nat) : Nat :=
  let excess := reject + carry - pull
  if excess ≤ Config.carryLimit then excess else (Config.carryPastLimit excess).toNat

/-- The bank after a close: channels closed and, in a LINE, the masses set to 0 and the carry worked out (R33, R40). -/
def Bank.close (b : Bank) (c : Settings) : Bank :=
  let b := { b with channels := closeChannels c b.channels }
  match c.role with
  | .line => { b with pull := 0, reject := 0, cuts := 0, runSeconds := 0, carry := nextCarry b.pull b.reject b.carry }
  | _ => b

/-! ### The close -/

/-- The share item of a subscribed station at the close (R63). -/
def absentShare (station : Nat) : ShareItem := { station := station, state := .absent, share := 0, allotment := none }

/-- The role part fixed at the close: mass figures and share list, or E (R40, R63, R64). -/
def closingPart (c : Settings) (b : Bank) (numbered : Bool) : RolePart :=
  match c.role with
  | .line => .line { pull := b.pull, reject := b.reject, good := goodMass b.pull b.reject b.carry, runSeconds := b.runSeconds,
                     cuts := b.cuts, shares := if numbered then c.table.map absentShare else [], result := none }
  | _ => .apportioning { e := hold Config.quantityLimit (carrierSum (closingCarriers c b.channels)), basis := c.basis,
                         items := [], b := 0, revision := 0, residue := none, sec := none }

/-- A figure fixed at the close is held at its limit: a carrier total, or E of an apportioning entry (R33, R64). -/
def closeSaturates (c : Settings) (b : Bank) : Bool :=
  carriersSaturate c b.channels
    || (c.role != .line && decide (Config.quantityLimit < carrierSum (closingCarriers c b.channels)))

/-- The entry with its closing figures, before any strike that the close causes (R69). -/
def closedEntry (s : State) (c : Settings) (kind : EntryKind) (e : Entry) : Entry :=
  { e with kind := if e.number.isSome then kind else .leadIn
           state := .settling
           duration := s.time.seconds
           flags := { e.flags with saturated := e.flags.saturated || closeSaturates c s.bank }
           carriers := closingCarriers c s.bank.channels
           timer := some 0
           part := closingPart c s.bank e.number.isSome }

/-- The book, the bank and the conditions after the figures of the close are fixed: the estimated-strike state and alarm-seen
are cleared (R57, R69, R184). -/
def State.fixFigures (s : State) (c : Settings) (closed : Entry) : State :=
  State.refreshAlerts
    { s.putEntry closed with
        bank := s.bank.close c
        meter := { s.meter with alarmSeen := false }
        alerts := { s.alerts with estimatedStrike := false } }

/-- The TALLY of a closing LINE entry (R108). -/
def tallyRecord (n : Period) (e : Entry) (p : LinePart) : Record :=
  { kind := .tally, revision := 0, destination := 31, period := n, tag := 0, payload := tallyPayload e p, estimated := false }

/-- The result engine queues the tally of a closed numbered entry (R69, R108). -/
def State.queueTally (s : State) (closed : Entry) : State :=
  match closed.number, closed.part with
  | some n, .line p => s.handOver (tallyRecord n closed p)
  | _, _ => s

/-- The closing entry strikes at once: the lead-in, and every entry of a station with an empty table (R69). -/
def strikesAtClose (c : Settings) (e : Entry) : Bool := e.number.isNone || c.table.isEmpty

/-- Period control closes the open entry (R69); with no open entry nothing happens. The tally is handed over before a strike of
the same close, so that a SATURATED which the strike sets is not in it: the manual does not order the two, and this is the model's
choice (log entry 36). -/
def State.closeOpen (s : State) (kind : EntryKind) : State :=
  match s.settings, s.openEntry with
  | some c, some e =>
    let closed := closedEntry s c kind e
    let t := (s.fixFigures c closed).queueTally closed
    if strikesAtClose c e then t.strike closed else t
  | _, _ => s

/-! ### The open -/

/-- The oldest entry leaves a full book, first being struck when it is SETTLING (R67). -/
def State.evict (s : State) : State :=
  if s.book.entries.length < Config.bookSize then s
  else match s.book.entries with
    | [] => s
    | e :: _ =>
      let t := if e.state = .settling then s.strike e else s
      { t with book := { t.book with entries := t.book.entries.drop 1 } }

/-- A held entry of the same number is removed, first being struck when it is not yet STRUCK (R68). -/
def State.removeNumber (s : State) (number : Option Period) : State :=
  match number with
  | none => s
  | some n =>
    match s.held n with
    | none => s
    | some e =>
      let t := s.strike e
      { t with book := { t.book with entries := t.book.entries.filter fun x => x.number != some n } }

/-- The entry with PRE-ZERO (R81). -/
def Entry.withPreZero (e : Entry) : Entry := { e with flags := { e.flags with preZero := true } }

/-- The zero boundary is applied (R81). -/
def State.zeroBoundary (s : State) : State :=
  State.refreshAlerts
    { s with
        book := { s.book with entries := s.book.entries.map Entry.withPreZero
                              line := LineTotals.zero (s.subscriptions.map Peer.station)
                              allot := AllotTotals.zero
                              zeroPending := false }
        bank := { s.bank with carry := 0 }
        time := { s.time with skipped := 0, gap := false } }

/-- The role part of an open entry: the mass figures are 0 (R63). The manual gives the share list, E and the contributor list from
the close on; that an OPEN entry holds them empty and 0 is the model's choice (log entry 32). -/
def openPart (c : Settings) : RolePart :=
  match c.role with
  | .line => .line { pull := 0, reject := 0, good := 0, runSeconds := 0, cuts := 0, shares := [], result := none }
  | _ => .apportioning { e := 0, basis := c.basis, items := [], b := 0, revision := 0, residue := none, sec := none }

/-- The new entry, with TIMEBASE in FALLBACK and METER-FAULT while a FAULT line is active or a meter entry FAILED (R66). -/
def newEntry (s : State) (c : Settings) (number : Option Period) (cause : Cause) : Entry :=
  { number := number
    kind := if number.isSome then .regular else .leadIn
    state := .opened
    cause := cause
    duration := 0
    flags := { EntryFlags.none with timebase := s.time.source == .fallback, meterFault := s.faultActive || s.meterFailed }
    carriers := []
    revisions := 0
    timer := none
    part := openPart c }

/-- At every open the probe-pending mark of a FAILED channel is set (R137). -/
def LinkChannel.markProbe (c : LinkChannel) : LinkChannel := { c with probe := c.probe || c.state == .failed }

/-- The new entry is added at the end of the book (R66 step 4, R137). -/
def State.addEntry (s : State) (number : Option Period) (cause : Cause) : State :=
  match s.settings with
  | none => s
  | some c =>
    { s with book := { s.book with entries := s.book.entries ++ [newEntry s c number cause] }
             link := { s.link with a := s.link.a.markProbe, b := s.link.b.markProbe } }

/-- The book opens an entry: eviction, removal, zero boundary, the new entry (R66). -/
def State.openNew (s : State) (number : Option Period) (cause : Cause) : State :=
  let s := (s.evict).removeNumber number
  let s := if s.book.zeroPending then s.zeroBoundary else s
  s.addEntry number cause

/-! ### The boundary -/

/-- A jump: the skipped-periods counter grows by the periods passed over, GAP is set, and a LINE adds them to its campaign
totals (R15). -/
def State.recordJump (s : State) (passed : Nat) : State :=
  State.refreshAlerts
    { s with time := { s.time with skipped := grow s.time.skipped passed, gap := true }
             book := { s.book with line :=
               if s.isLine then { s.book.line with skipped := s.book.line.skipped + total passed } else s.book.line } }

/-- TIMEBASE clears at a close after a return from FALLBACK while the state is EXTERNAL (R6, R11 step 3). -/
def State.clearTimebase (s : State) : State :=
  if s.time.timebase && s.time.source == .external then
    State.refreshAlerts { s with time := { s.time with timebase := false } }
  else s

/-- After the open the seconds counter is 0, and STARTING gives way to ACCOUNTING (R11 steps 5 and 6). -/
def State.restartSeconds (s : State) : State :=
  { s with time := { s.time with seconds := 0
                                 accounting := if s.time.accounting = .starting then .accounting else s.time.accounting } }

/-- A boundary of period control, its seven steps in order (R11). `passed` is the number of periods a jump passes over. -/
def State.boundary (s : State) (passed : Option Nat) (number : Period) (cause : Cause) : State :=
  let s := s.closeOpen (if passed.isSome then .irregular else .regular)
  let s := match passed with
    | none => s
    | some k => s.recordJump k
  let s := (s.clearTimebase).openNew (some number) cause
  let s := s.restartSeconds
  if cause = .ownExpiry then s else s.withdrawMark

/-- Own expiry: the boundary to P+1 and the handover of MARK(P+1) (R10). -/
def State.ownExpiry (s : State) : State :=
  match s.openNumber with
  | none => s
  | some p => (s.boundary none (p + 1) .ownExpiry).handOver (markRecord (p + 1))

/-- The end of the solo wait: period 1 opens and MARK(1) is handed over (R22). -/
def State.soloEnd (s : State) : State := (s.boundary none 1 .soloStart).handOver (markRecord 1)

/-! ### Heard marks and boundary evidence -/

/-- A MARK(n) heard from a station (R3, R12 to R16, R21). -/
def State.heardMark (s : State) (n : Period) (station : Nat) : State :=
  match s.time.accounting, s.openNumber with
  | .starting, _ => s.boundary none n (.mark station)
  | .accounting, some p =>
    if n = p then s.withdrawMark
    else if n = p + 1 then s.boundary none n (.mark station)
    else if isNewer n p then s.boundary (some (periodsAfter n p - 1)) n (.mark station)
    else { s with time := { s.time with stale := grow s.time.stale 1 } }
  | _, _ => s

/-- Period n is newer than the open period in ACCOUNTING: a record for it is of a period that this station has not held, skipped by
the jump that the record causes (R18, R85, R110). -/
def State.isAhead (s : State) (n : Period) : Bool :=
  match s.time.accounting, s.openNumber with
  | .accounting, some p => isNewer n p
  | _, _ => false

/-- Boundary evidence: a taken record for period n from a station (R17, R18, R21). -/
def State.evidence (s : State) (n : Period) (station : Nat) : State :=
  match s.time.accounting, s.openNumber with
  | .starting, _ => s.boundary none (n + 1) (.evidence station)
  | .accounting, some p =>
    if n = p then s.boundary none (n + 1) (.evidence station)
    else if isNewer n p && periodsAfter n p != 32767 then s.boundary (some (periodsAfter n p)) (n + 1) (.evidence station)
    else s
  | _, _ => s

/-- A taken TALLY or ALLOTMENT for period n: its boundary evidence first, then the book takes it as `take` says; a record for a
period newer than the open one is late, whatever older entry still carries its number (R18, R73, R74, R85, R110; log entry 28). A record for a number not newer than the
open one finds the entry that carries it, also one left from before a jump that passed the number over: R14 calls such a record
late and R73 looks it up, and the lookup is the model's choice (log entry 35). -/
def State.takeRecord (s : State) (n : Period) (station : Nat) (take : State → State) : State :=
  let t := s.evidence n station
  if s.isAhead n then t.dropLate else take t

end Sys2Proof.Machine
end

