-- ==== Sys2Proof/Machine/MeterPort.lean ====
section
/-! DEFINITION. The meter port: poll rounds, readings, failures, and the commands of the meter line (R43 to R60). -/

namespace Sys2Proof.Machine

open Sys2Proof

/-! ### Rounds -/

/-- The first configured entry from a place of the table on (R49). -/
def Settings.meterFrom (c : Settings) (place : Nat) : Option (Fin 8) :=
  (List.finRange 8).find? fun m => decide (place ≤ m.val) && c.meters[m].isSome

/-- The poll of the first configured entry from a place on; none when the round has no further entry (R48, R49). -/
def State.pollFrom (s : State) (c : Settings) (place : Nat) : State :=
  { s with meter := { s.meter with poll := (c.meterFrom place).map fun m => { entry := m, phase := .waitQuiet } } }

/-- The meter port takes the sample tick that is due: it starts a round, or counts an overrun (R48). -/
def State.takeSample (s : State) : State :=
  match s.settings with
  | none => s
  | some c =>
    let s := { s with time := { s.time with sampleDue := false } }
    if s.meter.poll.isSome then { s with meter := { s.meter with overruns := grow s.meter.overruns 1 } }
    else s.pollFrom c 0

/-- The runtime state of a meter entry is replaced. -/
def State.setMeter (s : State) (m : Fin 8) (e : MeterEntry) : State :=
  { s with meter := { s.meter with entries := s.meter.entries.set m e } }

/-! ### Good and failed polls -/

/-- A meter entry after a valid reply: the reading becomes the reference, the entry is ACTIVE with miss count 0 and
rounds-since-good 1, and the alarm flag is kept (R47, R52 to R55). -/
def goodEntry (value : Nat) (alarm : Bool) : MeterEntry :=
  { state := .active, miss := 0, rounds := 1, reference := some value, alarm := alarm }

/-- The delta of a reading: the value less the reference, modulo the modulus (R53). -/
def meterDelta (modulus value reference : Nat) : Nat := (value + modulus - reference) % modulus

/-- A reading of an entry that holds a reference: credited when plausible, else a discontinuity (R53, R54). -/
def State.takeReading (s : State) (c : Settings) (m : Fin 8) (setup : MeterSetup) (delta : Nat) : State :=
  if delta ≤ setup.limit * s.meter.entries[m].rounds then s.deliver c (.meter m) (delta * setup.scale)
  else
    let t := s.flagOpen EntryFlags.withDiscontinuity
    { t with meter := { t.meter with discontinuities := grow t.meter.discontinuities 1 } }

/-- The alarm flag of a valid reply: the open entry gets METER-FAULT and alarm-seen is set (R57). -/
def State.takeAlarm (s : State) (alarm : Bool) : State :=
  if alarm then
    let t := s.flagOpen EntryFlags.withMeterFault
    { t with meter := { t.meter with alarmSeen := true } }
  else s

/-- A good poll: reference, reading, catch-up and alarm, and METER worked out again (R52 to R57). -/
def State.goodPoll (s : State) (c : Settings) (m : Fin 8) (setup : MeterSetup) (value : Nat) (alarm : Bool) : State :=
  let e : MeterEntry := s.meter.entries[m]
  let t := match e.reference with
    | none => s
    | some r =>
      let s := if e.state = MeterState.failed then s.flagOpen EntryFlags.withCatchUp else s
      s.takeReading c m setup (meterDelta setup.modulus value r)
  ((t.setMeter m (goodEntry value alarm)).takeAlarm alarm).refreshAlerts

/-- A meter entry after a failed poll: rounds-since-good and the miss count grow, and at the third miss it is FAILED (R56). -/
def MeterEntry.failPoll (e : MeterEntry) : MeterEntry :=
  { e with miss := hold 3 (e.miss + 1)
           rounds := hold Config.counterLimit (e.rounds + 1)
           state := if 3 ≤ e.miss + 1 then .failed else e.state }

/-- A failed poll of entry m (R49, R56). -/
def State.failPoll (s : State) (m : Fin 8) : State :=
  let e : MeterEntry := s.meter.entries[m]
  let t := s.setMeter m e.failPoll
  let t := { t with meter := { t.meter with failedPolls := grow t.meter.failedPolls 1 } }
  let t := if e.state ≠ .failed ∧ e.failPoll.state = .failed then t.flagOpen EntryFlags.withMeterFault else t
  t.refreshAlerts

/-- The poll fails and the next poll of the round begins (R49). -/
def State.pollFails (s : State) (c : Settings) (m : Fin 8) : State := (s.failPoll m).pollFrom c (m.val + 1)

/-! ### The steps of a poll -/

/-- The quiet line lets the port send the request (R44, R50 step 1). -/
def State.sendRequest (s : State) : State :=
  match s.settings, s.meter.poll with
  | some c, some p =>
    match p.phase, c.meters[p.entry] with
    | .waitQuiet, some setup =>
      if Config.meterQuietBits ≤ s.meter.quietTime then
        { s with meter := { s.meter with poll := some { p with phase := .sending setup.request } } }
      else s
    | _, _ => s
  | _, _ => s

/-- The quiet time of the meter line grows by the bit times in which no byte started. -/
def State.meterQuiet (s : State) (elapsed : Nat) : State :=
  { s with meter := { s.meter with quietTime := s.meter.quietTime + elapsed } }

/-- The last byte on MRX started that many bit times ago: the line's quiet is counted from there (R50, R51). -/
def State.byteStarted (s : State) (ago : Nat) : State := { s with meter := { s.meter with quietTime := ago } }

/-- A byte has arrived whole on MRX: it started one byte time ago (R43, R50, R51). -/
def State.byteArrived (s : State) : State := s.byteStarted Config.meterByteBits

/-- The eighth byte of a reply is judged (R45, R50 step 3). -/
def State.judgeReply (s : State) (reply : MeterReply) : State :=
  match s.settings, s.meter.poll with
  | some c, some p =>
    match p.phase, c.meters[p.entry] with
    | .window request, some setup =>
      let t := s.byteArrived
      match validReading setup request reply with
      | some r => (t.goodPoll c p.entry setup r.1 r.2).pollFrom c (p.entry.val + 1)
      | none => t.pollFails c p.entry
    | _, _ => s
  | _, _ => s

/-- The transceiver direction MDIR: true while the port drives the line (R43). -/
def MeterPort.transmitting (m : MeterPort) : Bool :=
  match m.poll with
  | some { phase := .sending _, .. } => true
  | _ => false

/-- The bit rate of the meter line, in baud (R43). -/
def MeterBaud.rate : MeterBaud → Nat
  | .b9600 => 9600
  | .b19200 => 19200
  | .b38400 => 38400

/-- The three bytes of a request in the order sent (R44). -/
def MeterRequest.bytes (r : MeterRequest) : List Byte := [r.address, r.select, r.check]

/-- A byte on the meter line, one level for each bit time: a start bit, 8 data bits with the least significant first, and one
stop bit, with no parity (R43). R43 says that a stop bit is not low; the other levels are presumed (log entry 38). -/
def serialByte (b : Byte) : List Level := .low :: ((bitsOf b).reverse.map levelOf ++ [.high])

/-- The levels of MTX, one for each bit time, while the port sends a request (R43, R44). Empty at all other times. -/
def MeterPort.serialWave (m : MeterPort) : List Level :=
  match m.poll with
  | some { phase := .sending request, .. } => request.bytes.flatMap serialByte
  | _ => []

/-- The idle level, at which MTX rests while the port sends nothing (R43, log entry 38). -/
def MeterPort.lineAtRest (m : MeterPort) : Option Level := if m.transmitting then none else some .high

/-- A reply window is open (R50). -/
def MeterPort.inWindow (m : MeterPort) : Bool :=
  match m.poll with
  | some { phase := .window _, .. } => true
  | _ => false

/-! ### The commands -/

/-- SAMPLE_TICK: the sample tick that a base tick gave reaches the meter port (R9, R48). With none due nothing happens. -/
def execSampleTick (s : State) : Host.Outcome State Fault Refusal :=
  .next (if s.time.sampleDue then s.takeSample else s)

/-- METER_LINE_QUIET: `elapsed` bit times pass with no byte starting on MRX; a poll that waits for quiet sends its request
once three byte times have passed (R50 step 1). -/
def execMeterLineQuiet (elapsed : Nat) (s : State) : Host.Outcome State Fault Refusal :=
  .next (if s.inReset then s else (s.meterQuiet elapsed).sendRequest)

/-- QUIET_WAIT_TIMEOUT: the line did not become quiet within 200 ms, and the poll fails without a request (R50 step 1). On a
quiet line it does not occur. -/
def execQuietWaitTimeout (s : State) : Host.Outcome State Fault Refusal :=
  match s.settings, s.meter.poll with
  | some c, some { entry := m, phase := .waitQuiet } =>
    .next (if s.meter.quietTime < Config.meterQuietBits then s.pollFails c m else s)
  | _, _ => .next s

/-- REQUEST_SENT: the last stop bit of the request ends and the reply window opens (R50 step 2). -/
def execRequestSent (s : State) : Host.Outcome State Fault Refusal :=
  match s.meter.poll with
  | some { entry := m, phase := .sending request } =>
    .next { s with meter := { s.meter with poll := some { entry := m, phase := .window request } } }
  | _ => .next s

/-- REPLY_RECEIVED: the eighth byte of the window arrives and the reply is judged (R45, R50). -/
def execReplyReceived (reply : MeterReply) (s : State) : Host.Outcome State Fault Refusal := .next (s.judgeReply reply)

/-- REPLY_WINDOW_CLOSE: the window closes with fewer than eight bytes, and the poll fails (R50 step 3). The line has been quiet
since the last byte that started in the window, whole or not; without one its quiet runs on. -/
def execReplyWindowClose (window : WindowEnd) (s : State) : Host.Outcome State Fault Refusal :=
  match s.settings, s.meter.poll with
  | some c, some { entry := m, phase := .window _ } =>
    .next (if window.received < 8 then (s.byteStarted (window.sinceStart.getD s.meter.quietTime)).pollFails c m else s)
  | _, _ => .next s

/-- STRAY_METER_BYTE: a byte outside a reply window is discarded but counts as line activity; while the port sends, the
receiver ignores MRX (R43, R51). -/
def execStrayMeterByte (_byte : Option Byte) (s : State) : Host.Outcome State Fault Refusal :=
  .next (if s.inReset || s.meter.transmitting || s.meter.inWindow then s else s.byteArrived)

end Sys2Proof.Machine
end

