-- ==== Sys2Proof/Machine/TimeBase.lean ====
section
/-! DEFINITION. The time base: the base tick, the loss watch, and the commands of seconds, expiry and waits (R4 to R10, R22,
R38, R70). -/

namespace Sys2Proof.Machine

open Sys2Proof

/-! ### What a base tick makes due -/

/-- The settling wait of the station: T2 in a LINE, T1 in an apportioning station (R70, R175). -/
def Settings.wait (c : Settings) : Nat :=
  match c.role with
  | .line => c.t2
  | _ => c.t1

/-- The entry is SETTLING and its wait timer has run out (R70). -/
def Entry.waitOver (e : Entry) (wait : Nat) : Bool :=
  e.state == .settling && decide (wait ≤ e.timer.getD 0)

/-- Period expiry is due: the seconds counter has reached the period length in ACCOUNTING (R10). -/
def State.expiryDue (s : State) : Bool :=
  match s.settings with
  | none => false
  | some c => s.time.accounting == .accounting && decide (c.periodLength ≤ s.time.seconds)

/-- The end of the solo wait is due: twice the period length in STARTING (R20, R22). -/
def State.soloDue (s : State) : Bool :=
  match s.settings with
  | none => false
  | some c => s.time.accounting == .starting && decide (2 * c.periodLength ≤ s.time.seconds)

/-- The entries whose wait timers have run out, the oldest first. -/
def State.waitsOver (s : State) : List Entry :=
  match s.settings with
  | none => []
  | some c => s.book.entries.filter fun e => e.waitOver c.wait

/-- What an earlier base tick made due and no command has carried out happens before the next base tick: the strikes of waits
that ran out, the expiry or the end of the solo wait, the sample tick (R9, R10, R22, R70; log entry 5). -/
def State.discharge (s : State) : State :=
  let s := s.waitsOver.foldl State.strike s
  let s := if s.expiryDue then s.ownExpiry else s
  let s := if s.soloDue then s.soloEnd else s
  if s.time.sampleDue then s.takeSample else s

/-! ### The base tick -/

/-- A LINE adds a run second when a RUNNING line is active, or when it has none (R38). -/
def State.runs (s : State) : Bool := s.isLine && (!s.hasRole .running || s.anyActive .running)

/-- The wait timer of a SETTLING entry grows by 1 (R70). -/
def Entry.tick (e : Entry) : Entry :=
  if e.state = .settling then { e with timer := some (e.timer.getD 0 + 1) } else e

/-- The seconds counter, the run seconds and the wait timers count one base tick, and a count that is a multiple of the
sample interval gives a sample tick (R8, R9, R38, R70). -/
def State.countSecond (s : State) (c : Settings) : State :=
  { s with
      time := { s.time with seconds := s.time.seconds + 1, sampleDue := (s.time.seconds + 1) % c.interval == 0 }
      bank := { s.bank with runSeconds := s.bank.runSeconds + s.runs.toNat }
      book := { s.book with entries := s.book.entries.map Entry.tick } }

/-- What is overdue is carried out; nothing is in a station that has no configuration or does not measure. -/
def State.overdue (s : State) : State := if s.settings.isSome && s.measuring then s.discharge else s

/-- The count of a base tick, which occurs in STARTING and ACCOUNTING only (R2, R3, R8). -/
def State.countTick (s : State) : State :=
  match s.settings with
  | none => s
  | some c => if s.measuring then s.countSecond c else s

/-- A base tick: what is overdue first, then the count (R8, log entry 5). -/
def State.baseTick (s : State) : State := s.overdue.countTick

/-! ### The commands -/

/-- INTERNAL_SECOND: the crystal-derived second gives a base tick in INTERNAL and in FALLBACK (R6, R7); it is stopped in
EXTERNAL. -/
def execInternalSecond (s : State) : Host.Outcome State Fault Refusal :=
  .next (if s.time.source = .external then s else s.baseTick)

/-- The second pulse takes over the time base: EXTERNAL, the loss watch runs from 0 (R5, R6). -/
def State.toExternal (s : State) : State := { s with time := { s.time with source := .external, lossWatch := true } }

/-- A second pulse at the time base: nothing in INTERNAL (R7), else the state is EXTERNAL, the loss watch runs from 0 and the
pulse is a base tick (R5, R6). What an earlier tick made due comes before the state changes (log entry 5). -/
def State.secondPulse (s : State) : State :=
  if s.time.source = .internal then s else s.overdue.toExternal.countTick

/-- SECOND_PULSE: a counted edge of the line with role SECOND (R5, R6, R7, R26). -/
def execSecondPulse (line : Fin 8) (s : State) : Host.Outcome State Fault Refusal :=
  .next (if s.pulsePossible line .second then (s.setLevel line (s.countedEdge line)).secondPulse else s)

/-- LOSS_WATCH_EXPIRY: 3 s without a second pulse in EXTERNAL: FALLBACK, TIMEBASE set, the open entry flagged (R5). -/
def execLossWatchExpiry (s : State) : Host.Outcome State Fault Refusal :=
  .next (
    if s.time.lossWatch && s.time.source == .external then
      State.refreshAlerts (State.flagOpen
        { s with time := { s.time with source := .fallback, lossWatch := false, timebase := true } } EntryFlags.withTimebase)
    else s)

/-- PERIOD_EXPIRY: the counter has reached the period length in ACCOUNTING (R10); it does not occur otherwise. -/
def execPeriodExpiry (s : State) : Host.Outcome State Fault Refusal :=
  .next (if s.expiryDue then s.ownExpiry else s)

/-- SOLO_WAIT_END: the counter has reached twice the period length in STARTING (R22); it does not occur otherwise. -/
def execSoloWaitEnd (s : State) : Host.Outcome State Fault Refusal :=
  .next (if s.soloDue then s.soloEnd else s)

/-- WAIT_TIMER_EXPIRY: the wait timer of the SETTLING entry of that number has reached T1 or T2, and the entry strikes
(R70, R71). -/
def execWaitTimerExpiry (number : Period) (s : State) : Host.Outcome State Fault Refusal :=
  match s.settings, s.held number with
  | some c, some e => .next (if e.waitOver c.wait then s.strike e else s)
  | _, _ => .next s

end Sys2Proof.Machine
end

