-- ==== Sys2Proof/Machine/Inputs.lean ====
section
/-! DEFINITION. The commands of the input lines: pulses, level changes, and debounced edges that deliver no event (R24 to R31,
R36, R37, R42). -/

namespace Sys2Proof.Machine

open Sys2Proof

/-- The pulse value of the configured channel whose source is the line (R31). -/
def Settings.pulseOf (c : Settings) (line : Fin 8) : Nat :=
  match (c.channelOf (.line line)).bind fun i => c.channels[i] with
  | none => 0
  | some setup => setup.pulse

/-- An energy pulse at the accumulator bank (R31). -/
def State.energyPulse (s : State) (line : Fin 8) : State :=
  match s.settings with
  | none => s
  | some c => s.deliver c (.line line) (c.pulseOf line)

/-- ENERGY_PULSE: a counted edge on an ENERGY line adds the pulse value to its channel (R26, R31). -/
def execEnergyPulse (line : Fin 8) (s : State) : Host.Outcome State Fault Refusal :=
  .next (if s.pulsePossible line .energy then (s.setLevel line (s.countedEdge line)).energyPulse line else s)

/-- A cut pulse: gob weight times gobs per cut to pull, one to the cut count, SATURATED when either is held (R36). -/
def State.cutPulse (s : State) : State :=
  let mass := s.bank.job.gob * s.bank.job.perCut
  let t := { s with bank := { s.bank with pull := addQuantity s.bank.pull mass, cuts := addQuantity s.bank.cuts 1 } }
  t.saturateIf (decide (Config.quantityLimit < s.bank.pull + mass) || decide (Config.quantityLimit < s.bank.cuts + 1))

/-- CUT_PULSE: a counted edge on a CUT line (R36). -/
def execCutPulse (line : Fin 8) (s : State) : Host.Outcome State Fault Refusal :=
  .next (if s.pulsePossible line .cut then (s.setLevel line (s.countedEdge line)).cutPulse else s)

/-- A reject pulse: the current gob weight to reject, SATURATED when it is held (R37). -/
def State.rejectPulse (s : State) : State :=
  let t := { s with bank := { s.bank with reject := addQuantity s.bank.reject s.bank.job.gob } }
  t.saturateIf (decide (Config.quantityLimit < s.bank.reject + s.bank.job.gob))

/-- REJECT_PULSE: a counted edge on a REJECT line (R37). -/
def execRejectPulse (line : Fin 8) (s : State) : Host.Outcome State Fault Refusal :=
  .next (if s.pulsePossible line .reject then (s.setLevel line (s.countedEdge line)).rejectPulse else s)

/-- RUNNING_LEVEL_CHANGE: a RUNNING line changes level; the bank reads it at later base ticks (R27, R38). -/
def execRunningLevelChange (line : Fin 8) (edge : Edge) (s : State) : Host.Outcome State Fault Refusal :=
  .next (if s.lineHasRole line .running && s.edgePossible line edge then s.setLevel line edge else s)

/-- The active level of line i; HIGH without a configuration (R27). -/
def State.activeLevel (s : State) (i : Fin 8) : Level :=
  match s.settings with
  | none => .high
  | some c => c.lines[i].polarity.activeLevel

/-- A FAULT line changes state: one that becomes active gives the open entry METER-FAULT, and METER is worked out again
(R42, R57). -/
def State.faultChange (s : State) (line : Fin 8) (edge : Edge) : State :=
  let t := s.setLevel line edge
  (if edge.endLevel = s.activeLevel line then t.flagOpen EntryFlags.withMeterFault else t).refreshAlerts

/-- FAULT_LEVEL_CHANGE: a debounced edge of a FAULT line (R27, R42). -/
def execFaultLevelChange (line : Fin 8) (edge : Edge) (s : State) : Host.Outcome State Fault Refusal :=
  .next (if s.lineHasRole line .fault && s.edgePossible line edge then s.faultChange line edge else s)

/-- The edge of the line delivers no event: no configuration (loading or UNCONFIGURED), an UNUSED line, or the uncounted
direction of a pulse role (R24, R26, R28). -/
def State.deliversNothing (s : State) (line : Fin 8) (edge : Edge) : Bool :=
  match s.settings with
  | none => true
  | some c =>
    match c.lines[line].role with
    | .unused => true
    | .running | .fault => false
    | .energy | .cut | .reject | .second => edge != c.lines[line].polarity.countedEdge

/-- Until loading ends the time of a line's last debounced edge of each direction is recorded (R28). -/
def State.recordEdge (s : State) (line : Fin 8) (edge : Edge) (time : Nat) : State :=
  if s.loader.phase = .ended then s
  else match edge with
    | .rising => { s with inputs := s.inputs.set line { s.inputs[line] with lastRise := some time } }
    | .falling => { s with inputs := s.inputs.set line { s.inputs[line] with lastFall := some time } }

/-- DEBOUNCED_EDGE: an edge that delivers no event; the level follows it, and during loading its time is recorded (R25, R28). -/
def execDebouncedEdge (line : Fin 8) (edge : Edge) (time : Nat) (s : State) : Host.Outcome State Fault Refusal :=
  .next (
    if !s.inReset && s.edgePossible line edge && s.deliversNothing line edge then
      (s.setLevel line edge).recordEdge line edge time
    else s)

end Sys2Proof.Machine
end

