-- ==== Sys2Proof/Machine/StartUp.lean ====
section
/-! DEFINITION. Hardware reset, reset release, the image read attempts, the two ends of loading, and the alert pulse's end
(R2 to R4, R20, R28, R168 to R183). -/

namespace Sys2Proof.Machine

open Sys2Proof

/-- HARDWARE_RESET: every block in its reset state, everything in flight abandoned, all runtime state lost (R168). The
commands that wait are not the station's. -/
def execHardwareReset (s : State) : Host.Outcome State Fault Refusal :=
  .next { State.reset with pending := s.pending }

/-- A link channel at reset release: INHIBITED when its inhibit input is active, ACTIVE otherwise (R138, R168). -/
def LinkChannel.released (inhibit : Bool) : LinkChannel :=
  { LinkChannel.atReset with state := if inhibit then .inhibited else .active }

/-- An attempt of the given number begins: the memory is selected and the read instruction sent (R171, R172). -/
def Loader.begin (l : Loader) (attempt : Nat) : Loader :=
  { l with phase := .reading, attempt := attempt, sent := readInstruction }

/-- RESET_RELEASE: the straps are sampled, the debounced levels taken fresh, the inhibit inputs read, and the first image
read begins (R28, R138, R168, R169). It occurs only while RESET is held. -/
def execResetRelease (straps : Straps) (levels : Vector Level 8) (inhibitA inhibitB : Bool) (s : State) :
    Host.Outcome State Fault Refusal :=
  .next (
    if s.inReset then
      { s with
          loader := { s.loader.begin 1 with straps := straps }
          inputs := Vector.ofFn fun i => { level := levels[i], lastRise := none, lastFall := none }
          link := { s.link with a := LinkChannel.released inhibitA, b := LinkChannel.released inhibitB } }
    else s)

/-! ### The end of loading -/

/-- The time of the last counted edge of the line with role SECOND; none without such a line (R4, R28). -/
def lastSecond (c : Settings) (inputs : Vector InputLine 8) : Option Nat :=
  match (List.finRange 8).find? fun i => c.lines[i].role == .second with
  | none => none
  | some i =>
    match c.lines[i].polarity.countedEdge with
    | .rising => inputs[i].lastRise
    | .falling => inputs[i].lastFall

/-- A second pulse was delivered within the 3 s before the end of loading (R4). -/
def secondSeen (c : Settings) (inputs : Vector InputLine 8) (now : Nat) : Bool :=
  match lastSecond c inputs with
  | none => false
  | some t => decide (now ≤ t + 3000)

/-- The base-source state that loading settles (R4). -/
def startSource (c : Settings) (inputs : Vector InputLine 8) (now : Nat) : BaseSource :=
  if !c.external then .internal
  else if secondSeen c inputs now then .external
  else .fallback

/-- A row of a station table with nothing received yet (R83, R107). -/
def Peer.fresh (station : Nat) : Peer := { station := station, last := none }

/-- An alert line takes its configuration (R181). -/
def AlertLine.configure (setup : AlertSetup) : AlertLine :=
  { mode := some setup.mode, group := setup.group, lastOr := false, pulse := false }

/-- Loading ends: the memory is released, and neither the attempt's number nor what it sent is kept (R171, R172). -/
def Loader.finish (l : Loader) : Loader := { l with phase := .ended, attempt := 0, sent := [] }

/-- The blocks take the configuration, each from its own reset state; the state becomes STARTING (R179, R20). -/
def State.configure (s : State) (c : Settings) (own : Option Nat) (clamped : Bool) (image : List Byte) (now : Nat) : State :=
  { s with
      loader := { s.loader.finish with image := image, own := own, source := c.source, clamped := clamped }
      settings := some c
      time := { s.time with accounting := .starting
                            source := startSource c s.inputs now
                            seconds := 0
                            lossWatch := startSource c s.inputs now == .external
                            timebase := startSource c s.inputs now == .fallback }
      bank := { s.bank with job := c.job }
      book := { s.book with line := LineTotals.zero (if c.role = .line then c.table else []) }
      contributors := if c.role = .line then [] else c.table.map Peer.fresh
      subscriptions := if c.role = .line then c.table.map Peer.fresh else []
      link := { s.link with rate := some c.rate } }

/-- Loading ends in success: the blocks are configured, the lead-in is opened and the alert lines take their configuration,
a group already true being a rise (R20, R179, R181, R182). -/
def State.loadSucceeds (s : State) (image : List Byte) (role : Role) (now : Nat) : State :=
  let own := settleOwn image s.loader.straps
  let c := settingsOf image role own
  let t := (s.configure c own (imageClamped image role own) image now).openNew none .start
  State.refreshAlerts
    { t with alerts := { t.alerts with one := AlertLine.configure c.alert1, two := AlertLine.configure c.alert2 } }

/-- The group of the default configuration: UNCONFIGURED alone (R183, R191). -/
def unconfiguredGroup : Byte := 64

/-- Loading ends in failure: UNCONFIGURED, the straps as the number source, the default alert configuration (R170, R180,
R183). The manual names no mode for ALERT-2, whose group is empty: LEVEL is the model's choice (log entry 30). -/
def State.loadFails (s : State) : State :=
  State.refreshAlerts
    { s with
        loader := { s.loader.finish with image := [], own := strapOwn s.loader.straps, source := .straps }
        time := { s.time with accounting := .unconfigured }
        alerts := { s.alerts with one := AlertLine.configure { mode := .level, group := unconfiguredGroup }
                                  two := AlertLine.configure { mode := .level, group := 0 } } }

/-- A failed attempt: 100 ms of waiting, or the end of loading after the fourth (R172). -/
def State.attemptFails (s : State) : State :=
  if Config.maxAttempts ≤ s.loader.attempt then s.loadFails
  else { s with loader := { s.loader with phase := .retryWait, image := [], sent := [] } }

/-- IMAGE_READ_ATTEMPT: an attempt ends with the bytes the memory gave from address 0, at the time `now` (R171 to R173). It
occurs only while the loader reads. -/
def execImageReadAttempt (memory : List Byte) (now : Nat) (s : State) : Host.Outcome State Fault Refusal :=
  .next (
    if s.loader.phase = .reading then
      if imageReads memory then
        match imageRole memory with
        | some role => s.loadSucceeds (memory.take imageLength) role now
        | none => s.loadFails
      else s.attemptFails
    else s)

/-- The serial memory select SCS is active: exactly while an attempt reads (R168, R171, R172). -/
def Loader.selectsMemory (l : Loader) : Bool := l.phase == .reading

/-- The levels of SCK and SDO, a half clock at a time, while the attempt sends its bytes: each bit changes SDO at the falling
edge and the memory samples it at the rising one, most significant bit first (R171). Empty while SCS is inactive. That a 1 is
HIGH on SDO is presumed, because the manual names no level for it (log entry 40). -/
def Loader.serialWave (l : Loader) : List (Level × Level) :=
  l.sent.flatMap fun b => (bitsOf b).flatMap fun bit => [(.low, levelOf bit), (.high, levelOf bit)]

/-- The level at which SCK rests while SCS is inactive (R171). -/
def Loader.clockAtRest (l : Loader) : Option Level := if l.selectsMemory then none else some .low

/-- RETRY_WAIT_END: the 100 ms after a failed attempt end and the next attempt begins from address 0 (R172). -/
def execRetryWaitEnd (s : State) : Host.Outcome State Fault Refusal :=
  .next (
    if s.loader.phase = .retryWait then
      { s with loader := s.loader.begin (s.loader.attempt + 1) }
    else s)

/-- ALERT_PULSE_END: the pulse timer of an alert line reaches 100 ms and stops; a PULSE line is released (R182). -/
def execAlertPulseEnd (alert : AlertNo) (s : State) : Host.Outcome State Fault Refusal :=
  match alert with
  | .one => .next { s with alerts := { s.alerts with one := { s.alerts.one with pulse := false } } }
  | .two => .next { s with alerts := { s.alerts with two := { s.alerts.two with pulse := false } } }

end Sys2Proof.Machine
end

