-- ==== Sys2Proof/Machine/LinkSend.lean ====
section
/-! DEFINITION. The sending side of the link controller: deference, a frame's beginning and its ends, echo faults, the inhibit
inputs (R131 to R139, R149). -/

namespace Sys2Proof.Machine

open Sys2Proof

/-! ### Beginning -/

/-- The frame of a record as it is composed when it begins: every field from the record but the condition word (R149). -/
def State.compose (s : State) (r : Record) : Frame :=
  { kind := r.kind.code, revision := r.revision, source := byte (s.loader.own.getD 0), destination := r.destination,
    period := r.period, condition := s.conditionWord r.estimated, tag := r.tag, payload := r.payload }

/-- Bit times pass on a channel with no transition. -/
def LinkChannel.pass (c : LinkChannel) (elapsed : Nat) : LinkChannel :=
  { c with quietTime := c.quietTime + elapsed, counted := c.counted.map fun n => n + elapsed }

/-- The wait test: the channel is quiet and its counted time has reached the wait of the pick (R132). -/
def LinkChannel.waitReached (c : LinkChannel) (wait : Nat) : Bool :=
  decide (Config.quietBits ≤ c.quietTime) && decide (wait ≤ c.counted.getD 0)

/-- A frame begins on the channel; the record it carries is fixed until it ends or is abandoned (R133). -/
def LinkChannel.begin (c : LinkChannel) (seq : Nat) (f : Frame) : LinkChannel :=
  { c with counted := none
           inFlight := some { seq := seq, frame := f, withdrawn := false, superseded := false, unchecked := false } }

/-- The levels that the station drives on the channel, one for each half bit time from the frame's first cell to the end of its
last, on a pair that rests at `rest`; none while it transmits nothing and the pair is released. A transmission that is abandoned
releases the pair at once (R128, R129, R135). -/
def LinkChannel.drives (c : LinkChannel) (rest : Level) : Option (List Level) := c.inFlight.map fun f => f.frame.wave rest

/-- One channel of the link after a command of its own. -/
def State.setChan (s : State) (ch : Chan) (c : LinkChannel) : State := { s with link := s.link.setChan ch c }

/-- The test of R132 on a channel, after its time has passed: the pick's frame begins when the wait is reached. -/
def State.tryBegin (s : State) (ch : Chan) (c : LinkChannel) : State :=
  match s.link.pick ch, s.loader.own with
  | some q, some own =>
    if c.waitReached (waitOf q.record.kind own) && !s.listenOnly then s.setChan ch (c.begin q.seq (s.compose q.record))
    else s.setChan ch c
  | _, _ => s.setChan ch c

/-- FRAME_BEGIN: `elapsed` bit times pass on the channel with no transition; the frame of the pick begins once the counted
time has reached its wait (R132, R133, R149). A channel on which the station transmits does not count. -/
def execFrameBegin (ch : Chan) (elapsed : Nat) (s : State) : Host.Outcome State Fault Refusal :=
  .next (
    if s.inReset || (s.link.chan ch).inFlight.isSome then s
    else s.tryBegin ch ((s.link.chan ch).pass elapsed))

/-- A transition is heard on the channel: its quiet time, and its counted time if it counts, run from there (R132). -/
def LinkChannel.hearTransition (c : LinkChannel) : LinkChannel :=
  { c with quietTime := 0, counted := c.counted.map fun _ => 0 }

/-- DEFER: a transition is heard before the wait ends; the station counts again from that carrier (R132). While the station
transmits on the channel, what it hears there is the echo check's (R130, R134). -/
def execDefer (ch : Chan) (s : State) : Host.Outcome State Fault Refusal :=
  .next (
    if s.inReset || (s.link.chan ch).inFlight.isSome then s
    else s.setChan ch (s.link.chan ch).hearTransition)

/-! ### Ends -/

/-- The end of a frame on a channel: the channel becomes `c`, the record is owed to it no longer when `released`, and what is
owed is worked out again (R134, R135, R141). -/
def Link.afterFrame (l : Link) (ch : Chan) (c : LinkChannel) (released : Bool) (seq : Nat) : Link :=
  let l := l.setChan ch c.endFrame
  let l := if released then l.release ch seq else l
  Link.recount l l.purge

/-- FRAME_GONE_OUT_WHOLE: every cell matched; the count is 0, a FAILED channel whose probe this was is ACTIVE, and the record
is no longer owed to the channel, unless its MARK took a new number meanwhile (R134, R137, R143). -/
def execFrameGoneOutWhole (ch : Chan) (s : State) : Host.Outcome State Fault Refusal :=
  match (s.link.chan ch).inFlight with
  | none => .next s
  | some f =>
    .next (
      if f.unchecked then s
      else
        let c := s.link.chan ch
        let c := { c with echoFaults := 0, state := if c.state = .failed then .active else c.state }
        State.refreshAlerts { s with link := s.link.afterFrame ch c (!f.superseded) f.seq })

/-- An abandoned transmission on an ACTIVE channel: the count grows, and at 8 the channel becomes FAILED and is owed nothing
(R135, R136). -/
def Link.abandonActive (l : Link) (ch : Chan) (f : InFlight) : Link :=
  let c := l.chan ch
  let n := c.echoFaults + 1
  if Config.echoFaultLimit ≤ n then
    let l := l.setChan ch { c.endFrame with echoFaults := Config.echoFaultLimit, state := .failed }
    Link.recount l (l.releaseAll ch).purge
  else l.afterFrame ch { c with echoFaults := n } f.withdrawn f.seq

/-- ECHO_MISMATCH: the transmission is abandoned; on an ACTIVE channel the echo-fault count grows, on a FAILED one the probe is
owed no longer (R135, R136, R137). -/
def execEchoMismatch (ch : Chan) (s : State) : Host.Outcome State Fault Refusal :=
  match (s.link.chan ch).inFlight with
  | none => .next s
  | some f =>
    .next (
      if f.unchecked then s
      else if (s.link.chan ch).state = .active then State.refreshAlerts { s with link := s.link.abandonActive ch f }
      else { s with link := s.link.afterFrame ch (s.link.chan ch) true f.seq })

/-! ### The inhibit inputs -/

/-- A frame in flight whose channel's inhibit becomes active runs on unchecked, and a new number its MARK took meanwhile is
not owed to the channel after it (R138). -/
def InFlight.uncheck (f : InFlight) : InFlight := { f with unchecked := true, superseded := false }

/-- A channel whose inhibit input becomes active: INHIBITED, no probe pending, a frame in flight runs on unchecked (R138). -/
def LinkChannel.inhibit (c : LinkChannel) : LinkChannel :=
  { c with state := .inhibited, probe := false, inFlight := c.inFlight.map InFlight.uncheck }

/-- INHIBIT_ACTIVE: the channel becomes INHIBITED and its owed records are released (R138, R139). The inhibit inputs are read
from reset release on. -/
def execInhibitActive (ch : Chan) (s : State) : Host.Outcome State Fault Refusal :=
  .next (
    if s.inReset || (s.link.chan ch).state == .inhibited then s
    else
      let l := (s.link.releaseAll ch).purge
      State.refreshAlerts { s with link := Link.recount s.link (l.setChan ch (l.chan ch).inhibit) })

/-- INHIBIT_RELEASED: the channel becomes ACTIVE with echo-fault count 0 (R138, R139). -/
def execInhibitReleased (ch : Chan) (s : State) : Host.Outcome State Fault Refusal :=
  .next (
    if (s.link.chan ch).state = .inhibited then
      State.refreshAlerts (s.setChan ch { s.link.chan ch with state := .active, echoFaults := 0 })
    else s)

/-- INHIBITED_FRAME_END: a frame that was in flight when the inhibit became active ends at its last cell, without echo
comparison; its record is no longer owed to the channel (R138), unless its MARK took a new number after the inhibit was
released (R143). -/
def execInhibitedFrameEnd (ch : Chan) (s : State) : Host.Outcome State Fault Refusal :=
  match (s.link.chan ch).inFlight with
  | none => .next s
  | some f =>
    .next (
      if f.unchecked then { s with link := s.link.afterFrame ch (s.link.chan ch) (!f.superseded) f.seq } else s)

end Sys2Proof.Machine
end

