-- ==== Sys2Proof/Machine/LinkReceive.lean ====
section
/-! DEFINITION. The receiving side of the link controller: the receivers' start, receive errors, the format test, the duplicate
filter and the acceptance filter (R130, R145 to R148, R152). -/

namespace Sys2Proof.Machine

open Sys2Proof

/-- The receiver of the channel takes frames: it has started, and the station is not transmitting on the channel (R130,
R152). -/
def State.canReceive (s : State) (ch : Chan) : Bool :=
  (s.link.chan ch).receiving && (s.link.chan ch).inFlight.isNone

/-- The end of a frame heard on the channel: it becomes quiet, 8 bit times after the last transition, and the counted time of
a channel that counts is its quiet time again (R129, R132). -/
def LinkChannel.hearFrame (c : LinkChannel) : LinkChannel :=
  { c with quietTime := Config.quietBits, counted := c.counted.map fun _ => Config.quietBits }

/-- The channel has heard a frame to its end. -/
def State.hearFrame (s : State) (ch : Chan) : State := s.setChan ch (s.link.chan ch).hearFrame

/-- A receive error on the channel: counted, the frame discarded (R130). -/
def State.receiveError (s : State) (ch : Chan) : State :=
  let c := (s.link.chan ch).hearFrame
  s.setChan ch { c with errors := grow c.errors 1 }

/-- RECEIVE_ERROR: what the receiver collected is no frame: too short, broken bytes, a gap, a byte count that differs from its
header's, a wrong check word (R130). -/
def execReceiveError (ch : Chan) (raw : RawFrame) (s : State) : Host.Outcome State Fault Refusal :=
  .next (if s.canReceive ch && raw.isError then s.receiveError ch else s)

/-- RECEIVER_START: after a successful load the receiver of the channel starts at its next quiet (R152). The bit times still
lacking to the quiet have passed, for the counted time of a channel that counts as well (R132). -/
def execReceiverStart (ch : Chan) (s : State) : Host.Outcome State Fault Refusal :=
  .next (
    if s.settings.isSome && !(s.link.chan ch).receiving then
      let c := s.link.chan ch
      s.setChan ch { c.pass (Config.quietBits - c.quietTime) with receiving := true }
    else s)

/-- BIT_RATE_FIXED: in an UNCONFIGURED station the first leader whose cells match a rate fixes it, and the receivers work from
then on (R152, log entry 12). -/
def execBitRateFixed (ch : Chan) (rate : BitRate) (s : State) : Host.Outcome State Fault Refusal :=
  .next (
    if s.time.accounting == .unconfigured && s.link.rate.isNone then
      let l := s.link.setChan ch { s.link.chan ch with quietTime := 0 }
      { s with link := { l with rate := some rate, a := { l.a with receiving := true }, b := { l.b with receiving := true } } }
    else s)

/-- A format error: counted, the frame dropped before the duplicate filter (R145, R111). -/
def State.formatError (s : State) : State :=
  { s with link := { s.link with formatErrors := grow s.link.formatErrors 1 } }

/-- The recent-frame list with an identity added at its end; a full list first loses its oldest (R146). -/
def addRecent (i : Identity) (recent : List Identity) : List Identity :=
  if recent.length < Config.recentSize then recent ++ [i] else recent.drop 1 ++ [i]

/-- The identity of a frame that passes the duplicate filter enters the recent-frame list (R146). -/
def State.remember (s : State) (f : Frame) : State :=
  { s with link := { s.link with recent := addRecent f.identity s.link.recent } }

/-- The destination is this station's own number (R147). -/
def State.isOwn (s : State) (f : Frame) : Bool := s.loader.own == some f.destination.toNat

/-- The acceptance filter (R147). The contributor table is empty but in an apportioning station, the subscription table but in
a LINE. -/
def State.accepts (s : State) (f : Frame) : Bool :=
  match f.kind.toNat with
  | 1 => true
  | 2 => s.contributors.any fun p => p.station == f.source.toNat
  | 3 => s.subscriptions.any fun p => p.station == f.source.toNat
  | 4 => s.isOwn f
  | 5 => s.isOwn f || f.destination == 31
  | _ => false

/-- A frame heard to its end on a channel, whose command is of the given row: receive check, format test, duplicate filter,
acceptance filter, delivery (R130, R145 to R148). A frame that belongs to another row is no event of this one; a payload
longer than any frame's is a receive error. -/
def State.receive (s : State) (row : FrameRow) (ch : Chan) (f : Frame) (deliver : State → State) : State :=
  if !s.canReceive ch then s
  else if Config.maxPayload < f.payload.length then s.receiveError ch
  else if !f.formatOk then (s.hearFrame ch).formatError
  else if f.row != row then s
  else if f.identity ∈ s.link.recent then s.hearFrame ch
  else
    let t := (s.hearFrame ch).remember f
    if s.accepts f then deliver t else t

end Sys2Proof.Machine
end

