-- ==== Sys2Proof/Machine/Records.lean ====
section
/-! DEFINITION. The records of peers: MARK, TALLY, ALLOTMENT and a heard ANSWER (R12 to R21, R85 to R92, R110 to R116). -/

namespace Sys2Proof.Machine

open Sys2Proof

/-! ### MARK -/

/-- MARK: a received MARK reaches period control (R12 to R16, R21). -/
def execMark (ch : Chan) (frame : Frame) (s : State) : Host.Outcome State Fault Refusal :=
  .next (s.receive .mark ch frame fun t => t.heardMark frame.period frame.source.toNat)

/-! ### TALLY -/

/-- The contributor list with the RECEIVED item of a contributor added or replaced, in contributor-table order (R86, R87). -/
def insertItem (table : List Peer) (station basis : Nat) (items : List ContributorItem) : List ContributorItem :=
  table.filterMap fun c =>
    if c.station = station then some { station := station, state := .received, basis := basis }
    else items.find? fun i => i.station == c.station

/-- Every contributor of the table has a RECEIVED item (R71, R87). -/
def allReceived (table : List Peer) (items : List ContributorItem) : Bool :=
  table.all fun c => items.any fun i => i.station == c.station && i.state == .received

/-- A tally taken into a SETTLING entry, which may complete it (R87). -/
def State.tallySettling (s : State) (e : Entry) (p : AllotPart) (station basis : Nat) : State :=
  let items := insertItem s.contributors station basis p.items
  let e := { e with part := .apportioning { p with items := items, b := basisTotal items } }
  let t := s.putEntry e
  if allReceived s.contributors items then t.strike e else t

/-- A tally that finds its entry STRUCK: a revision, late at revision 3, or ignored (R88, R89, R90). -/
def State.tallyStruck (s : State) (n : Period) (e : Entry) (p : AllotPart) (station basis : Nat) : State :=
  match p.items.find? fun i => i.station == station with
  | none => s
  | some i =>
    if i.state = .received then s
    else if p.revision < 3 then s.reviseAllot (s.role.getD .pool) n e p station basis
    else s.dropLate

/-- The last basis of a contributor is updated by every tally that finds its period held (R92). -/
def State.updateLastBasis (s : State) (station basis : Nat) : State :=
  { s with contributors := setLast station basis s.contributors }

/-- A taken tally against the book as it stands after the boundary evidence (R73, R87 to R92). -/
def State.tallyToBook (s : State) (f : Frame) : State :=
  match s.settings, s.held f.period with
  | some c, some e =>
    match e.part with
    | .line _ => s
    | .apportioning p =>
      let basis := tallyBasis c.basis f
      let t := s.updateLastBasis f.source.toNat basis
      match e.state with
      | .opened => t
      | .settling => t.tallySettling e p f.source.toNat basis
      | .struck => t.tallyStruck f.period e p f.source.toNat basis
  | _, _ => s.dropLate

/-- TALLY: a taken TALLY is boundary evidence, then goes to the book (R85). -/
def execTally (ch : Chan) (frame : Frame) (s : State) : Host.Outcome State Fault Refusal :=
  .next (s.receive .tally ch frame fun t => t.takeRecord frame.period frame.source.toNat fun u => u.tallyToBook frame)

/-! ### ALLOTMENT -/

/-- The revision that a share item records is lower than r (R113, R114). -/
def ShareItem.below (i : ShareItem) (r : Nibble) : Bool :=
  match i.allotment with
  | none => true
  | some a => decide (a.revision.toNat < r.toNat)

/-- An allotment taken into a SETTLING entry (R112, R113). The completion check is made only when the item was ABSENT. -/
def State.allotmentSettling (s : State) (e : Entry) (p : LinePart) (i : ShareItem) (t : TakenShare) : State :=
  let shares := replaceShare (receivedItem i.station t) p.shares
  let e := { e with part := .line { p with shares := shares } }
  if i.state ≠ .received then
    let u := s.putEntry e
    if shares.all fun x => x.state == .received then u.strike e else u
  else if i.below t.figures.revision then s.putEntry e
  else s

/-- An allotment that finds its entry STRUCK: a revision, or ignored (R114, R115). -/
def State.allotmentStruck (s : State) (e : Entry) (p : LinePart) (i : ShareItem) (t : TakenShare) : State :=
  if i.state ≠ .received || i.below t.figures.revision then s.reviseLine e p i t else s

/-- A taken allotment against the book as it stands after the boundary evidence (R73, R111 to R116). -/
def State.allotmentToBook (s : State) (f : Frame) : State :=
  match s.held f.period with
  | none => s.dropLate
  | some e =>
    match e.part with
    | .apportioning _ => s
    | .line p =>
      match takenShare s.loader.own f with
      | none => s.formatError
      | some t =>
        match p.shares.find? fun i => i.station == f.source.toNat with
        | none => s
        | some i =>
          match e.state with
          | .opened => s
          | .settling => s.allotmentSettling e p i t
          | .struck => s.allotmentStruck e p i t

/-- ALLOTMENT: a taken ALLOTMENT is boundary evidence, then goes to the book (R110). -/
def execAllotment (ch : Chan) (frame : Frame) (s : State) : Host.Outcome State Fault Refusal :=
  .next (s.receive .allotment ch frame fun t => t.takeRecord frame.period frame.source.toNat fun u => u.allotmentToBook frame)

/-! ### ANSWER -/

/-- ANSWER_HEARD: a received ANSWER passes the duplicate filter and is never taken (R146, R147). -/
def execAnswerHeard (ch : Chan) (frame : Frame) (s : State) : Host.Outcome State Fault Refusal :=
  .next (s.receive .answer ch frame fun t => t)

end Sys2Proof.Machine
end

