-- ==== Sys2Proof/Machine/Requests.lean ====
section
/-! DEFINITION. The request handler: queries, unknown requests and orders (R153 to R167). -/

namespace Sys2Proof.Machine

open Sys2Proof

/-! ### Outcomes and answers -/

/-- The item or order code of a request: the first byte of its payload (R188). -/
def requestCode (f : Frame) : Byte := f.payload.getD 0 0

/-- The request is an ORDER (R187). -/
def isOrder (f : Frame) : Bool := f.kind == 5

/-- The ANSWER to a request: outcome, code, body; the revision carries the part, 0 for an ORDER (R153, R188). -/
def answerRecord (f : Frame) (outcome : RequestOutcome) (body : List Byte) (period : Period) (estimated : Bool) : Record :=
  { kind := .answer, revision := if isOrder f then 0 else f.revision, destination := f.source, period := period,
    tag := f.tag, payload := [byte outcome.code, requestCode f] ++ body, estimated := estimated }

/-- Hands over the ANSWER to a request under the request's own period number (R153). -/
def State.answer (s : State) (f : Frame) (outcome : RequestOutcome) (body : List Byte) : State :=
  s.handOver (answerRecord f outcome body f.period false)

/-- The last refusal is recorded (R166). -/
def State.recordRefusal (s : State) (f : Frame) (outcome : RequestOutcome) : State :=
  let r : LastRefusal :=
    { order := isOrder f, code := requestCode f, source := f.source, tag := f.tag, outcome := outcome }
  { s with requests := { s.requests with lastRefusal := some r } }

/-- The queries-taken counter grows at each QUERY taken (R167). -/
def State.countQuery (s : State) : State :=
  { s with requests := { s.requests with queries := grow s.requests.queries 1 } }

/-- The unknown-request counter grows and the refusal is recorded (R166). -/
def State.countUnknown (s : State) (f : Frame) (outcome : RequestOutcome) : State :=
  State.recordRefusal { s with requests := { s.requests with unknown := grow s.requests.unknown 1 } } f outcome

/-- The station is UNCONFIGURED, and answers CONDITION queries only (R161). -/
def State.isUnconfigured (s : State) : Bool := s.time.accounting == .unconfigured

/-- A query of a configured station, counted and handled; in an UNCONFIGURED station NOT-READY, with no answer (R161, R166,
R167). -/
def State.query (s : State) (f : Frame) (handle : State → State) : State :=
  let s := s.countQuery
  if s.isUnconfigured then s.countUnknown f .notReady else handle s

/-! ### Book queries -/

/-- The ANSWER that carries a part of a struck entry (R153, R157). -/
def State.answerEntry (s : State) (f : Frame) (e : Entry) : State :=
  s.handOver (answerRecord f .answered (entryBody e f.revision.toNat) (e.number.getD f.period) e.flags.estimated)

/-- A RESULT query: the struck entry, PENDING, or NOT-HELD (R155). -/
def State.answerResult (s : State) (f : Frame) : State :=
  match s.held f.period with
  | none => s.answer f .notHeld []
  | some e => if e.state = .struck then s.answerEntry f e else s.answer f .pending [byte e.state.code]

/-- QUERY_RESULT (R155). -/
def execQueryResult (ch : Chan) (frame : Frame) (s : State) : Host.Outcome State Fault Refusal :=
  .next (s.receive .queryResult ch frame fun t => t.query frame fun u => u.answerResult frame)

/-- The newest struck entry, the lead-in included (R156). -/
def State.newestStruck (s : State) : Option Entry := s.book.entries.reverse.find? fun e => e.state == .struck

/-- A LATEST query: the newest struck entry, or NOT-HELD (R156). -/
def State.answerLatest (s : State) (f : Frame) : State :=
  match s.newestStruck with
  | none => s.answer f .notHeld []
  | some e => s.answerEntry f e

/-- QUERY_LATEST (R156). -/
def execQueryLatest (ch : Chan) (frame : Frame) (s : State) : Host.Outcome State Fault Refusal :=
  .next (s.receive .queryLatest ch frame fun t => t.query frame fun u => u.answerLatest frame)

/-! ### Station queries -/

/-- QUERY_CAMPAIGN (R158). -/
def execQueryCampaign (ch : Chan) (frame : Frame) (s : State) : Host.Outcome State Fault Refusal :=
  .next (s.receive .queryCampaign ch frame fun t => t.query frame fun u => u.answer frame .answered u.campaignBody)

/-- A CONDITION query: the requested part, and SERVICE clears as the answer enters the queue (R150, R159). -/
def State.answerCondition (s : State) (f : Frame) : State :=
  let r := answerRecord f .answered (s.conditionBody f.revision.toNat) f.period false
  let t := s.handOver r
  if s.wouldEnter r then t.clearService else t

/-- QUERY_CONDITION: answered in an UNCONFIGURED station too (R159, R161). -/
def execQueryCondition (ch : Chan) (frame : Frame) (s : State) : Host.Outcome State Fault Refusal :=
  .next (s.receive .queryCondition ch frame fun t => t.countQuery.answerCondition frame)

/-- QUERY_CHANNELS (R160). -/
def execQueryChannels (ch : Chan) (frame : Frame) (s : State) : Host.Outcome State Fault Refusal :=
  .next (s.receive .queryChannels ch frame fun t =>
    t.query frame fun u => u.answer frame .answered (u.channelsBody frame.revision.toNat))

/-! ### Orders -/

/-- Hands over the ANSWER to an ORDER, unless it was addressed to 31 (R165). -/
def State.answerOrder (s : State) (f : Frame) (outcome : RequestOutcome) (body : List Byte) : State :=
  if f.destination = 31 then s else s.answer f outcome body

/-- An order is refused: counted, SERVICE set, recorded, and answered but for REFUSED-STATE (R162, R166). -/
def State.refuse (s : State) (f : Frame) (outcome : RequestOutcome) : State :=
  let t := State.setService
    (State.recordRefusal { s with requests := { s.requests with refused := grow s.requests.refused 1 } } f outcome)
  if outcome = .refusedState then t else t.answerOrder f outcome []

/-- An order is accepted: counted (R162, R167). -/
def State.countAccepted (s : State) : State :=
  { s with requests := { s.requests with accepted := grow s.requests.accepted 1 } }

/-- The authorization number, gob weight and gobs per cut of an ORDER (R188). -/
def orderAuthorization (f : Frame) : Nat := f.field 1 2

/-- The job of a JOB order (R188). -/
def orderJob (f : Frame) : Job := { gob := f.field 3 2, perCut := f.at 5 }

/-- The job of an order is in range (R162). -/
def jobInRange (j : Job) : Bool := decide (1 ≤ j.gob) && decide (1 ≤ j.perCut) && decide (j.perCut ≤ 4)

/-- The tests of an order in their order: state, authorization, role, range; none when it passes them all (R162). The order
code is tested between the first two; the rows of ZERO and JOB have known codes. -/
def State.orderRefusal (s : State) (f : Frame) (job : Bool) : Option RequestOutcome :=
  match s.settings with
  | none => some .refusedState
  | some c =>
    if orderAuthorization f ≠ c.authorization then some .refusedCode
    else if !job then none
    else if c.role ≠ .line then some .refusedRole
    else if !jobInRange (orderJob f) then some .refusedRange
    else none

/-- An accepted ZERO sets zero-pending; its answer says whether it was set already (R80, R163, R188). -/
def State.acceptZero (s : State) (f : Frame) : State :=
  let t := { s.countAccepted with book := { s.book with zeroPending := true } }
  t.answerOrder f .accepted [byte s.book.zeroPending.toNat]

/-- A ZERO order (R162, R163, R165). -/
def State.takeZero (s : State) (f : Frame) : State :=
  match s.orderRefusal f false with
  | some outcome => s.refuse f outcome
  | none => s.acceptZero f

/-- ORDER_ZERO (R163). -/
def execOrderZero (ch : Chan) (frame : Frame) (s : State) : Host.Outcome State Fault Refusal :=
  .next (s.receive .orderZero ch frame fun t => t.takeZero frame)

/-- An accepted JOB replaces the current job and gives the open entry JOB-CHANGE; its answer holds the job (R39, R164). -/
def State.acceptJob (s : State) (f : Frame) : State :=
  let j := orderJob f
  let t := { s.countAccepted with bank := { s.bank with job := j } }
  (t.flagOpen EntryFlags.withJobChange).answerOrder f .accepted (toBytes 2 j.gob ++ [byte j.perCut])

/-- A JOB order (R162, R164, R165). -/
def State.takeJob (s : State) (f : Frame) : State :=
  match s.orderRefusal f true with
  | some outcome => s.refuse f outcome
  | none => s.acceptJob f

/-- ORDER_JOB (R164). -/
def execOrderJob (ch : Chan) (frame : Frame) (s : State) : Host.Outcome State Fault Refusal :=
  .next (s.receive .orderJob ch frame fun t => t.takeJob frame)

/-! ### Unknown requests -/

/-- A query with an unknown item or an undefined part: UNKNOWN with no body (R154, R166). -/
def State.unknownQuery (s : State) (f : Frame) : State :=
  s.query f fun t => (t.countUnknown f .unknown).answer f .unknown []

/-- An order with an unknown code: REFUSED-STATE in an UNCONFIGURED station, else UNKNOWN (R162, R166). -/
def State.unknownOrder (s : State) (f : Frame) : State :=
  if s.isUnconfigured then s.refuse f .refusedState
  else (s.countUnknown f .unknown).answerOrder f .unknown []

/-- UNKNOWN_REQUEST (R154, R162). -/
def execUnknownRequest (ch : Chan) (frame : Frame) (s : State) : Host.Outcome State Fault Refusal :=
  .next (s.receive .unknown ch frame fun t => if isOrder frame then t.unknownOrder frame else t.unknownQuery frame)

end Sys2Proof.Machine
end

