-- ==== Sys2Proof/Machine/Dispatch.lean ====
section
/-! DEFINITION. One arm per command of the table, each one direct call of its meaning. -/

namespace Sys2Proof.Machine

open Sys2Proof

def exec (i : Instr) (s : State) : Host.Outcome State Fault Refusal :=
  match i with
  | .hardwareReset => Sys2Proof.Machine.execHardwareReset s
  | .resetRelease straps levels inhibitA inhibitB => Sys2Proof.Machine.execResetRelease straps levels inhibitA inhibitB s
  | .imageReadAttempt memory now => Sys2Proof.Machine.execImageReadAttempt memory now s
  | .retryWaitEnd => Sys2Proof.Machine.execRetryWaitEnd s
  | .internalSecond => Sys2Proof.Machine.execInternalSecond s
  | .secondPulse line => Sys2Proof.Machine.execSecondPulse line s
  | .lossWatchExpiry => Sys2Proof.Machine.execLossWatchExpiry s
  | .periodExpiry => Sys2Proof.Machine.execPeriodExpiry s
  | .soloWaitEnd => Sys2Proof.Machine.execSoloWaitEnd s
  | .sampleTick => Sys2Proof.Machine.execSampleTick s
  | .waitTimerExpiry number => Sys2Proof.Machine.execWaitTimerExpiry number s
  | .alertPulseEnd alert => Sys2Proof.Machine.execAlertPulseEnd alert s
  | .energyPulse line => Sys2Proof.Machine.execEnergyPulse line s
  | .cutPulse line => Sys2Proof.Machine.execCutPulse line s
  | .rejectPulse line => Sys2Proof.Machine.execRejectPulse line s
  | .runningLevelChange line edge => Sys2Proof.Machine.execRunningLevelChange line edge s
  | .faultLevelChange line edge => Sys2Proof.Machine.execFaultLevelChange line edge s
  | .debouncedEdge line edge time => Sys2Proof.Machine.execDebouncedEdge line edge time s
  | .meterLineQuiet elapsed => Sys2Proof.Machine.execMeterLineQuiet elapsed s
  | .quietWaitTimeout => Sys2Proof.Machine.execQuietWaitTimeout s
  | .requestSent => Sys2Proof.Machine.execRequestSent s
  | .replyReceived reply => Sys2Proof.Machine.execReplyReceived reply s
  | .replyWindowClose window => Sys2Proof.Machine.execReplyWindowClose window s
  | .strayMeterByte byte => Sys2Proof.Machine.execStrayMeterByte byte s
  | .frameBegin ch elapsed => Sys2Proof.Machine.execFrameBegin ch elapsed s
  | .defer ch => Sys2Proof.Machine.execDefer ch s
  | .frameGoneOutWhole ch => Sys2Proof.Machine.execFrameGoneOutWhole ch s
  | .echoMismatch ch => Sys2Proof.Machine.execEchoMismatch ch s
  | .inhibitActive ch => Sys2Proof.Machine.execInhibitActive ch s
  | .inhibitReleased ch => Sys2Proof.Machine.execInhibitReleased ch s
  | .receiveError ch raw => Sys2Proof.Machine.execReceiveError ch raw s
  | .bitRateFixed ch rate => Sys2Proof.Machine.execBitRateFixed ch rate s
  | .mark ch frame => Sys2Proof.Machine.execMark ch frame s
  | .tally ch frame => Sys2Proof.Machine.execTally ch frame s
  | .allotment ch frame => Sys2Proof.Machine.execAllotment ch frame s
  | .answerHeard ch frame => Sys2Proof.Machine.execAnswerHeard ch frame s
  | .queryResult ch frame => Sys2Proof.Machine.execQueryResult ch frame s
  | .queryLatest ch frame => Sys2Proof.Machine.execQueryLatest ch frame s
  | .queryCampaign ch frame => Sys2Proof.Machine.execQueryCampaign ch frame s
  | .queryCondition ch frame => Sys2Proof.Machine.execQueryCondition ch frame s
  | .queryChannels ch frame => Sys2Proof.Machine.execQueryChannels ch frame s
  | .unknownRequest ch frame => Sys2Proof.Machine.execUnknownRequest ch frame s
  | .orderZero ch frame => Sys2Proof.Machine.execOrderZero ch frame s
  | .orderJob ch frame => Sys2Proof.Machine.execOrderJob ch frame s
  | .receiverStart ch => Sys2Proof.Machine.execReceiverStart ch s
  | .inhibitedFrameEnd ch => Sys2Proof.Machine.execInhibitedFrameEnd ch s

end Sys2Proof.Machine
end

