-- ==== Sys2Proof/Safety.lean ====
section
/-! DEFINITION. The terms that statements about the station are made in: which frames reach which block, when nothing is
overdue, and the relations of the manual that hold of every state a station passes through. -/

namespace Sys2Proof.Machine

open Sys2Proof

/-! ### Frames and the blocks they reach -/

/-- The command by which a frame of a row arrives on a channel. -/
def frameCommand (row : FrameRow) (ch : Chan) (f : Frame) : Instr :=
  match row with
  | .mark => .mark ch f
  | .tally => .tally ch f
  | .allotment => .allotment ch f
  | .answer => .answerHeard ch f
  | .queryResult => .queryResult ch f
  | .queryLatest => .queryLatest ch f
  | .queryCampaign => .queryCampaign ch f
  | .queryCondition => .queryCondition ch f
  | .queryChannels => .queryChannels ch f
  | .unknown => .unknownRequest ch f
  | .orderZero => .orderZero ch f
  | .orderJob => .orderJob ch f

/-- A frame of the row passes every stage of the receive path on the channel but the last (R130, R145, R146). -/
def State.isHeard (s : State) (row : FrameRow) (ch : Chan) (f : Frame) : Prop :=
  s.canReceive ch = true ∧ f.payload.length ≤ Config.maxPayload ∧ f.formatOk = true ∧ f.row = row
    ∧ f.identity ∉ s.link.recent

/-- A frame of the row reaches its block: it passes the acceptance filter as well (R147). -/
def State.delivers (s : State) (row : FrameRow) (ch : Chan) (f : Frame) : Prop := s.isHeard row ch f ∧ s.accepts f = true

/-- The station once it has heard the frame to its end and remembered its identity (R129, R146). -/
def State.heard (s : State) (ch : Chan) (f : Frame) : State := (s.hearFrame ch).remember f

/-! ### Tables of fields (R186) -/

/-- The numbers that bytes hold in successive fields of the given widths, each the most significant byte first (R186). -/
def fieldsOf : List Nat → List Byte → List Nat
  | [], _ => []
  | w :: ws, bytes => ofBytes (bytes.take w) :: fieldsOf ws (bytes.drop w)

/-- The bytes are laid out as a table of fields: each row's value, in its number of bytes, one row after the other, and nothing
after the last. A value is read in the width of its field. -/
def laidOut (bytes : List Byte) (table : List (Nat × Nat)) : Prop :=
  fieldsOf (table.map Prod.fst) bytes = table.map (fun row => row.2 % 256 ^ row.1)
    ∧ bytes.length = (table.map Prod.fst).sum

/-- The rows of the carrier items of an entry: the carrier code, then the Wh (R187). -/
def carrierRows (carriers : List (Carrier × Nat)) : List (Nat × Nat) :=
  carriers.flatMap fun c =>
    [(1, match c.1 with | .gas => 1 | .electric => 2 | .oxygen => 3 | .air => 4 | .other => 5), (4, c.2)]

/-- The number of which the given bits are set, from bit 0 on. -/
def bitsNumber (bits : List Bool) : Nat := (bits.zipIdx.map fun b => if b.1 then 2 ^ b.2 else 0).sum

/-- The entry flags in their 2-byte field: the eleven in the order of R187, from bit 0 on. -/
def flagsNumber (f : EntryFlags) : Nat :=
  bitsNumber [f.meterFault, f.catchUp, f.discontinuity, f.estimated, f.revised, f.excluded, f.noBasis, f.jobChange, f.saturated,
    f.timebase, f.preZero]

/-- The rows of an entry's common fields (R189): kind, state, cause and its station, duration, flags, revision count, carriers. -/
def entryRows (e : Entry) : List (Nat × Nat) :=
  [(1, match e.kind with | .leadIn => 1 | .regular => 2 | .irregular => 3),
    (1, match e.state with | .opened => 1 | .settling => 2 | .struck => 3),
    (1, match e.cause with | .ownExpiry => 1 | .mark _ => 2 | .evidence _ => 3 | .soloStart => 4 | .start => 5),
    (1, match e.cause with | .mark k => k | .evidence k => k | _ => 0), (2, e.duration), (2, flagsNumber e.flags),
    (1, e.revisions), (1, e.carriers.length)] ++ carrierRows e.carriers

/-- A count, then the rows of each item (R186). -/
def countedRows {α : Type} (items : List α) (rows : α → List (Nat × Nat)) : List (Nat × Nat) :=
  (1, items.length) :: items.flatMap rows

/-- The number of a basis kind (R187). -/
def basisNumber : BasisKind → Nat
  | .mass => 1
  | .good => 2
  | .runtime => 3

/-! ### What a command does to the entries -/

/-- The entries, the OPEN one with the flags that f makes of its flags when the test holds, every other entry as it is. -/
def flagOpenedIf (test : Prop) [Decidable test] (f : EntryFlags → EntryFlags) (entries : List Entry) : List Entry :=
  entries.map fun e => if e.state = .opened ∧ test then { e with flags := f e.flags } else e

/-- The entries after one base tick of their wait timers (R70). -/
def tickedEntries (entries : List Entry) : List Entry :=
  entries.map fun e => if e.state = .settling then { e with timer := some (e.timer.getD 0 + 1) } else e

/-! ### Time -/

/-- Nothing that an earlier base tick made due is still waiting (R9, R10, R22, R70). -/
def State.nothingDue (s : State) : Prop :=
  s.waitsOver = [] ∧ s.expiryDue = false ∧ s.soloDue = false ∧ s.time.sampleDue = false

/-! ### The energy channels (R35) -/

/-- Sixteen times what a channel has credited, in the 64-bit width of the counted count (R35). -/
def ChannelState.creditedSixteenths (c : ChannelState) : Counted := c.credited.setWidth 64 <<< 4

/-- The channel relation: what was counted since reset is what was credited plus what is held, and the accumulator is within
its limit (R31, R35). -/
def ChannelState.balanced (c : ChannelState) : Prop :=
  c.counted = c.creditedSixteenths + BitVec.ofNat 64 c.held ∧ c.held ≤ Config.accumulatorLimit

/-- The channel relation holds of all eight channels (R35). -/
def State.channelsBalance (s : State) : Prop := ∀ i : Fin 8, s.bank.channels[i].balanced

/-! ### The campaign totals (R75, R76) -/

/-- The residue of an apportioning entry is part of its E (R95). -/
def AllotPart.residueWithin (p : AllotPart) : Prop := p.residue.getD 0 ≤ p.e

/-- Measured Wh equal allotted Wh plus undistributed Wh, in the 48-bit width (R76). -/
def State.allotBalance (s : State) : Prop :=
  s.book.allot.measured = s.book.allot.allotted + s.book.allot.undistributed
    ∧ ∀ e ∈ s.book.entries, ∀ p, e.part = .apportioning p → p.residueWithin

/-- The sum of the five energy totals (R75). -/
def EnergyTotals.sum (t : EnergyTotals) : Total := t.gas + t.electric + t.oxygen + t.air + t.other

/-- The sum of the share totals (R75). -/
def shareTotalSum (shares : List (Nat × Total)) : Total := (shares.map Prod.snd).foldl (· + ·) 0

/-- A LINE entry fits the subscription table: each item belongs to a station of it, no station twice, and a struck entry's
E_line is the sum of its carrier totals and its shares (R63, R120). -/
def Entry.lineFits (e : Entry) (stations : List Nat) : Prop :=
  ∀ p, e.part = .line p →
    (p.shares.map ShareItem.station).Nodup ∧ (∀ i ∈ p.shares, i.station ∈ stations)
      ∧ (e.state = .struck → ∃ r, p.result = some r ∧ r.eLine = carrierSum e.carriers + shareSum p.shares)

/-- The E_line total equals the sum of the energy totals and the share totals, over a book whose entries fit the subscription
table (R75). -/
def State.lineBalance (s : State) : Prop :=
  s.book.line.eLine = s.book.line.energy.sum + shareTotalSum s.book.line.shares
    ∧ (s.subscriptions.map Peer.station).Nodup
    ∧ s.book.line.shares.map Prod.fst = s.subscriptions.map Peer.station
    ∧ (s.loader.phase ≠ .ended → s.book.entries = [] ∧ s.settings = none)
    ∧ (∀ c, s.settings = some c → c.role = .line → c.table = s.subscriptions.map Peer.station)
    ∧ ∀ e ∈ s.book.entries, e.lineFits (s.subscriptions.map Peer.station)

/-! ### The book (R2, R61, R64) -/

/-- The revision count and the allotment revision of an apportioning entry are equal and at most 3, and an OPEN entry has had
no revision (R62, R64, R88). -/
def Entry.revisionsAgree (e : Entry) : Prop :=
  (e.state = .opened → e.revisions = 0) ∧ ∀ p, e.part = .apportioning p → e.revisions = p.revision ∧ p.revision ≤ 3

/-- The entries keep the book's form: at most 12, their numbers distinct, only the newest OPEN, only the oldest without a
number, and exactly the one without a number of kind LEAD-IN (R61, R62). -/
def Book.formed (b : Book) : Prop :=
  b.entries.length ≤ Config.bookSize ∧ (b.entries.map Entry.number).Nodup
    ∧ (∀ e ∈ b.entries.dropLast, e.state ≠ .opened) ∧ (∀ e ∈ b.entries.drop 1, e.number ≠ none)
    ∧ (∀ e ∈ b.entries, e.kind = .leadIn ↔ e.number = none) ∧ ∀ e ∈ b.entries, e.revisionsAgree

/-- What the book holds fits the accounting state: nothing and no configuration in LOADING and UNCONFIGURED, the open lead-in
alone in STARTING, an open numbered entry in ACCOUNTING (R2). -/
def State.phaseFits (s : State) : Prop :=
  match s.time.accounting with
  | .loading => s.loader.phase ≠ .ended ∧ s.settings = none ∧ s.book.entries = []
  | .unconfigured => s.loader.phase = .ended ∧ s.settings = none ∧ s.book.entries = []
  | .starting => s.loader.phase = .ended ∧ s.settings.isSome = true
      ∧ ∃ e, s.book.entries = [e] ∧ e.state = .opened ∧ e.number = none
  | .accounting => s.loader.phase = .ended ∧ s.settings.isSome = true
      ∧ ∃ e, s.book.entries.getLast? = some e ∧ e.state = .opened ∧ e.number ≠ none

/-- The book is well formed and fits the accounting state (R2, R61). -/
def State.bookFormed (s : State) : Prop := s.book.formed ∧ s.phaseFits

/-! ### The link controller (R135, R137, R141, R146) -/

/-- A channel's echo-fault count fits its state, and an INHIBITED channel has no probe pending (R135, R136, R138). -/
def LinkChannel.formed (c : LinkChannel) : Prop :=
  match c.state with
  | .active => c.echoFaults < Config.echoFaultLimit
  | .failed => c.echoFaults = Config.echoFaultLimit
  | .inhibited => c.echoFaults ≤ Config.echoFaultLimit ∧ c.probe = false

/-- The transmit queue holds at most 8 records and at most one MARK, each still owed to a channel, in their order of entry
(R140, R141). -/
def Link.queueFormed (l : Link) : Prop :=
  l.queue.length ≤ Config.queueSize ∧ (l.queue.countP fun q => q.isMark) ≤ 1
    ∧ (∀ q ∈ l.queue, (q.owedA || q.owedB) = true)
    ∧ l.queue.Pairwise (fun x y => x.seq < y.seq) ∧ ∀ q ∈ l.queue, q.seq < l.nextSeq

/-- The link controller is well formed: its channels, its queue, and a recent-frame list of at most 16 distinct identities
(R135, R141, R146). -/
def Link.formed (l : Link) : Prop :=
  l.a.formed ∧ l.b.formed ∧ l.queueFormed ∧ l.recent.length ≤ Config.recentSize ∧ l.recent.Nodup

/-! ### The meter table (R47) -/

/-- The runtime state of a meter entry fits R47: the counts within their ranges, FAILED exactly at the third miss, a reference
reading below the modulus that only NO-REFERENCE lacks for certain. -/
def MeterEntry.formed (e : MeterEntry) (setup : Option MeterSetup) : Prop :=
  e.miss ≤ 3 ∧ 1 ≤ e.rounds ∧ e.rounds ≤ Config.counterLimit ∧ (e.state = .failed ↔ e.miss = 3)
    ∧ (e.state = .noReference → e.reference = none) ∧ (e.state = .active → e.reference.isSome = true)
    ∧ ∀ r, e.reference = some r → ∃ m, setup = some m ∧ r < m.modulus

/-- The meter entry that a configuration gives, absent without a configuration. -/
def State.meterSetup (s : State) (m : Fin 8) : Option MeterSetup := s.settings.bind fun c => c.meters[m]

/-- Every meter entry fits R47, and no meter has been read while no configuration is loaded. -/
def State.metersFormed (s : State) : Prop :=
  (∀ m : Fin 8, s.meter.entries[m].formed (s.meterSetup m)) ∧ (s.loader.phase ≠ .ended → s.settings = none)
    ∧ (s.settings = none → s.meter.poll = none)

/-! ### The alert lines (R181) -/

/-- An alert line with a mode holds the OR of its group as its members stand. -/
def AlertLine.follows (l : AlertLine) (s : State) : Prop := l.mode ≠ none → l.lastOr = s.groupOr l.group

/-- Both alert lines follow their groups, and neither has a mode before loading ends (R181). -/
def State.alertsFollow (s : State) : Prop :=
  s.alerts.one.follows s ∧ s.alerts.two.follows s
    ∧ (s.loader.phase ≠ .ended → s.alerts.one.mode = none ∧ s.alerts.two.mode = none)

/-! ### The counters (R58, R151, R167) -/

/-- Every station counter is within 0 to 65,535 (R15, R16, R58, R74, R151, R167). -/
def State.countersHold (s : State) : Prop :=
  ∀ n ∈ [s.time.skipped, s.time.stale, s.book.late, s.requests.queries, s.requests.accepted, s.requests.refused,
      s.requests.unknown, s.link.a.errors, s.link.b.errors, s.link.formatErrors, s.link.overflow, s.link.unsent,
      s.meter.overruns, s.meter.failedPolls, s.meter.discontinuities], n ≤ Config.counterLimit

end Sys2Proof.Machine
end

