-- ==== Sys2Proof/Certificates/Slice0/Obligations.lean ====
section
/-! DEFINITION. The statements about the station, for the provers: the queue of commands, start-up, time, measurement, the
meter port, the link, the records, the requests, the divisions, and the invariants that every command keeps. -/

open Sys2Proof Sys2Proof.Machine

/-! ### The queue of commands, and reset -/

/-- A step takes the command at the front of the queue and runs it with the queue's rest; with no command waiting the station
idles. The queue is the model's (log entry 3). -/
def Obligations.StepTakesTheFrontCommand : Prop :=
  ∀ (s : State) (c : Instr) (rest : List Instr),
    step { s with pending := c :: rest } = exec c { s with pending := rest }
      ∧ step { s with pending := [] } = .next { s with pending := [] }

/-- Every command answers a next state and leaves the commands that wait as they are: none faults, none is refused (the model's
reading of events that cannot occur: log entry 2). -/
def Obligations.EveryCommandCompletes : Prop :=
  ∀ (c : Instr) (s : State), ∃ t, exec c s = .next t ∧ t.pending = s.pending

/-- HARDWARE_RESET loses all runtime state: whatever the station was, every block is in the reset state of its chapter's table
(R168, R2, R28, R35, R41, R47, R58, R61, R146, R151, R167, R181). The model's choices: the commands that wait stay (log entry 3),
and what no table gives takes the values of State.reset (log entry 4). -/
def Obligations.HardwareResetResetsEveryBlock : Prop :=
  ∀ s : State, ∃ t, exec .hardwareReset s = .next t ∧ t = { State.reset with pending := s.pending }
    ∧ (t.time.accounting = .loading ∧ t.time.source = .internal ∧ t.time.seconds = 0 ∧ t.time.lossWatch = false
        ∧ t.time.skipped = 0 ∧ t.time.stale = 0 ∧ t.time.starting = true ∧ t.time.timebase = false ∧ t.time.gap = false)
    ∧ (∀ i : Fin 8, t.bank.channels[i] = { held := 0, counted := 0, credited := 0 }
        ∧ t.inputs[i].lastRise = none ∧ t.inputs[i].lastFall = none
        ∧ t.meter.entries[i] = { state := .noReference, miss := 0, rounds := 1, reference := none, alarm := false })
    ∧ (t.bank.pull = 0 ∧ t.bank.reject = 0 ∧ t.bank.cuts = 0 ∧ t.bank.runSeconds = 0 ∧ t.bank.carry = 0)
    ∧ (t.meter.poll = none ∧ t.meter.overruns = 0 ∧ t.meter.failedPolls = 0 ∧ t.meter.discontinuities = 0
        ∧ t.meter.alarmSeen = false ∧ t.meter.transmitting = false)
    ∧ (t.book.entries = [] ∧ t.book.zeroPending = false ∧ t.book.late = 0 ∧ t.contributors = [] ∧ t.subscriptions = [])
    ∧ (t.link.queue = [] ∧ t.link.recent = [] ∧ t.link.service = false ∧ t.link.formatErrors = 0 ∧ t.link.overflow = 0
        ∧ t.link.unsent = 0)
    ∧ (∀ ch, (t.link.chan ch).echoFaults = 0 ∧ (t.link.chan ch).probe = false ∧ (t.link.chan ch).counted = none
        ∧ (t.link.chan ch).inFlight = none ∧ (t.link.chan ch).errors = 0 ∧ (t.link.chan ch).receiving = false)
    ∧ (t.requests.queries = 0 ∧ t.requests.accepted = 0 ∧ t.requests.refused = 0 ∧ t.requests.unknown = 0
        ∧ t.requests.lastRefusal = none)
    ∧ t.alerts.one.active = false ∧ t.alerts.two.active = false ∧ t.alerts.estimatedStrike = false
    ∧ t.loader.clamped = false ∧ t.phaseCode = (true, false)

/-! ### Start-up -/

/-- RESET_RELEASE, while RESET is held: the straps and the levels are sampled, both channels start from their reset state,
INHIBITED where the inhibit input is active, and the first read attempt begins; nothing else changes. An attempt selects the
memory and sends the read instruction 3 and the address 0, each bit set while SCK is low and sampled as it rises, the most
significant first. RETRY_WAIT_END begins the next attempt likewise (R28, R138, R168, R169, R171, R172). That either event changes
nothing in another phase is the model's reading (log entry 2), and that SDO is HIGH for a 1 is presumed (log entry 40). -/
def Obligations.ResetReleaseAndRetryBeginAReadAttempt : Prop :=
  (∀ (straps : Straps) (levels : Vector Level 8) (inhibitA inhibitB : Bool) (s : State),
    let channel := fun inhibit : Bool =>
      ({ LinkChannel.atReset with state := if inhibit then .inhibited else .active } : LinkChannel)
    (s.loader.phase = .held →
      exec (.resetRelease straps levels inhibitA inhibitB) s = .next
        { s with loader := { s.loader with phase := .reading, attempt := 1, sent := [3, 0, 0], straps := straps },
                 inputs := Vector.ofFn fun i => { level := levels[i], lastRise := none, lastFall := none },
                 link := { s.link with a := channel inhibitA, b := channel inhibitB } })
    ∧ (s.loader.phase ≠ .held → exec (.resetRelease straps levels inhibitA inhibitB) s = .next s))
  ∧ (∀ s : State,
      (s.loader.phase = .retryWait → exec .retryWaitEnd s = .next
        { s with loader := { s.loader with phase := .reading, attempt := s.loader.attempt + 1, sent := [3, 0, 0] } })
      ∧ (s.loader.phase ≠ .retryWait → exec .retryWaitEnd s = .next s))
  ∧ ∀ l : Loader, l.sent = [3, 0, 0] →
      l.serialWave = ([false, false, false, false, false, false, true, true] ++ List.replicate 16 false).flatMap
        fun bit => [(Level.low, if bit then Level.high else Level.low), (Level.high, if bit then Level.high else Level.low)]

/-- A read attempt succeeds exactly when the format tag is 166, 49, the image length 154, all 154 bytes come and the check word
matches; the role is by the code at offset 6, 1 LINE, 2 FURNACE, 3 POOL. One that fails: 100 ms of waiting before the fourth,
UNCONFIGURED at the fourth; an image whose role code names no role makes the station UNCONFIGURED at once. An UNCONFIGURED station
takes the strap number, when the straps that are high, STP included, are odd in number and it lies in 1 to 30; else its number is
invalid and it is listen-only. It keeps CLAMPED as it is, has no configuration, does not keep the number of attempts, and holds
ALERT-1 active and ALERT-2 released (R144, R169 to R173, R180, R183, R191; a memory that gives fewer bytes: log entry 9). -/
def Obligations.FailedLoadsEndUnconfigured : Prop :=
  ∀ (memory : List Byte) (now : Nat) (s : State), s.loader.phase = .reading →
    let byteAt := fun i : Nat => (memory.getD i 0).toNat
    let word := fun i : Nat => byteAt i * 256 + byteAt (i + 1)
    (imageReads memory = true ↔ byteAt 0 = 166 ∧ byteAt 1 = 49 ∧ word 2 = 154 ∧ 154 ≤ memory.length
      ∧ word 152 = (crc (memory.take 152)).toNat)
    ∧ imageRole memory = (if byteAt 6 = 1 then some .line else if byteAt 6 = 2 then some .furnace
      else if byteAt 6 = 3 then some .pool else none)
    ∧ (imageReads memory = false → s.loader.attempt < 4 →
      exec (.imageReadAttempt memory now) s = .next
        { s with loader := { s.loader with phase := .retryWait, image := [], sent := [] } })
    ∧ ((imageReads memory = false ∧ 4 ≤ s.loader.attempt) ∨ (imageReads memory = true ∧ imageRole memory = none) →
      let straps := s.loader.straps
      let high := [straps.st0, straps.st1, straps.st2, straps.st3, straps.st4]
      let number := bitsNumber high
      ∃ t, exec (.imageReadAttempt memory now) s = .next t
        ∧ t = { s with loader := t.loader, time := { s.time with accounting := .unconfigured }, alerts := t.alerts }
        ∧ t.loader = { s.loader with phase := .ended, attempt := 0, sent := [], image := [],
                                     own := if (straps.stp :: high).count true % 2 = 1 ∧ 1 ≤ number ∧ number ≤ 30
                                       then some number else none,
                                     source := .straps }
        ∧ (t.loader.own = none → t.listenOnly = true) ∧ (s.settings = none → t.settings = none)
        ∧ t.alerts.one.active = true ∧ t.alerts.two.active = false ∧ t.phaseCode = (true, false))

/-- A read attempt that succeeds, from an empty book, makes the state STARTING with the configuration as clamped and every block
settled: the base source (INTERNAL when so configured; else EXTERNAL when the SECOND line's counted edge came within the last 3 s,
FALLBACK with TIMEBASE set when not, or without such a line; that an edge exactly 3,000 ms before counts as within is the model's
choice, log entry 19), the open lead-in with cause "start", the contributor or subscription table with no last value, LINE totals
of 0, the job, the bit rate, a FAILED channel's probe, and each alert line with its configured mode and group, a group already
true being a rise. The own number is the image's number in 1 to 30, with IMAGE as the source, else the strap number in 1 to 30
with odd parity; any other is invalid and makes the station listen-only. Everything else is as it was (R4, R20, R39, R66, R82,
R106, R137, R144, R170, R179, R181, R182); that the image is kept is the model's choice (log entry 25), and so is what the role
part of an OPEN entry holds (log entry 32). -/
def Obligations.SuccessfulLoadOpensTheLeadIn : Prop :=
  ∀ (memory : List Byte) (now : Nat) (s : State) (role : Role),
    s.loader.phase = .reading → imageReads memory = true → imageRole memory = some role → s.book.entries = [] →
    s.book.zeroPending = false →
    let image := memory.take 154
    let byteAt := fun i : Nat => (image.getD i 0).toNat
    let straps := s.loader.straps
    let high := [straps.st0, straps.st1, straps.st2, straps.st3, straps.st4]
    let number := if byteAt 4 = 1 then byteAt 5 else bitsNumber high
    let own : Option Nat :=
      if (byteAt 4 = 1 ∨ (straps.stp :: high).count true % 2 = 1) ∧ 1 ≤ number ∧ number ≤ 30 then some number else none
    let c := settingsOf image role own
    let stations := fun r : Bool => if r then c.table.map fun n => ({ station := n, last := none } : Peer) else []
    let second := fun i : Fin 8 => match c.lines[i].polarity with
      | .risingHigh => s.inputs[i].lastRise
      | .fallingLow => s.inputs[i].lastFall
    let probed := fun k : LinkChannel => { k with probe := k.probe || k.state == .failed }
    let part : RolePart := match role with
      | .line => .line { pull := 0, reject := 0, good := 0, runSeconds := 0, cuts := 0, shares := [], result := none }
      | _ => .apportioning { e := 0, basis := c.basis, items := [], b := 0, revision := 0, residue := none, sec := none }
    ∃ t, exec (.imageReadAttempt memory now) s = .next t
      ∧ t = { s with loader := t.loader, settings := some c, time := t.time, bank := { s.bank with job := c.job },
                     book := t.book, contributors := stations (role != .line), subscriptions := stations (role == .line),
                     link := { s.link with rate := some c.rate, a := probed s.link.a, b := probed s.link.b },
                     alerts := t.alerts }
      ∧ t.loader = { s.loader with phase := .ended, attempt := 0, sent := [], image := image, own := own, source := c.source,
                                   clamped := imageClamped image role own }
      ∧ (own = none → t.listenOnly = true)
      ∧ t.time = { s.time with accounting := .starting, seconds := 0, source := t.time.source,
                               lossWatch := t.time.source == .external, timebase := t.time.source == .fallback }
      ∧ (c.external = false → t.time.source = .internal)
      ∧ (∀ i τ, c.external = true → c.lines[i].role = .second → second i = some τ → now ≤ τ + 3000 →
          t.time.source = .external)
      ∧ (c.external = true → (∀ i τ, c.lines[i].role = .second → second i = some τ → τ + 3000 < now) →
          t.time.source = .fallback)
      ∧ t.book = { s.book with
          entries := [{ number := none, kind := .leadIn, state := .opened, cause := .start, duration := 0,
                        flags := { meterFault := t.faultActive || t.meterFailed, catchUp := false, discontinuity := false,
                                   estimated := false, revised := false, excluded := false, noBasis := false,
                                   jobChange := false, saturated := false, timebase := t.time.timebase, preZero := false },
                        carriers := [], revisions := 0, timer := none, part := part }],
          line := { energy := ⟨0, 0, 0, 0, 0⟩, shares := if role = .line then c.table.map fun n => (n, 0) else [], eLine := 0,
                    pull := 0, reject := 0, good := 0, runSeconds := 0, struck := 0, estimated := 0, skipped := 0 } }
      ∧ t.alerts = { s.alerts with
          one := { mode := some c.alert1.mode, group := c.alert1.group, lastOr := t.groupOr c.alert1.group,
                   pulse := c.alert1.mode == .pulse && t.groupOr c.alert1.group },
          two := { mode := some c.alert2.mode, group := c.alert2.group, lastOr := t.groupOr c.alert2.group,
                   pulse := c.alert2.mode == .pulse && t.groupOr c.alert2.group } }
      ∧ t.phaseCode = (true, true)

/-- T1 and T2 are clamped once the period length is settled: T1 into 2 to 120, then T2 into T1 + 2 to the smaller of 240 and L -
1; where that upper end lies below T1 + 2, T2 becomes the upper end and T1 becomes T2 - 2. Each change sets CLAMPED. The waits so
taken lie in the ranges of R70, and only T2 times a LINE's wait and only T1 an apportioning station's (R175). -/
def Obligations.SettlingWaitsAreClampedIntoRange : Prop :=
  ∀ (img : List Byte) (role : Role) (own : Option Nat),
    let c := settingsOf img role own
    let first := max 2 (min 120 (imageByte img 10))
    let upper := min 240 (c.periodLength - 1)
    (first + 2 ≤ upper → c.t1 = first
        ∧ c.t2 = if imageByte img 11 < first + 2 then first + 2 else if upper < imageByte img 11 then upper else imageByte img 11)
    ∧ (upper < first + 2 → c.t2 = upper ∧ c.t1 = c.t2 - 2 ∧ 57 ≤ c.t1)
    ∧ (60 ≤ c.periodLength ∧ 59 ≤ upper)
    ∧ (2 ≤ c.t1 ∧ c.t1 ≤ 120 ∧ c.t1 + 2 ≤ c.t2 ∧ c.t2 ≤ 240 ∧ c.t2 < c.periodLength)
    ∧ (c.t1 ≠ imageByte img 10 ∨ c.t2 ≠ imageByte img 11 → imageClamped img role own = true)
    ∧ (role = .line → c.wait = c.t2) ∧ (role ≠ .line → c.wait = c.t1)

/-- The image fields as taken (R29, R30, R46, R82, R106, R174, R176, R177, R178, R191, R192). The station table: the places 1 to
30 other than the own number, each at its first occurrence in image order; a LINE keeps the first 4. Each code by its table, a
code outside it by the clamp's value. CUT, REJECT and RUNNING only in a LINE, SECOND on the lowest line that carries it, ENERGY
only when a configured channel names the line. A channel with a source line of role ENERGY or a meter entry that no lower channel
names. A meter entry of address 1 to 127 whose address and select, read from the low four bits of its byte, no lower entry has,
fed to the channel that names it. Every clamp sets CLAMPED, and an image whose fields are all in range leaves it clear. That a
place of 32 to 255 is dropped is the model's choice (log entry 11), and so is that the bits 3, 6 and 7 of an input line's byte are
not read (log entry 34); that a set upper bit of a counter select, and a field of a channel or meter entry that is not configured,
sets no CLAMPED is read from the spec by inference (log entry 10). -/
def Obligations.ImageFieldsAreTakenAndClamped : Prop :=
  ∀ (img : List Byte) (role : Role) (own : Option Nat),
    let c := settingsOf img role own
    let byteAt := fun i : Nat => (img.getD i 0).toNat
    let word := fun i : Nat => ((img.drop i).take 2).foldl (fun v b => v * 256 + b.toNat) 0
    let clamped := imageClamped img role own = true
    let places := (List.range 16).map fun i => byteAt (133 + i)
    let kept := (takeTable img .pool own).1
    let code := fun i : Fin 8 => byteAt (27 + i.val) % 8
    let source := fun i : Fin 8 => byteAt (100 + 4 * i.val)
    let sourced := fun i : Fin 8 => 9 ≤ source i ∧ source i ≤ 16
      ∨ ∃ l : Fin 8, source i = l.val + 1 ∧ code l = 1
    let address := fun m : Fin 8 => byteAt (36 + 8 * m.val)
    let select := fun m : Fin 8 => byteAt (37 + 8 * m.val) % 16
    -- the station table
    (kept.Pairwise (fun x y => places.idxOf x < places.idxOf y)
      ∧ (∀ n, n ∈ kept ↔ n ∈ places ∧ 1 ≤ n ∧ n ≤ 30 ∧ some n ≠ own)
      ∧ c.table = (if role = .line then kept.take 4 else kept) ∧ kept.length ≤ 16
      ∧ (c.table ≠ places.filter (fun n => n != 0) → clamped))
    -- the station-wide codes, the basis kind and the job
    ∧ (c.source = (if byteAt 4 = 1 then .image else .straps) ∧ c.rate = [BitRate.r62, .r125, .r250].getD (byteAt 7) .r125
      ∧ c.periodLength = [60, 300, 600, 900, 1800, 3600].getD (byteAt 8) 900 ∧ c.interval = [1, 2, 5, 10].getD (byteAt 9) 10
      ∧ c.external = decide (byteAt 12 = 1) ∧ c.baud = [MeterBaud.b9600, .b19200, .b38400].getD (byteAt 35) .b9600
      ∧ c.alert1 = { mode := if byteAt 21 = 1 then .pulse else .level, group := img.getD 23 0 }
      ∧ c.alert2 = { mode := if byteAt 24 = 1 then .pulse else .level, group := img.getD 26 0 }
      ∧ c.authorization = word 13 ∧ c.tag = (img.drop 15).take 6
      ∧ (1 < byteAt 4 ∨ 2 < byteAt 7 ∨ 5 < byteAt 8 ∨ 3 < byteAt 9 ∨ 1 < byteAt 12 ∨ 1 < byteAt 21 ∨ byteAt 22 ≠ 0 ∨ 1 < byteAt 24 ∨ byteAt 25 ≠ 0
          ∨ 2 < byteAt 35 → clamped))
    ∧ ((role = .line → c.job = { gob := max 1 (word 149), perCut := max 1 (min 4 (byteAt 151)) }
        ∧ (word 149 = 0 ∨ byteAt 151 = 0 ∨ 4 < byteAt 151 → clamped))
      ∧ (role = .furnace → c.basis = .mass ∧ (byteAt 132 ≠ 1 → clamped))
      ∧ (role = .pool → c.basis = (if byteAt 132 = 2 then .good else if byteAt 132 = 3 then .runtime else .mass)
        ∧ (byteAt 132 = 0 ∨ 3 < byteAt 132 → clamped)))
    -- the input lines
    ∧ (∀ i : Fin 8,
        (c.lines[i].role = .cut ↔ code i = 2 ∧ role = .line) ∧ (c.lines[i].role = .reject ↔ code i = 3 ∧ role = .line)
        ∧ (c.lines[i].role = .running ↔ code i = 4 ∧ role = .line) ∧ (c.lines[i].role = .fault ↔ code i = 5)
        ∧ (c.lines[i].role = .second ↔ code i = 6 ∧ ∀ j : Fin 8, j < i → code j ≠ 6)
        ∧ (c.lines[i].role = .energy ↔ code i = 1 ∧ ∃ j : Fin 8, c.channels[j].map ChannelSetup.source = some (.line i))
        ∧ (c.lines[i].polarity = if byteAt (27 + i.val) / 16 % 2 = 0 then .risingHigh else .fallingLow)
        ∧ (c.lines[i].debounce = if byteAt (27 + i.val) / 32 % 2 = 0 then .ms1 else .ms4)
        ∧ (c.lines[i].role = .unused → code i ≠ 0 → clamped))
    -- the channels
    ∧ (∀ i : Fin 8,
        (c.channels[i].isSome = true ↔ sourced i ∧ ∀ j : Fin 8, j < i → source j ≠ source i)
        ∧ (c.channels[i] = none → source i ≠ 0 → clamped)
        ∧ ∀ setup, c.channels[i] = some setup →
          setup.carrier = [Carrier.gas, .gas, .electric, .oxygen, .air, .other].getD (byteAt (101 + 4 * i.val)) .other
          ∧ (byteAt (101 + 4 * i.val) = 0 ∨ 5 < byteAt (101 + 4 * i.val) → clamped)
          ∧ (∀ l, setup.source = .line l ↔ source i = l.val + 1) ∧ (∀ m, setup.source = .meter m ↔ source i = m.val + 9)
          ∧ (source i ≤ 8 → setup.pulse = max 1 (word (102 + 4 * i.val)) ∧ (word (102 + 4 * i.val) = 0 → clamped)))
    -- the meter table
    ∧ (∀ m : Fin 8,
        (c.meters[m].isSome = true ↔ 1 ≤ address m ∧ address m ≤ 127
          ∧ ∀ k : Fin 8, k < m → ¬(address k = address m ∧ select k = select m))
        ∧ (c.meters[m] = none → address m ≠ 0 → clamped)
        ∧ ∀ setup, c.meters[m] = some setup →
          setup.address.toNat = address m ∧ setup.select.toNat = select m
          ∧ setup.modulus = [10 ^ 4, 10 ^ 5, 10 ^ 6, 10 ^ 7, 10 ^ 8, 10 ^ 9, 2 ^ 32].getD (byteAt (38 + 8 * m.val)) (2 ^ 32)
          ∧ setup.scale = max 1 (word (39 + 8 * m.val)) ∧ setup.limit = max 1 (word (41 + 8 * m.val))
          ∧ (∀ i, setup.feeds = some i ↔ c.channels[i].map ChannelSetup.source = some (.meter m))
          ∧ (6 < byteAt (38 + 8 * m.val) ∨ word (39 + 8 * m.val) = 0 ∨ word (41 + 8 * m.val) = 0
              ∨ byteAt (43 + 8 * m.val) ≠ (match setup.feeds with | none => 0 | some i => i.val + 1) → clamped))
    -- an image whose fields are all in range
    ∧ (byteAt 4 ≤ 1 → byteAt 7 ≤ 2 → byteAt 8 ≤ 5 → byteAt 9 ≤ 3 → byteAt 12 ≤ 1 → byteAt 21 ≤ 1 → byteAt 22 = 0 → byteAt 24 ≤ 1 →
      byteAt 25 = 0 → byteAt 35 ≤ 2 → c.t1 = byteAt 10 → c.t2 = byteAt 11 → c.table = places.filter (fun n => n != 0) →
      (role = .line → 1 ≤ word 149 ∧ 1 ≤ byteAt 151 ∧ byteAt 151 ≤ 4) → (role = .furnace → byteAt 132 = 1) →
      (role = .pool → 1 ≤ byteAt 132 ∧ byteAt 132 ≤ 3) →
      (∀ i : Fin 8, (c.lines[i].role = .unused → code i = 0) ∧ (c.channels[i] = none → source i = 0)
        ∧ ∀ setup, c.channels[i] = some setup →
          1 ≤ byteAt (101 + 4 * i.val) ∧ byteAt (101 + 4 * i.val) ≤ 5 ∧ (source i ≤ 8 → 1 ≤ word (102 + 4 * i.val))) →
      (∀ m : Fin 8, (c.meters[m] = none → address m = 0)
        ∧ ∀ setup, c.meters[m] = some setup →
          byteAt (38 + 8 * m.val) ≤ 6 ∧ 1 ≤ word (39 + 8 * m.val) ∧ 1 ≤ word (41 + 8 * m.val)
            ∧ byteAt (43 + 8 * m.val) = (match setup.feeds with | none => 0 | some i => i.val + 1)) →
      imageClamped img role own = false)

/-! ### Time -/

/-- What a second does: INTERNAL_SECOND is a base tick in INTERNAL and FALLBACK and nothing in EXTERNAL; SECOND_PULSE moves the
line's level, is nothing more in INTERNAL, and else makes the state EXTERNAL with the loss watch running and is a base tick (R5,
R6, R7, R26). LOSS_WATCH_EXPIRY in EXTERNAL: FALLBACK, TIMEBASE set, the open entry gets the TIMEBASE flag and every other entry
stays (R5). The model's choices: what an earlier tick made due comes before the state becomes EXTERNAL (log entry 5), and an
expiry of the loss watch outside EXTERNAL, an internal second in EXTERNAL and a pulse that cannot occur change nothing (log entry
2). -/
def Obligations.SecondsAndTheirLossDriveTheTimeBase : Prop :=
  (∀ s : State, exec .internalSecond s = .next (if s.time.source = .external then s else s.baseTick)
      ∧ ∀ line : Fin 8,
        let moved := s.setLevel line (s.countedEdge line)
        (s.pulsePossible line .second = false → exec (.secondPulse line) s = .next s)
        ∧ (s.pulsePossible line .second = true → s.time.source = .internal → exec (.secondPulse line) s = .next moved)
        ∧ (s.pulsePossible line .second = true → s.time.source ≠ .internal →
            let u := moved.overdue
            exec (.secondPulse line) s = .next
              (State.countTick { u with time := { u.time with source := .external, lossWatch := true } }))
        ∧ (s.pulsePossible line .second = true → s.time.source ≠ .internal → s.nothingDue →
            exec (.secondPulse line) s = .next
              (State.baseTick { moved with time := { s.time with source := .external, lossWatch := true } })))
  ∧ ∀ s : State,
        (¬(s.time.lossWatch = true ∧ s.time.source = .external) → exec .lossWatchExpiry s = .next s)
        ∧ (s.time.lossWatch = true → s.time.source = .external →
          ∃ t, exec .lossWatchExpiry s = .next t ∧ t = { s with time := t.time, book := t.book, alerts := t.alerts }
            ∧ t.time = { s.time with source := .fallback, lossWatch := false, timebase := true }
            ∧ t.book = { s.book with entries := flagOpenedIf True (fun flags => { flags with timebase := true }) s.book.entries })

/-- A base tick with nothing overdue: the seconds counter grows by 1, a sample tick is due exactly when the count is a multiple of
the sample interval, a LINE's run seconds grow when a RUNNING line is active or none exists, and every SETTLING entry's timer
grows by 1. Outside STARTING and ACCOUNTING no base tick occurs (R2, R8, R9, R38, R70). With something overdue, which an earlier
tick made due and no command carried out, the tick is the one that follows the commands that carry it out: the strikes of waits
that ran out, the oldest first, then the expiry or the end of the solo wait, then the sample tick (the model's order, log entry
5). A wait runs out at T2 in a LINE and T1 elsewhere, the expiry is due at the period length in ACCOUNTING and the end of the solo
wait at twice that in STARTING (R10, R22, R70). -/
def Obligations.BaseTickCountsOneSecond : Prop :=
  ∀ s : State, (s.time.accounting ≠ .starting → s.time.accounting ≠ .accounting → s.baseTick = s)
    ∧ ∀ c, s.settings = some c → s.time.accounting = .starting ∨ s.time.accounting = .accounting →
      let running := fun i : Fin 8 => c.lines[i].role = .running
      let active := fun i : Fin 8 => s.inputs[i].level = (if c.lines[i].polarity = .risingHigh then Level.high else .low)
      let wait := if c.role = .line then c.t2 else c.t1
      (s.nothingDue → s.baseTick =
        { s with
            time := { s.time with seconds := s.time.seconds + 1, sampleDue := decide (c.interval ∣ s.time.seconds + 1) }
            bank := { s.bank with
              runSeconds := if c.role = .line ∧ ((∀ i, ¬running i) ∨ ∃ i, running i ∧ active i)
                then s.bank.runSeconds + 1 else s.bank.runSeconds }
            book := { s.book with entries := tickedEntries s.book.entries } })
      ∧ s.waitsOver = s.book.entries.filter (fun e => e.state = .settling ∧ wait ≤ e.timer.getD 0)
      ∧ (s.expiryDue = true ↔ s.time.accounting = .accounting ∧ c.periodLength ≤ s.time.seconds)
      ∧ (s.soloDue = true ↔ s.time.accounting = .starting ∧ 2 * c.periodLength ≤ s.time.seconds)
      ∧ (s.book.formed → 1 ≤ wait → 1 ≤ c.periodLength →
        (∀ e rest n, s.waitsOver = e :: rest → e.number = some n →
          ∃ t, exec (.waitTimerExpiry n) s = .next t ∧ t.waitsOver = rest ∧ s.baseTick = t.baseTick)
        ∧ (s.waitsOver = [] → s.expiryDue = true →
          ∃ t, exec .periodExpiry s = .next t ∧ s.baseTick = t.baseTick)
        ∧ (s.waitsOver = [] → s.soloDue = true →
          ∃ t, exec .soloWaitEnd s = .next t ∧ s.baseTick = t.baseTick)
        ∧ (s.waitsOver = [] → s.expiryDue = false → s.soloDue = false → s.time.sampleDue = true →
          ∃ t, exec .sampleTick s = .next t ∧ s.baseTick = t.baseTick))

/-- PERIOD_EXPIRY makes the boundary from P to P+1 and hands over MARK(P+1); SOLO_WAIT_END makes the boundary into period 1 and
hands over MARK(1) (R10, R20, R22). That neither changes anything before its count is reached is the model's reading of an event
that cannot occur (log entry 2). -/
def Obligations.ExpiryAndSoloWaitMakeTheirBoundary : Prop :=
  ∀ (s : State) (c : Settings), s.settings = some c →
    (∀ p, s.time.accounting = .accounting → s.openNumber = some p → c.periodLength ≤ s.time.seconds →
      exec .periodExpiry s = .next ((s.boundary none (p + 1) .ownExpiry).handOver
        { kind := .mark, revision := 0, destination := 31, period := p + 1, tag := 0, payload := [], estimated := false }))
    ∧ (s.time.accounting = .starting → 2 * c.periodLength ≤ s.time.seconds →
      exec .soloWaitEnd s = .next ((s.boundary none 1 .soloStart).handOver
        { kind := .mark, revision := 0, destination := 31, period := 1, tag := 0, payload := [], estimated := false }))
    ∧ (s.time.accounting ≠ .accounting ∨ s.time.seconds < c.periodLength → exec .periodExpiry s = .next s)
    ∧ (s.time.accounting ≠ .starting ∨ s.time.seconds < 2 * c.periodLength → exec .soloWaitEnd s = .next s)

/-- A boundary of a well-formed book closes the open entry and opens number n. The closed entry keeps its number and cause, has
the count as its duration, its kind, the bank's masses with the good mass of R40, and a total for each carrier of a configured
channel, in the order of the codes: the whole Wh of its channels, held at 4,294,967,295 with SATURATED; a numbered entry of a
station with a table waits SETTLING with timer 0 and ABSENT shares, every other strikes at once. The oldest of 12 entries and a
held entry n leave, first struck when not STRUCK. The bank keeps each configured channel's sixteenths under 1 Wh and credits the
rest; a LINE's masses are 0 and its carry is worked out. A LINE hands over the TALLY of a numbered entry. Alarm-seen and the
estimated-strike state clear before any strike; TIMEBASE clears in EXTERNAL. The new entry is the newest, OPEN and REGULAR, with
its cause and the flags of R66; the count is 0, the state ACCOUNTING, FAILED channels await a probe, and the own MARK is withdrawn
but at own expiry. A jump adds the periods passed over and sets GAP; a pending zero boundary overrides both; the phase code tells
whether an entry is SETTLING (R11, R33, R34, R40, R66, R68, R69, R81, R108, R137, R143, R184). R6, R15, R57, R67 and R185 stand
behind it too, beyond the twelve rules that a statement may cite. The model's readings: the falls of alarm-seen and the
estimated-strike state come before the tally and any strike (log entry 13), the probe marks are set after the records of the
strikes that the boundary forces (log entry 15), the carry is R40's operation (log entry 31), what the role part of an OPEN entry
holds (log entry 32), and that the tally of an entry which strikes at once goes out before that strike (log entry 36). -/
def Obligations.BoundaryClosesAndOpens : Prop :=
  ∀ (s : State) (c : Settings) (e : Entry) (passed : Option Nat) (n : Period) (cause : Cause),
    s.settings = some c → s.book.formed → s.openEntry = some e → e.number ≠ some n →
    s.time.accounting = .starting ∨ s.time.accounting = .accounting →
    let t := s.boundary passed n cause
    let line := c.role = .line
    let good := s.bank.pull - (s.bank.reject + s.bank.carry)
    let absent := fun k : Nat => ({ station := k, state := .absent, share := 0, allotment := none } : ShareItem)
    let tally := fun (closed : Entry) (p : LinePart) =>
      ({ kind := .tally, revision := 0, destination := 31, period := e.number.getD 0, tag := 0, payload := tallyPayload closed p,
         estimated := false } : Record)
    let strikeIf := fun (u : State) (o : Option Entry) => match o with
      | some x => if x.state = .struck then u else u.strike x
      | none => u
    let stays := s.book.entries.drop (s.book.entries.length - 11)
    let probed := fun k : LinkChannel => { k with probe := k.probe || k.state == .failed }
    let fed := fun (k : Carrier) (i : Fin 8) => c.channels[i].map ChannelSetup.carrier = some k
    let wh := fun k : Carrier =>
      (((List.finRange 8).filter fun i => fed k i).map fun i => s.bank.channels[i].held / 16).sum
    let carriers := [Carrier.gas, .electric, .oxygen, .air, .other].filter fun k => ∃ i, fed k i
    let energy := (carriers.map fun k => min 4294967295 (wh k)).sum
    let preZero := fun x : Entry => if s.book.zeroPending then { x with flags := { x.flags with preZero := true } } else x
    ∃ (closed new : Entry) (fixed told struck : State) (older : List Entry),
      -- the closing entry as its figures are fixed, and the new entry
      closed = { e with kind := if e.number = none then .leadIn else if passed = none then .regular else .irregular,
                        state := .settling, duration := s.time.seconds,
                        carriers := carriers.map fun k => (k, min 4294967295 (wh k)),
                        timer := some 0, part := closed.part,
                        flags := { e.flags with saturated := closed.flags.saturated } }
      ∧ (closed.flags.saturated = true ↔ e.flags.saturated = true ∨ (∃ k ∈ carriers, 4294967295 < wh k)
          ∨ (¬line ∧ 4294967295 < energy))
      ∧ (line → closed.part = .line
          { pull := s.bank.pull, reject := s.bank.reject, good := good, runSeconds := s.bank.runSeconds, cuts := s.bank.cuts,
            shares := if e.number = none then [] else c.table.map absent, result := none })
      ∧ (¬line → closed.part = .apportioning
          { e := min 4294967295 energy, basis := c.basis, items := [], b := 0, revision := 0,
            residue := none, sec := none })
      ∧ new = { number := some n, kind := .regular, state := .opened, cause := cause, duration := 0,
                flags := { meterFault := s.faultActive || s.meterFailed, catchUp := false, discontinuity := false,
                           estimated := false, revised := false, excluded := false, noBasis := false,
                           jobChange := false, saturated := false, timebase := s.time.source == .fallback, preZero := false },
                carriers := [], revisions := 0, timer := none, part := new.part }
      ∧ (line → new.part = .line
          { pull := 0, reject := 0, good := 0, runSeconds := 0, cuts := 0, shares := [], result := none })
      ∧ (¬line → new.part = .apportioning
          { e := 0, basis := c.basis, items := [], b := 0, revision := 0, residue := none, sec := none })
      -- the figures are fixed, the TALLY is handed over, and the strikes that the boundary forces are made
      ∧ fixed = { s with book := { s.book with entries := replaceEntry closed s.book.entries }, bank := fixed.bank,
                         meter := { s.meter with alarmSeen := false }, alerts := fixed.alerts }
      ∧ fixed.alerts.estimatedStrike = false
      ∧ (∀ p, closed.part = .line p → e.number ≠ none → told = fixed.handOver (tally closed p))
      ∧ (¬line ∨ e.number = none → told = fixed)
      ∧ (let atClose := if e.number = none ∨ c.table = [] then told.strike closed else told
         let evicted := if s.book.entries.length < 12 then atClose else strikeIf atClose s.book.entries.head?
         struck = strikeIf evicted (stays.find? fun x => x.number == some n))
      -- the bank
      ∧ (∀ i : Fin 8, fixed.bank.channels[i] = if c.channels[i].isSome
          then { held := s.bank.channels[i].held % 16, counted := s.bank.channels[i].counted,
                 credited := s.bank.channels[i].credited + BitVec.ofNat 60 (s.bank.channels[i].held / 16) }
          else s.bank.channels[i])
      ∧ (line → fixed.bank = { s.bank with channels := fixed.bank.channels, pull := 0, reject := 0, cuts := 0, runSeconds := 0,
                                           carry := fixed.bank.carry })
      ∧ (line → s.bank.reject + s.bank.carry - s.bank.pull < 2 ^ 64 →
          fixed.bank.carry = s.bank.reject + s.bank.carry - s.bank.pull)
      ∧ (¬line → fixed.bank = { s.bank with channels := fixed.bank.channels })
      -- the station after the boundary
      ∧ t = { s with time := t.time, bank := { fixed.bank with carry := if s.book.zeroPending then 0 else fixed.bank.carry },
                     meter := { s.meter with alarmSeen := false }, book := t.book, contributors := struck.contributors,
                     subscriptions := struck.subscriptions, link := t.link, alerts := t.alerts }
      ∧ t.book.entries = older ++ [new]
      ∧ older = ((struck.book.entries.drop (s.book.entries.length - 11)).filter fun x => x.number != some n).map preZero
      ∧ (∃ x ∈ older, x.number = e.number ∧ x.cause = e.cause ∧ x.duration = s.time.seconds ∧ x.kind = closed.kind
          ∧ x.carriers = closed.carriers
          ∧ x.state = if e.number = none ∨ c.table = [] then .struck else .settling)
      ∧ t.book = { struck.book with
          entries := t.book.entries, zeroPending := false,
          allot := if s.book.zeroPending then AllotTotals.zero else struck.book.allot,
          line := if s.book.zeroPending then LineTotals.zero (s.subscriptions.map Peer.station)
            else { struck.book.line with
              skipped := struck.book.line.skipped + if line then BitVec.ofNat 48 (passed.getD 0) else (0 : Total) } }
      ∧ t.time = { s.time with
          seconds := 0, accounting := .accounting, starting := struck.time.starting,
          timebase := s.time.timebase && s.time.source != .external,
          gap := !s.book.zeroPending && (s.time.gap || passed.isSome),
          skipped := if s.book.zeroPending then 0 else match passed with
            | none => s.time.skipped
            | some k => min 65535 (s.time.skipped + k) }
      ∧ (let opened := { struck.link with a := probed struck.link.a, b := probed struck.link.b }
         t.link = if cause = .ownExpiry then opened else opened.withdrawMark)
      ∧ t.alerts.estimatedStrike = struck.alerts.estimatedStrike
      ∧ t.phaseCode = (false, decide (∃ x ∈ t.book.entries, x.state = .settling))

/-! ### The input lines -/

/-- ENERGY_PULSE on the line of a configured channel: the accumulator takes the pulse value up to 2^40 - 1, the counted count
grows by what was taken, the open entry gets SATURATED when the sum would pass the limit, and nothing else changes but the line's
level, in every accounting state (R31). -/
def Obligations.EnergyPulseIsCounted : Prop :=
  ∀ (s : State) (c : Settings) (line i : Fin 8) (setup : ChannelSetup),
    s.settings = some c → s.pulsePossible line .energy = true → c.channelOf (.line line) = some i →
    c.channels[i] = some setup →
    ∃ t, exec (.energyPulse line) s = .next t
      ∧ t = { s with inputs := t.inputs, bank := { s.bank with channels := t.bank.channels }, book := t.book }
      ∧ t.inputs = (s.setLevel line (s.countedEdge line)).inputs
      ∧ (∀ j : Fin 8, j ≠ i → t.bank.channels[j] = s.bank.channels[j])
      ∧ t.bank.channels[i].held = min (2 ^ 40 - 1) (s.bank.channels[i].held + setup.pulse)
      ∧ t.bank.channels[i].counted
          = s.bank.channels[i].counted + BitVec.ofNat 64 (t.bank.channels[i].held - s.bank.channels[i].held)
      ∧ t.bank.channels[i].credited = s.bank.channels[i].credited
      ∧ t.book.entries = flagOpenedIf (2 ^ 40 - 1 < s.bank.channels[i].held + setup.pulse) (fun flags => { flags with saturated := true })
          s.book.entries
      ∧ t.book = { s.book with entries := t.book.entries }

/-- CUT_PULSE adds gob weight times gobs per cut, 1 to 262,140 g, to pull and 1 to the cut count; REJECT_PULSE adds the gob weight
to reject; each holds at 4,294,967,295 with SATURATED on the open entry, and nothing else changes but the line's level (R36, R37). -/
def Obligations.CutAndRejectPulsesWeighGlass : Prop :=
  ∀ (s : State) (line : Fin 8),
    (s.pulsePossible line .cut = true → ∃ t, exec (.cutPulse line) s = .next t
      ∧ t = { s with inputs := (s.setLevel line (s.countedEdge line)).inputs, bank := t.bank, book := t.book }
      ∧ t.bank = { s.bank with pull := min 4294967295 (s.bank.pull + s.bank.job.gob * s.bank.job.perCut),
                               cuts := min 4294967295 (s.bank.cuts + 1) }
      ∧ t.book = { s.book with entries := t.book.entries }
      ∧ t.book.entries = flagOpenedIf (4294967295 < s.bank.pull + s.bank.job.gob * s.bank.job.perCut
          ∨ 4294967295 < s.bank.cuts + 1) (fun flags => { flags with saturated := true }) s.book.entries
      ∧ (1 ≤ s.bank.job.gob → s.bank.job.gob ≤ 65535 → 1 ≤ s.bank.job.perCut → s.bank.job.perCut ≤ 4 →
          1 ≤ s.bank.job.gob * s.bank.job.perCut ∧ s.bank.job.gob * s.bank.job.perCut ≤ 262140))
    ∧ (s.pulsePossible line .reject = true → ∃ t, exec (.rejectPulse line) s = .next t
      ∧ t = { s with inputs := (s.setLevel line (s.countedEdge line)).inputs, bank := t.bank, book := t.book }
      ∧ t.bank = { s.bank with reject := min 4294967295 (s.bank.reject + s.bank.job.gob) }
      ∧ t.book = { s.book with entries := t.book.entries }
      ∧ t.book.entries = flagOpenedIf (4294967295 < s.bank.reject + s.bank.job.gob) (fun flags => { flags with saturated := true })
          s.book.entries)

/-- Level changes: RUNNING_LEVEL_CHANGE moves the line's debounced level and nothing else; FAULT_LEVEL_CHANGE moves the level,
gives the open entry METER-FAULT when the line becomes active, and works METER out again; while a FAULT line is active METER is
set (R27, R42, R57). DEBOUNCED_EDGE: an edge that delivers no event moves the line's level; until loading ends its time is
recorded for its direction, and nothing else changes (R24, R25, R26, R28). An edge can occur where the debounced level stands at
its other end; a pulse is the edge of a line of its role in the configured direction, and a level role is active at its configured
level (R24 to R27); the edges that deliver no event are those of an UNUSED line, the uncounted ones of a pulse role, and all
without a configuration (R24, R26, R28). -/
def Obligations.LevelChangesAndEdgesMoveTheLine : Prop :=
  (∀ (s : State) (line : Fin 8) (edge : Edge), s.edgePossible line edge = true →
      (s.lineHasRole line .running = true → exec (.runningLevelChange line edge) s = .next
        { s with inputs := s.inputs.set line { s.inputs[line] with level := edge.endLevel } })
      ∧ (s.lineHasRole line .fault = true → ∃ t, exec (.faultLevelChange line edge) s = .next t
        ∧ t = { s with inputs := s.inputs.set line { s.inputs[line] with level := edge.endLevel }, book := t.book,
                       alerts := t.alerts }
        ∧ t.book = { s.book with entries := t.book.entries }
        ∧ t.book.entries = flagOpenedIf (edge.endLevel = s.activeLevel line) (fun flags => { flags with meterFault := true }) s.book.entries
        ∧ (edge.endLevel = s.activeLevel line → t.meterCondition = true)
        ∧ t.meterCondition = (t.faultActive || s.meterFailed || s.meter.alarmSeen)))
  ∧ (∀ (s : State) (line : Fin 8) (edge : Edge) (time : Nat),
        s.loader.phase ≠ .held → s.edgePossible line edge = true → s.deliversNothing line edge = true →
        let moved : InputLine :=
          { level := edge.endLevel
            lastRise := if s.loader.phase ≠ .ended ∧ edge = .rising then some time else s.inputs[line].lastRise
            lastFall := if s.loader.phase ≠ .ended ∧ edge = .falling then some time else s.inputs[line].lastFall }
        exec (.debouncedEdge line edge time) s = .next { s with inputs := s.inputs.set line moved })
  ∧ ∀ (s : State) (line : Fin 8),
        (s.edgePossible line .rising = true ↔ s.inputs[line].level = .low)
        ∧ (s.edgePossible line .falling = true ↔ s.inputs[line].level = .high)
        ∧ (s.settings = none → ∀ edge role,
            s.deliversNothing line edge = true ∧ s.lineHasRole line role = false ∧ s.pulsePossible line role = false)
        ∧ ∀ c, s.settings = some c →
          let rising := c.lines[line].polarity = .risingHigh
          let after : InputLine := { s.inputs[line] with level := if rising then .high else .low }
          s.activeLevel line = after.level ∧ (s.setLevel line (s.countedEdge line)).inputs = s.inputs.set line after
          ∧ (∀ role, (s.lineHasRole line role = true ↔ c.lines[line].role = role)
              ∧ (s.pulsePossible line role = true ↔ c.lines[line].role = role
                  ∧ s.inputs[line].level = if rising then .low else .high))
          ∧ ∀ edge, s.deliversNothing line edge = true ↔ c.lines[line].role = .unused
              ∨ (c.lines[line].role ∈ [LineRole.energy, .cut, .reject, .second]
                ∧ edge = if rising then Edge.falling else Edge.rising)

/-! ### Alert lines and phase lines -/

/-- Every step keeps both alert lines on their groups: a line with a mode holds the OR of its group's members as they stand, and
no line has a mode before loading ends (R181). So a LEVEL line is active exactly while its OR is true. A rise of the OR of a PULSE
line starts its pulse timer, a pulse runs on whatever the OR does until ALERT_PULSE_END, HARDWARE_RESET or the end of loading, and
ALERT_PULSE_END stops the timer of its own line alone, a LEVEL line staying as it is (R181, R182). The bits of a group name METER,
CHANNEL, TIMEBASE, GAP, SERVICE, CLAMPED, UNCONFIGURED and ESTIMATED-STRIKE, from bit 0 on; METER is set by an active FAULT line,
a FAILED meter entry or alarm-seen, CHANNEL by a channel that is not ACTIVE (R27, R42, R57, R139, R181, R191). The phase code
follows the accounting state, and in ACCOUNTING tells whether an entry is SETTLING (R185). -/
def Obligations.AlertLinesFollowTheirGroups : Prop :=
  (∀ s t : State, s.alertsFollow → step s = .next t →
      t.alertsFollow
      ∧ (t.alerts.one.mode = some .level → t.alerts.one.active = t.groupOr t.alerts.one.group)
      ∧ (t.alerts.two.mode = some .level → t.alerts.two.active = t.groupOr t.alerts.two.group)
      ∧ (t.alerts.one.mode = some .pulse → s.alerts.one.lastOr = false → t.groupOr t.alerts.one.group = true →
          t.alerts.one.active = true)
      ∧ (t.alerts.two.mode = some .pulse → s.alerts.two.lastOr = false → t.groupOr t.alerts.two.group = true →
          t.alerts.two.active = true)
      ∧ (s.loader.phase = .ended → s.pending.head? ≠ some .hardwareReset →
          (s.alerts.one.pulse = true → s.pending.head? ≠ some (.alertPulseEnd .one) → t.alerts.one.pulse = true)
          ∧ (s.alerts.two.pulse = true → s.pending.head? ≠ some (.alertPulseEnd .two) → t.alerts.two.pulse = true)))
  ∧ (∀ s : State,
        (exec (.alertPulseEnd .one) s = .next
          { s with alerts := { s.alerts with one := { s.alerts.one with pulse := false } } })
        ∧ (exec (.alertPulseEnd .two) s = .next
          { s with alerts := { s.alerts with two := { s.alerts.two with pulse := false } } })
        ∧ ∀ l : AlertLine, (l.mode = some .pulse → ({ l with pulse := false } : AlertLine).active = false)
          ∧ (l.mode = some .level → ({ l with pulse := false } : AlertLine).active = l.active))
  ∧ ∀ s : State,
        let active := fun (c : Settings) (i : Fin 8) =>
          s.inputs[i].level = (if c.lines[i].polarity = .risingHigh then Level.high else .low)
        let fault := ∃ c, s.settings = some c ∧ ∃ i : Fin 8, c.lines[i].role = .fault ∧ active c i
        let failed := ∃ c, s.settings = some c ∧ ∃ m : Fin 8, c.meters[m].isSome = true ∧ s.meter.entries[m].state = .failed
        let meter := s.meter.alarmSeen = true ∨ fault ∨ failed
        let channel := s.link.a.state ≠ .active ∨ s.link.b.state ≠ .active
        let settling := ∃ e ∈ s.book.entries, e.state = .settling
        (s.faultActive = true ↔ fault) ∧ (s.meterFailed = true ↔ failed) ∧ (s.meterCondition = true ↔ meter) ∧ (s.channelCondition = true ↔ channel)
        ∧ (∀ g : Byte, s.groupOr g = true ↔ (g.getLsbD 0 = true ∧ meter) ∨ (g.getLsbD 1 = true ∧ channel)
            ∨ (g.getLsbD 2 = true ∧ s.time.timebase = true) ∨ (g.getLsbD 3 = true ∧ s.time.gap = true)
            ∨ (g.getLsbD 4 = true ∧ s.link.service = true) ∨ (g.getLsbD 5 = true ∧ s.loader.clamped = true)
            ∨ (g.getLsbD 6 = true ∧ s.time.accounting = .unconfigured)
            ∨ (g.getLsbD 7 = true ∧ s.alerts.estimatedStrike = true))
        ∧ (s.time.accounting = .loading ∨ s.time.accounting = .unconfigured → s.phaseCode = (true, false))
        ∧ (s.time.accounting = .starting → s.phaseCode = (true, true))
        ∧ (s.time.accounting = .accounting → settling → s.phaseCode = (false, true))
        ∧ (s.time.accounting = .accounting → ¬settling → s.phaseCode = (false, false))

/-! ### The meter port -/

/-- SAMPLE_TICK, when a base tick gave one: with no round in progress it starts a round at the first configured entry, or ends at
once with an empty table; with a round in progress it is an overrun, counted up to 65,535, and the round goes on. Nothing else
changes but that the tick is taken (R48, R49, R58). -/
def Obligations.SampleTickStartsARoundOrOverruns : Prop :=
  ∀ (s : State) (c : Settings), s.settings = some c → s.time.sampleDue = true →
    (s.meter.poll = none → (∀ m : Fin 8, c.meters[m] = none) →
      exec .sampleTick s = .next { s with time := { s.time with sampleDue := false } })
    ∧ (∀ m : Fin 8, s.meter.poll = none → c.meters[m].isSome = true → (∀ k : Fin 8, k < m → c.meters[k] = none) →
      exec .sampleTick s = .next
        { s with time := { s.time with sampleDue := false },
                 meter := { s.meter with poll := some { entry := m, phase := .waitQuiet } } })
    ∧ (s.meter.poll.isSome = true →
      exec .sampleTick s = .next
        { s with time := { s.time with sampleDue := false },
                 meter := { s.meter with overruns := min 65535 (s.meter.overruns + 1) } })

/-- METER_LINE_QUIET while a poll waits for quiet: once no byte has started for three byte times of 10 bits the request goes out,
which is the entry's address, its counter select and the check byte of R44; before that, and while no poll waits, only the quiet
time grows (R44, R50). REQUEST_SENT turns the transceiver to receive and opens the reply window, and no other state changes; a
byte outside a window and outside a request is discarded but the line's quiet is counted from its start, 10 bit times before it
has come whole (how the quiet is counted: log entry 17, DEDUCED), and one that arrives while the port sends is ignored (R43, R50,
R51). While the port sends, MTX gives the three bytes of the request, each as a start bit, 8 data bits with the least significant
first and a stop bit; at all other times it rests at the idle level (R43, R44). That a 1, the stop bit and the idle level are HIGH
and the start bit LOW is presumed (log entry 38). -/
def Obligations.RequestGoesOutAndOpensItsWindow : Prop :=
  (∀ (s : State) (c : Settings) (m : Fin 8) (setup : MeterSetup) (elapsed : Nat),
      s.loader.phase ≠ .held → s.settings = some c → c.meters[m] = some setup →
      s.meter.poll = some { entry := m, phase := .waitQuiet } →
      let request : MeterRequest :=
        { address := setup.address, select := setup.select, check := 255 - (setup.address + setup.select) }
      let poll : Option Poll :=
        if 30 ≤ s.meter.quietTime + elapsed then some { entry := m, phase := .sending request } else s.meter.poll
      exec (.meterLineQuiet elapsed) s = .next
        { s with meter := { s.meter with quietTime := s.meter.quietTime + elapsed, poll := poll } })
  ∧ (∀ (s : State) (elapsed : Nat), s.loader.phase ≠ .held →
      (∀ m : Fin 8, s.meter.poll ≠ some { entry := m, phase := .waitQuiet }) →
      exec (.meterLineQuiet elapsed) s = .next { s with meter := { s.meter with quietTime := s.meter.quietTime + elapsed } })
  ∧ (∀ m : MeterPort, m.transmitting = false → m.serialWave = [] ∧ m.lineAtRest = some .high)
  ∧ ∀ (s : State) (m : Fin 8) (request : MeterRequest) (byte : Option Byte),
        let sent := fun b : Byte =>
          Level.low :: (List.range 8).map (fun i => if b.getLsbD i then Level.high else Level.low) ++ [Level.high]
        (s.meter.poll = some { entry := m, phase := .sending request } →
          (∃ t, exec .requestSent s = .next t
            ∧ t = { s with meter := { s.meter with poll := some { entry := m, phase := .window request } } }
            ∧ s.meter.transmitting = true ∧ t.meter.transmitting = false)
          ∧ s.meter.serialWave = sent request.address ++ sent request.select ++ sent request.check ∧ s.meter.lineAtRest = none
          ∧ exec (.strayMeterByte byte) s = .next s)
        ∧ (s.loader.phase ≠ .held → s.meter.transmitting = false → s.meter.inWindow = false →
          exec (.strayMeterByte byte) s = .next { s with meter := { s.meter with quietTime := 10 } })

/-- A reply is a valid reading exactly when all eight bytes came without a framing error, the check byte is the ones' complement
of the modulo-256 sum of the first seven, address and select are those of the request outstanding, and the value is below the
modulus; the reading is the value and bit 0 of the status (R44, R45). -/
def Obligations.ValidReplyMeetsEveryTest : Prop :=
  ∀ (setup : MeterSetup) (request : MeterRequest) (reply : MeterReply) (value : Nat) (alarm : Bool),
    validReading setup request reply = some (value, alarm) ↔
      ∃ v3 v2 v1 v0 status : Byte,
        reply = { address := some request.address, select := some request.select, value3 := some v3, value2 := some v2,
                  value1 := some v1, value0 := some v0, status := some status,
                  check := some (255 - (request.address + request.select + v3 + v2 + v1 + v0 + status)) }
          ∧ value = v3.toNat * 2 ^ 24 + v2.toNat * 2 ^ 16 + v1.toNat * 2 ^ 8 + v0.toNat ∧ value < setup.modulus
          ∧ alarm = (status.toNat % 2 == 1)

/-- REPLY_RECEIVED with a valid reply: the reading becomes the reference of an ACTIVE entry with miss count 0 and
rounds-since-good 1. With no reference before, nothing is credited. With one, the delta modulo the modulus is delivered times the
scale when it is within the limit times the rounds, and else is a discontinuity, counted and flagged. A FAILED entry with a
reference flags CATCH-UP, an alarm flags METER-FAULT and sets alarm-seen. The next poll begins, of the lowest configured entry
above this one, or the round ends when there is none (R47, R49, R52 to R55, R57), the line's quiet counted from the start of the
eighth byte (R50, R51; log entry 17). -/
def Obligations.ValidReplyIsCreditedOrRefused : Prop :=
  ∀ (s : State) (c : Settings) (m : Fin 8) (setup : MeterSetup) (request : MeterRequest) (reply : MeterReply) (value : Nat)
    (alarm : Bool),
    s.settings = some c → c.meters[m] = some setup → s.meter.poll = some { entry := m, phase := .window request } →
    validReading setup request reply = some (value, alarm) →
    let e := s.meter.entries[m]
    let delta := (value + setup.modulus - e.reference.getD 0) % setup.modulus
    let plausible := e.reference.isSome = true ∧ delta ≤ setup.limit * e.rounds
    let refused := e.reference.isSome = true ∧ setup.limit * e.rounds < delta
    let credited := if plausible then s.deliver c (.meter m) (delta * setup.scale) else s
    ∃ t, exec (.replyReceived reply) s = .next t
      ∧ t = { s with bank := t.bank, book := { s.book with entries := t.book.entries }, meter := t.meter, alerts := t.alerts }
      ∧ t.bank = credited.bank
      ∧ t.book.entries = flagOpenedIf (e.state = .failed ∧ e.reference.isSome = true)
          (fun flags => { flags with catchUp := true })
          (flagOpenedIf refused (fun flags => { flags with discontinuity := true })
            (flagOpenedIf (alarm = true) (fun flags => { flags with meterFault := true }) credited.book.entries))
      ∧ t.meter.entries[m]
          = { state := .active, miss := 0, rounds := 1, reference := some value, alarm := alarm }
      ∧ (∀ k : Fin 8, k ≠ m → t.meter.entries[k] = s.meter.entries[k])
      ∧ t.meter.discontinuities = (if refused then min 65535 (s.meter.discontinuities + 1) else s.meter.discontinuities)
      ∧ t.meter.alarmSeen = (s.meter.alarmSeen || alarm) ∧ t.meter.failedPolls = s.meter.failedPolls
      ∧ t.meter.overruns = s.meter.overruns ∧ t.meter.quietTime = 10
      ∧ (∀ k : Fin 8, m < k → c.meters[k].isSome = true → (∀ j : Fin 8, m < j → j < k → c.meters[j] = none) →
          t.meter.poll = some { entry := k, phase := .waitQuiet })
      ∧ ((∀ k : Fin 8, m < k → c.meters[k] = none) → t.meter.poll = none)

/-- A delivery credits the configured channel of its source, up to 2^40 - 1, and no other: its accumulator takes the amount, its
counted count grows by what was taken and its credited count stays; a sum past the limit gives the open entry SATURATED, and
nothing else changes. An amount that no configured channel takes is discarded (R31, R32). The channel of a source is the lowest
one configured with it (R30). -/
def Obligations.DeliveryCreditsItsChannelOnly : Prop :=
  ∀ (s : State) (c : Settings) (source : ChannelSource) (amount : Nat),
    (c.channelOf source = none ↔ ∀ i : Fin 8, c.channels[i].map ChannelSetup.source ≠ some source)
    ∧ (c.channelOf source = none → s.deliver c source amount = s)
    ∧ ∀ i, c.channelOf source = some i →
      let t := s.deliver c source amount
      t = { s with bank := { s.bank with channels := t.bank.channels }, book := { s.book with entries := t.book.entries } }
      ∧ t.bank.channels[i].held = min (2 ^ 40 - 1) (s.bank.channels[i].held + amount)
      ∧ t.bank.channels[i].counted
          = s.bank.channels[i].counted + BitVec.ofNat 64 (t.bank.channels[i].held - s.bank.channels[i].held)
      ∧ t.bank.channels[i].credited = s.bank.channels[i].credited
      ∧ (∀ j : Fin 8, j ≠ i → t.bank.channels[j] = s.bank.channels[j])
      ∧ t.book.entries
          = flagOpenedIf (2 ^ 40 - 1 < s.bank.channels[i].held + amount) (fun flags => { flags with saturated := true })
              s.book.entries
      ∧ (c.channels[i].map ChannelSetup.source = some source)
      ∧ ∀ j : Fin 8, j < i → c.channels[j].map ChannelSetup.source ≠ some source

/-- A poll fails at 200 ms without quiet, at an invalid reply, and at a window that closes short: the miss count grows to at most
3, rounds-since-good to at most 65,535, the failed-poll counter grows; at the third miss the entry becomes FAILED, METER is set
and the open entry gets METER-FAULT; the reference is kept, nothing is credited, and the next poll begins, of the lowest
configured entry above this one, or the round ends when there is none (R45, R49, R50, R56). The line's quiet is counted from the
start of the last byte: the eighth byte of a reply, the last byte that started in a window that closes, or the byte before it
(R50, R51; log entry 17). -/
def Obligations.FailedPollCountsAMiss : Prop :=
  ∀ (s : State) (c : Settings) (m : Fin 8) (setup : MeterSetup) (request : MeterRequest) (reply : MeterReply)
    (window : WindowEnd) (command : Instr) (quiet : Nat),
    s.settings = some c → c.meters[m] = some setup →
    ((command = .quietWaitTimeout ∧ s.meter.poll = some { entry := m, phase := .waitQuiet } ∧ s.meter.quietTime < 30
          ∧ quiet = s.meter.quietTime)
      ∨ (command = .replyReceived reply ∧ validReading setup request reply = none
          ∧ s.meter.poll = some { entry := m, phase := .window request } ∧ quiet = 10)
      ∨ (command = .replyWindowClose window ∧ window.received < 8
          ∧ s.meter.poll = some { entry := m, phase := .window request }
          ∧ quiet = window.sinceStart.getD s.meter.quietTime)) →
    let e := s.meter.entries[m]
    let fails := e.state ≠ .failed ∧ 3 ≤ e.miss + 1
    ∃ t, exec command s = .next t
      ∧ t = { s with book := { s.book with entries := t.book.entries }, meter := t.meter, alerts := t.alerts }
      ∧ t.book.entries = flagOpenedIf fails (fun flags => { flags with meterFault := true }) s.book.entries
      ∧ t.meter.entries[m] = { e with miss := min 3 (e.miss + 1), rounds := min 65535 (e.rounds + 1),
                                      state := if 3 ≤ e.miss + 1 then .failed else e.state }
      ∧ (∀ k : Fin 8, k ≠ m → t.meter.entries[k] = s.meter.entries[k])
      ∧ t.meter.failedPolls = min 65535 (s.meter.failedPolls + 1) ∧ t.meter.alarmSeen = s.meter.alarmSeen
      ∧ t.meter.overruns = s.meter.overruns ∧ t.meter.discontinuities = s.meter.discontinuities
      ∧ t.meter.quietTime = quiet
      ∧ (3 ≤ e.miss + 1 → t.meterCondition = true)
      ∧ (∀ k : Fin 8, m < k → c.meters[k].isSome = true → (∀ j : Fin 8, m < j → j < k → c.meters[j] = none) →
          t.meter.poll = some { entry := k, phase := .waitQuiet })
      ∧ ((∀ k : Fin 8, m < k → c.meters[k] = none) → t.meter.poll = none)

/-! ### The plant link: sending -/

/-- The wait of a record is 16, 80, 144 or 208 bit times by its class plus 2 for each step of the station number, so that a record
of a lower class begins before a record of a higher class whatever the stations (R131). The pick of a channel is a record owed to
it, none owed to it is of a lower class, and none of its class owed to it entered earlier; a channel that is owed a record has a
pick (R133). -/
def Obligations.PickAndWaitFollowTheDeferenceClasses : Prop :=
  ((∀ n : Nat, waitOf .mark n = 16 + 2 * n ∧ waitOf .allotment n = 80 + 2 * n ∧ waitOf .tally n = 144 + 2 * n
      ∧ waitOf .answer n = 208 + 2 * n)
    ∧ ∀ (x y : RecordKind) (n k : Nat), 1 ≤ n → n ≤ 30 → 1 ≤ k → k ≤ 30 → x.deferenceClass < y.deferenceClass →
        waitOf x n < waitOf y k)
  ∧ ∀ (l : Link) (ch : Chan), l.queueFormed →
        (l.pick ch = none ↔ ∀ q ∈ l.queue, q.owed ch = false)
        ∧ ∀ q, l.pick ch = some q → q ∈ l.queue ∧ q.owed ch = true
          ∧ ∀ r ∈ l.queue, r.owed ch = true →
              q.record.kind.deferenceClass ≤ r.record.kind.deferenceClass
                ∧ (r.record.kind.deferenceClass = q.record.kind.deferenceClass → q.seq ≤ r.seq)

/-- FRAME_BEGIN on a channel that the station may use: once the channel is quiet and the counted time has reached the wait of the
pick, the pick's frame begins, with the header composed from the kind's code, 1 MARK, 2 TALLY, 3 ALLOTMENT or 6 ANSWER, the record
and the eight flags of the condition word as they stand; before that only the times grow, and the other channel stays (R132, R133,
R149, R187). With no pick, and in a listen-only station, whose number is invalid or whose channels are both INHIBITED, only the
times grow (R144). DEFER: a transition heard on a channel on which the station does not transmit makes its times run from there;
the other channel and the queue stay (R132). A channel is driven exactly while a frame is in flight on it, with that frame's
levels, and is released at all other times (R128). -/
def Obligations.FrameBeginsWhenItsWaitEnds : Prop :=
  (∀ (s : State) (ch : Chan) (elapsed own : Nat) (q : Queued),
      s.loader.phase ≠ .held → (s.link.chan ch).inFlight = none → s.link.pick ch = some q → s.loader.own = some own →
      ¬(s.link.a.state = .inhibited ∧ s.link.b.state = .inhibited) →
      let c := s.link.chan ch
      let counted := (c.counted.map fun n => n + elapsed).getD 0
      let word := bitsNumber [s.link.service, s.time.gap, s.link.a.state != .active || s.link.b.state != .active,
        s.loader.clamped, s.time.timebase, q.record.estimated, s.meterCondition, s.time.starting]
      let kind : Nibble := match q.record.kind with
        | .mark => 1
        | .tally => 2
        | .allotment => 3
        | .answer => 6
      let frame : Frame :=
        { kind := kind, revision := q.record.revision, source := BitVec.ofNat 8 own,
          destination := q.record.destination, period := q.record.period, condition := BitVec.ofNat 8 word,
          tag := q.record.tag, payload := q.record.payload }
      ∃ t, exec (.frameBegin ch elapsed) s = .next t
        ∧ t = { s with link := s.link.setChan ch (t.link.chan ch) }
        ∧ (8 ≤ c.quietTime + elapsed → waitOf q.record.kind own ≤ counted →
            t.link.chan ch = { c with
              quietTime := c.quietTime + elapsed, counted := none,
              inFlight := some { seq := q.seq, frame := frame, withdrawn := false, superseded := false, unchecked := false } })
        ∧ (c.quietTime + elapsed < 8 ∨ counted < waitOf q.record.kind own →
            t.link.chan ch
              = { c with quietTime := c.quietTime + elapsed, counted := c.counted.map fun n => n + elapsed }))
  ∧ (∀ (s : State) (ch : Chan) (elapsed : Nat), s.loader.phase ≠ .held → (s.link.chan ch).inFlight = none →
      s.link.pick ch = none ∨ s.loader.own = none ∨ (s.link.a.state = .inhibited ∧ s.link.b.state = .inhibited) →
      let c : LinkChannel :=
        { s.link.chan ch with quietTime := (s.link.chan ch).quietTime + elapsed,
                              counted := (s.link.chan ch).counted.map fun n => n + elapsed }
      exec (.frameBegin ch elapsed) s = .next { s with link := s.link.setChan ch c })
  ∧ (∀ (s : State) (ch : Chan), s.loader.phase ≠ .held → (s.link.chan ch).inFlight = none →
        let c : LinkChannel := { s.link.chan ch with quietTime := 0, counted := (s.link.chan ch).counted.map fun _ => 0 }
        exec (.defer ch) s = .next { s with link := s.link.setChan ch c })
  ∧ ∀ (c : LinkChannel) (rest : Level),
        (c.inFlight = none → c.drives rest = none)
        ∧ ∀ f, c.inFlight = some f → c.drives rest = some (f.frame.wave rest)

/-- FRAME_GONE_OUT_WHOLE: nothing is driven any more, the echo-fault count is 0, a FAILED channel is ACTIVE, its times run from
now and it counts when it is owed a record; the record is owed to the channel no longer unless its MARK took a new number
meanwhile, and records owed to no channel leave the queue. Nothing else of the link changes but that the other channel's count
follows what it is owed (R132, R134, R137, R141, R143). -/
def Obligations.WholeFrameIsOwedNoLonger : Prop :=
  ∀ (s : State) (ch : Chan) (f : InFlight), (s.link.chan ch).inFlight = some f → f.unchecked = false →
    ∃ t, exec (.frameGoneOutWhole ch) s = .next t ∧ t = { s with link := t.link, alerts := t.alerts }
      ∧ t.link = { s.link with a := t.link.a, b := t.link.b, queue := t.link.queue }
      ∧ t.link.queue = (s.link.queue.map fun q =>
          if q.seq = f.seq ∧ f.superseded = false then q.setOwed ch false else q).filter (fun q => q.owedA || q.owedB)
      ∧ t.link.chan ch = { s.link.chan ch with
          inFlight := none, echoFaults := 0, quietTime := 0, counted := if t.link.owes ch then some 0 else none,
          state := if (s.link.chan ch).state = .failed then .active else (s.link.chan ch).state }
      ∧ ∀ other, other ≠ ch →
          t.link.chan other = (s.link.chan other).recount (s.link.owes other) (t.link.owes other)

/-- ECHO_MISMATCH abandons the transmission; the channel's times run from now and it counts when it is owed a record. On an ACTIVE
channel the count grows, and the record stays owed unless its MARK was withdrawn; at 8 the channel is FAILED and owed nothing. On
a FAILED channel the probe is owed no longer and the count stays 8. Nothing else of the link changes but that the other channel's
count follows what it is owed (R132, R135, R136, R137, R143). That the release counts as a transition for the quiet time is the
model's choice (log entry 33); that on a FAILED channel the debt ends as well where the MARK in flight took a new number, and
stays on an ACTIVE one, is its reading of R135 and R137 against R143 (log entry 16, DEDUCED). -/
def Obligations.EchoMismatchCountsAFault : Prop :=
  ∀ (s : State) (ch : Chan) (f : InFlight), (s.link.chan ch).inFlight = some f → f.unchecked = false →
    (s.link.chan ch).formed →
    let c := s.link.chan ch
    let faults := if c.state = .active then c.echoFaults + 1 else c.echoFaults
    let fails := c.state = .active ∧ faults = 8
    ∃ t, exec (.echoMismatch ch) s = .next t ∧ t = { s with link := t.link, alerts := t.alerts }
      ∧ t.link = { s.link with a := t.link.a, b := t.link.b, queue := t.link.queue }
      ∧ t.link.queue = (s.link.queue.map fun q =>
          if fails ∨ (q.seq = f.seq ∧ (f.withdrawn = true ∨ c.state ≠ .active)) then q.setOwed ch false else q).filter
            (fun q => q.owedA || q.owedB)
      ∧ t.link.chan ch = { c with
          inFlight := none, echoFaults := faults, quietTime := 0, counted := if t.link.owes ch then some 0 else none,
          state := if fails then .failed else c.state }
      ∧ (c.state = .failed → (t.link.chan ch).echoFaults = 8)
      ∧ ∀ other, other ≠ ch →
          t.link.chan other = (s.link.chan other).recount (s.link.owes other) (t.link.owes other)

/-- INHIBIT_ACTIVE: the channel is INHIBITED with no probe pending, its count stays, every record ceases to be owed to it but one
in flight, which runs on unchecked, and CHANNEL is set. INHIBIT_RELEASED: the channel is ACTIVE with count 0 and the queue stays
(R138, R139). INHIBITED_FRAME_END: a frame that ran on unchecked ends, its record is owed to the channel no longer, unless its
MARK took a new number after the inhibit was released, and leaves the queue when owed to neither; the channel's state and count
stay, and its times run from now (R129, R132, R138, R141, R143). That an inhibit ends the debt of a MARK that took a new number in
flight (`superseded` becomes false), and that the debt of one renumbered after the release stays, is the model's reading of R138
against R143 (log entry 16, DEDUCED). -/
def Obligations.InhibitTakesTheChannelOutAndBack : Prop :=
  (∀ (s : State) (ch : Chan),
      (s.loader.phase ≠ .held → (s.link.chan ch).state ≠ .inhibited →
        ∃ t, exec (.inhibitActive ch) s = .next t ∧ t = { s with link := t.link, alerts := t.alerts }
          ∧ t.link = { s.link with a := t.link.a, b := t.link.b, queue := t.link.queue }
          ∧ t.link.queue = (s.link.queue.map fun q =>
              if (s.link.chan ch).carries q = true then q else q.setOwed ch false).filter (fun q => q.owedA || q.owedB)
          ∧ t.link.chan ch = ({ s.link.chan ch with
              state := .inhibited, probe := false,
              inFlight := (s.link.chan ch).inFlight.map fun f => { f with unchecked := true, superseded := false } }
              : LinkChannel).recount (s.link.owes ch) (t.link.owes ch)
          ∧ (∀ other, other ≠ ch →
              t.link.chan other = (s.link.chan other).recount (s.link.owes other) (t.link.owes other))
          ∧ t.channelCondition = true)
      ∧ ((s.link.chan ch).state = .inhibited →
        ∃ t, exec (.inhibitReleased ch) s = .next t ∧ t = { s with link := t.link, alerts := t.alerts }
          ∧ t.link = s.link.setChan ch { s.link.chan ch with state := .active, echoFaults := 0 }))
  ∧ ∀ (s : State) (ch : Chan) (f : InFlight), (s.link.chan ch).inFlight = some f → f.unchecked = true →
        ∃ t, exec (.inhibitedFrameEnd ch) s = .next t ∧ t = { s with link := t.link }
          ∧ t.link = { s.link with a := t.link.a, b := t.link.b, queue := t.link.queue }
          ∧ t.link.queue = (s.link.queue.map fun q =>
              if q.seq = f.seq ∧ f.superseded = false then q.setOwed ch false else q).filter (fun q => q.owedA || q.owedB)
          ∧ t.link.chan ch = { s.link.chan ch with
              inFlight := none, quietTime := 0, counted := if t.link.owes ch then some 0 else none }
          ∧ ∀ other, other ≠ ch →
              t.link.chan other = (s.link.chan other).recount (s.link.owes other) (t.link.owes other)

/-- What becomes of a record handed over. Listen-only (an invalid number, or both channels INHIBITED), or owed to no channel:
discarded, unsent grows. With room: it enters at the end, owed to each ACTIVE channel and to each FAILED one with a probe pending,
and the probe marks clear. Into a full queue: dropped, overflow grows and SERVICE is set, but for a MARK that displaces the newest
ANSWER not in flight. A MARK that finds a MARK takes its place with the new number, owed to each ACTIVE channel and to a FAILED
one that was owed the old as its probe, and is counted unsent when owed to none; a frame that carries the old number goes on and
is owed the new after it. How a channel counts: not while it transmits or is owed nothing; from 0 when it becomes owed a record
while quiet, from its quiet time while not (the model's choice between R132 and R133, log entry 29); on, when it stays owed (R132,
R133, R137, R140, R142, R143, R144, R150; an INHIBITED channel that drives the old number: log entry 16; that a listen-only
station with an old MARK still queued discards the new one, R144 before R143, is the model's choice: log entry 37). -/
def Obligations.HandedOverRecordEntersOrIsCounted : Prop :=
  (∀ (s : State) (r : Record),
    let takes := fun c : LinkChannel => c.state == .active || (c.state == .failed && c.probe)
    let entered : Queued := { seq := s.link.nextSeq, record := r, owedA := takes s.link.a, owedB := takes s.link.b }
    let silent := s.loader.own = none ∨ (s.link.a.state = .inhibited ∧ s.link.b.state = .inhibited)
    let replaces := r.kind = .mark ∧ ∃ q ∈ s.link.queue, q.record.kind = .mark
    let free := fun q : Queued =>
      q.record.kind = .answer ∧ ∀ ch f, (s.link.chan ch).inFlight = some f → f.seq ≠ q.seq
    let clear := fun c : LinkChannel => { c with probe := false }
    let t := s.handOver r
    (silent ∨ (¬replaces ∧ entered.owedA = false ∧ entered.owedB = false) →
      t = { s with link := { s.link with unsent := min 65535 (s.link.unsent + 1) } })
    ∧ (¬silent → ¬replaces → (entered.owedA || entered.owedB) = true → s.link.queue.length < 8 →
      t = { s with link := { s.link with
        queue := s.link.queue ++ [entered], nextSeq := s.link.nextSeq + 1,
        a := (clear s.link.a).recount (s.link.owes .a) (t.link.owes .a),
        b := (clear s.link.b).recount (s.link.owes .b) (t.link.owes .b) } })
    ∧ (¬silent → ¬replaces → (entered.owedA || entered.owedB) = true → 8 ≤ s.link.queue.length →
      t = { s with link := t.link, alerts := t.alerts }
        ∧ t.link.overflow = min 65535 (s.link.overflow + 1) ∧ t.link.service = true ∧ t.link.unsent = s.link.unsent
        ∧ (r.kind ≠ .mark ∨ (∀ q ∈ s.link.queue, ¬free q) →
            t.link = { s.link with overflow := t.link.overflow, service := true })
        ∧ (∀ earlier q later, r.kind = .mark → s.link.queue = earlier ++ q :: later → free q → (∀ x ∈ later, ¬free x) →
            let kept : Link := { s.link with queue := s.link.queue.filter fun x => x.seq != q.seq }
            t.link = { s.link with
              overflow := t.link.overflow, service := true, queue := kept.queue ++ [entered], nextSeq := s.link.nextSeq + 1,
              a := (clear (s.link.a.recount (s.link.owes .a) (kept.owes .a))).recount (kept.owes .a) (t.link.owes .a),
              b := (clear (s.link.b.recount (s.link.owes .b) (kept.owes .b))).recount (kept.owes .b) (t.link.owes .b) }))
    ∧ (¬silent → replaces →
      let owes := fun (c : LinkChannel) (owed : Bool) => c.state == .active || (c.state == .failed && owed)
      let renewed := s.link.queue.map fun q =>
        if q.record.kind = .mark then { q with record := r, owedA := owes s.link.a q.owedA, owedB := owes s.link.b q.owedB }
        else q
      let carries := fun (c : LinkChannel) (f : InFlight) =>
        c.state ≠ .inhibited ∧ ∃ q ∈ s.link.queue, q.record.kind = .mark ∧ q.seq = f.seq
      t = { s with link := { s.link with a := t.link.a, b := t.link.b, queue := t.link.queue, unsent := t.link.unsent } }
        ∧ t.link.queue = renewed.filter (fun q => q.owedA || q.owedB)
        ∧ ((∃ q ∈ renewed, q.record.kind = .mark ∧ q.owedA = false ∧ q.owedB = false) →
            t.link.unsent = min 65535 (s.link.unsent + 1))
        ∧ ((∀ q ∈ renewed, q.record.kind = .mark → q.owedA = true ∨ q.owedB = true) → t.link.unsent = s.link.unsent)
        ∧ ∀ ch, ∃ flight, t.link.chan ch
              = ({ s.link.chan ch with inFlight := flight } : LinkChannel).recount (s.link.owes ch) (t.link.owes ch)
            ∧ (∀ f, (s.link.chan ch).inFlight = some f → carries (s.link.chan ch) f →
                flight = some { f with superseded := true, withdrawn := false })
            ∧ ((∀ f, (s.link.chan ch).inFlight = some f → ¬carries (s.link.chan ch) f) → flight = (s.link.chan ch).inFlight)))
  ∧ (∀ (l : Link) (ch : Chan),
      l.owes ch = true ↔ ∃ q ∈ l.queue, (match ch with | .a => q.owedA | .b => q.owedB) = true)
  ∧ ∀ (c : LinkChannel) (before now : Bool),
    let t := c.recount before now
    t = { c with counted := t.counted }
      ∧ (c.inFlight ≠ none → t.counted = c.counted)
      ∧ (c.inFlight = none → now = false → t.counted = none)
      ∧ (c.inFlight = none → now = true → before = true → c.counted ≠ none → t.counted = c.counted)
      ∧ (c.inFlight = none → now = true → (before = false ∨ c.counted = none) →
          t.counted = some (if 8 ≤ c.quietTime then 0 else c.quietTime))

/-- The own MARK withdrawn: it ceases to be owed to every channel on which it is not being transmitted, every other record stays
as it is, and records owed to no channel leave the queue. A frame in flight that carries it goes on, marked as withdrawn, so that
it is not sent again there when it is abandoned, and no longer as superseded (the model's reading, log entry 16); every other
frame stays as it is. Nothing else of the link changes but that each channel's count follows what it is owed (R11 step 7, R13,
R132, R141, R143). -/
def Obligations.WithdrawalKeepsOnlyTheFlyingMark : Prop :=
  ∀ s : State,
    let t := s.withdrawMark
    t = { s with link := { s.link with a := t.link.a, b := t.link.b, queue := t.link.queue } }
      ∧ t.link.queue = (s.link.queue.map fun q =>
          if q.record.kind = .mark then
            { q with owedA := q.owedA && s.link.a.carries q, owedB := q.owedB && s.link.b.carries q }
          else q).filter (fun q => q.owedA || q.owedB)
      ∧ ∀ ch,
          let flight := (s.link.chan ch).inFlight.map fun f : InFlight =>
            if s.link.queue.any (fun q => q.record.kind == .mark && q.seq == f.seq) then
              { f with withdrawn := true, superseded := false }
            else f
          t.link.chan ch
            = ({ s.link.chan ch with inFlight := flight } : LinkChannel).recount (s.link.owes ch) (t.link.owes ch)

/-! ### The plant link: receiving -/

/-- After a successful load RECEIVER_START starts the receiver of its channel at the channel's quiet: the bit times that lack to
the 8 have passed, for the counted time of a channel that counts as well (R129, R132, R152). In an UNCONFIGURED station with no
rate BIT_RATE_FIXED fixes the rate, once, and both receivers work from then on, the channel of the leader having a quiet time of
0, and nothing else of either channel changes; in every other station it changes nothing (R152; that both receivers work at once,
and that the leader ends the quiet of its channel alone, is the model's choice, log entry 12). -/
def Obligations.ReceiversStartAfterLoading : Prop :=
  ∀ (s : State) (ch : Chan) (rate : BitRate),
    (s.settings.isSome = true → (s.link.chan ch).receiving = false →
      ∃ t, exec (.receiverStart ch) s = .next t ∧ t = { s with link := s.link.setChan ch (t.link.chan ch) }
        ∧ t.link.chan ch
            = { s.link.chan ch with
                receiving := true, quietTime := max 8 (s.link.chan ch).quietTime,
                counted := (s.link.chan ch).counted.map fun n => n + (8 - (s.link.chan ch).quietTime) })
    ∧ (s.time.accounting = .unconfigured → s.link.rate = none →
      ∃ t, exec (.bitRateFixed ch rate) s = .next t
        ∧ t = { s with link := { s.link with rate := t.link.rate, a := t.link.a, b := t.link.b } }
        ∧ t.link.rate = some rate ∧ ∀ other, t.link.chan other = { s.link.chan other with
            receiving := true, quietTime := if other = ch then 0 else (s.link.chan other).quietTime })
    ∧ (s.time.accounting ≠ .unconfigured ∨ s.link.rate ≠ none → exec (.bitRateFixed ch rate) s = .next s)

/-- The stages before delivery, for every kind of frame: a payload past 120 bytes is a receive error; a frame that fails the
format test is counted and forgotten; a frame whose identity is in the recent list is dropped with no counter changed; a frame
that the acceptance filter ignores is remembered and nothing more; and a channel that cannot receive takes nothing (R130, R145,
R146, R147). RECEIVE_ERROR on a receiving channel grows that channel's receive-error counter, up to 65,535, and discards the
frame; while the station transmits on the channel, or its receiver has not started, nothing changes (R130, R151). ANSWER_HEARD: an
ANSWER is never taken: it passes the duplicate filter, its identity enters the recent list, the oldest of 16 leaving first, and
nothing but the channel's times and that list changes (R146, R147). What each stage passes is stated in full: which channel can
receive and what is a receive error (R130, R134, R152); the format test, by kind, source, destination, revision, length and codes
(R145, R189, R190); the acceptance filter, by kind, where the contributor table is empty but in a FURNACE or POOL and the
subscription table but in a LINE (R147); and the row of a frame (R154, R162). -/
def Obligations.FramesThatReachNoBlock : Prop :=
  (∀ (s : State) (row : FrameRow) (ch : Chan) (f : Frame),
      (s.canReceive ch = false → exec (frameCommand row ch f) s = .next s)
      ∧ (s.canReceive ch = true → 120 < f.payload.length → exec (frameCommand row ch f) s = .next (s.receiveError ch))
      ∧ (s.canReceive ch = true → f.payload.length ≤ 120 → f.formatOk = false →
          exec (frameCommand row ch f) s = .next
            { s.hearFrame ch with link :=
              { (s.hearFrame ch).link with formatErrors := min 65535 (s.link.formatErrors + 1) } })
      ∧ (s.canReceive ch = true → f.payload.length ≤ 120 → f.formatOk = true → f.row = row → f.identity ∈ s.link.recent →
          exec (frameCommand row ch f) s = .next (s.hearFrame ch))
      ∧ (s.isHeard row ch f → s.accepts f = false → exec (frameCommand row ch f) s = .next (s.heard ch f)))
  ∧ (∀ (s : State) (ch : Chan) (raw : RawFrame),
        (s.canReceive ch = false → exec (.receiveError ch raw) s = .next s)
        ∧ (s.canReceive ch = true → raw.isError = true →
          ∃ t, exec (.receiveError ch raw) s = .next t ∧ t = { s with link := s.link.setChan ch (t.link.chan ch) }
            ∧ t.link.chan ch = { s.link.chan ch with
                quietTime := 8, counted := (s.link.chan ch).counted.map (fun _ => 8),
                errors := min 65535 ((s.link.chan ch).errors + 1) }))
  ∧ (∀ (s : State) (ch : Chan) (f : Frame), s.isHeard .answer ch f →
        ∃ t, exec (.answerHeard ch f) s = .next t
          ∧ t = { s with link := { s.link.setChan ch (t.link.chan ch) with recent := t.link.recent } }
          ∧ t.link.recent = (if s.link.recent.length < 16 then s.link.recent else s.link.recent.drop 1)
              ++ [{ kind := f.kind, source := f.source, destination := f.destination, period := f.period, revision := f.revision,
                    tag := f.tag }]
          ∧ t.link.chan ch = { s.link.chan ch with
              quietTime := 8, counted := (s.link.chan ch).counted.map (fun _ => 8) })
  -- what hearing a frame does, and what each stage passes
  ∧ (∀ (s : State) (ch : Chan) (f : Frame),
      let c : LinkChannel :=
        { s.link.chan ch with quietTime := 8, counted := (s.link.chan ch).counted.map fun _ => 8 }
      f.identity = { kind := f.kind, source := f.source, destination := f.destination, period := f.period,
                     revision := f.revision, tag := f.tag }
      ∧ s.hearFrame ch = { s with link := s.link.setChan ch c }
      ∧ s.heard ch f = { s.hearFrame ch with link := { (s.hearFrame ch).link with
          recent := (if s.link.recent.length < 16 then s.link.recent else s.link.recent.drop 1) ++ [f.identity] } })
  ∧ (∀ (s : State) (ch : Chan),
      s.canReceive ch = true ↔ (s.link.chan ch).receiving = true ∧ (s.link.chan ch).inFlight = none)
  ∧ (∀ raw : RawFrame, raw.isError = true ↔ raw.bytes.length < 10 ∨ raw.spareBits ≠ 0 ∨ raw.gap = true
      ∨ 130 < raw.bytes.length ∨ raw.bytes.length ≠ 10 + (raw.bytes.getD 7 0).toNat
      ∨ ofBytes (raw.bytes.drop (raw.bytes.length - 2)) ≠ (crc (raw.bytes.take (raw.bytes.length - 2))).toNat)
  ∧ ∀ f : Frame,
      let kind := f.kind.toNat
      let byteAt := fun i : Nat => (f.payload.getD i 0).toNat
      let l := f.payload.length
      let tally := ∃ n ≤ 5, byteAt 23 = n ∧ l = 24 + 5 * n ∧ (byteAt 0 = 2 ∨ byteAt 0 = 3)
      let allotment := ∃ n ≤ 16, byteAt 11 = n ∧ l = 12 + 5 * n ∧ 1 ≤ byteAt 4 ∧ byteAt 4 ≤ 3
        ∧ ∀ k < n, 1 ≤ byteAt (12 + 5 * k) % 32 ∧ byteAt (12 + 5 * k) % 32 ≤ 30
      (f.formatOk = true ↔
        ((kind = 1 ∧ l = 0) ∨ (kind = 2 ∧ tally) ∨ (kind = 3 ∧ allotment) ∨ (kind = 4 ∧ l = 1) ∨ (kind = 5 ∧ l = 6)
          ∨ (kind = 6 ∧ 2 ≤ l ∧ l ≤ 120))
        ∧ 1 ≤ f.source.toNat ∧ f.source.toNat ≤ 30 ∧ 1 ≤ f.destination.toNat ∧ f.destination.toNat ≤ 31 ∧ f.revision.toNat ≤ 3)
      ∧ (∀ s : State, s.accepts f = true ↔ kind = 1
          ∨ (kind = 2 ∧ ∃ p ∈ s.contributors, p.station = f.source.toNat)
          ∨ (kind = 3 ∧ ∃ p ∈ s.subscriptions, p.station = f.source.toNat)
          ∨ (kind = 4 ∧ s.loader.own = some f.destination.toNat)
          ∨ (kind = 5 ∧ (s.loader.own = some f.destination.toNat ∨ f.destination.toNat = 31)))
      ∧ (f.formatOk = true → f.row = (
          let part := f.revision.toNat
          if kind = 1 then .mark
          else if kind = 2 then .tally
          else if kind = 3 then .allotment
          else if kind = 6 then .answer
          else if kind = 5 then (if byteAt 0 = 1 then .orderZero else if byteAt 0 = 2 then .orderJob else .unknown)
          else if byteAt 0 = 1 ∧ part ≤ 2 then .queryResult
          else if byteAt 0 = 2 ∧ part ≤ 2 then .queryLatest
          else if byteAt 0 = 3 ∧ part = 0 then .queryCampaign
          else if byteAt 0 = 4 then .queryCondition
          else if byteAt 0 = 5 ∧ part ≤ 1 then .queryChannels
          else .unknown))

/-- A frame of at most 120 payload bytes that reaches a receiver whole is no receive error: the check word that ends it is the CRC
of what stands before it, and its byte count is 10 plus the payload length of its header; it lasts 91 + 8L bit times. Its bytes
are the header, field by field, the payload and the check word, whose register starts at all ones and takes each byte by eight
shifts, the most significant bit first. What it drives, one level for each half bit time, lasts exactly as long, whatever level
the pair rests at: a leader of eight cells carrying 1, 0, 1, 0, 1, 0, 1, 0, a start pattern of one level for three half bit times
and the opposite one for three, and then a cell for each bit of its bytes, the most significant first, in which the level changes
at the start and, just when the bit is 1, at the middle (R128, R129, R130, R187). That the first cell and the start pattern begin
with a change of level is the model's reading (log entry 39). -/
def Obligations.ComposedFrameIsNoReceiveError : Prop :=
  ∀ f : Frame, f.payload.length ≤ 120 →
    (f.received.isError = false ∧ f.bytes.length = 10 + f.payload.length ∧ f.bitTimes = 8 + 3 + 8 * f.bytes.length)
    ∧ (let l := f.payload.length
       laidOut (f.bytes.take 8) [(1, f.kind.toNat * 16 + f.revision.toNat), (1, f.source.toNat), (1, f.destination.toNat),
          (2, f.period.toNat), (1, f.condition.toNat), (1, f.tag.toNat), (1, l)]
        ∧ (f.bytes.drop 8).take l = f.payload ∧ laidOut (f.bytes.drop (8 + l)) [(2, (crc (f.bytes.take (8 + l))).toNat)])
    ∧ (crc [] = 0xFFFF ∧ ∀ (bytes : List Byte) (b : Byte), crc (bytes ++ [b]) = (List.range 8).foldl (fun (register : CheckWord) k =>
        let shifted := register <<< 1
        if register.msb = b.getLsbD (7 - k) then shifted else shifted ^^^ 0x1021) (crc bytes))
    ∧ ∀ rest other : Level, other ≠ rest →
      let w := f.wave rest
      w.length = 2 * f.bitTimes
      ∧ w.take 22 = [other, rest, other, other, rest, other, rest, rest, other, rest, other, other, rest, other, rest, rest,
          other, other, other, rest, rest, rest]
      ∧ ∀ k, k < 8 * f.bytes.length →
          w[22 + 2 * k]? ≠ w[21 + 2 * k]?
          ∧ (w[23 + 2 * k]? ≠ w[22 + 2 * k]? ↔ (f.bytes.getD (k / 8) 0).getLsbD (7 - k % 8) = true)

/-! ### Events that cannot occur -/

/-- An event whose condition does not hold changes nothing: a pulse of a line without its role or already at the end of its
counted edge; a level change or an edge that cannot occur; a poll event with no poll or with the poll in another phase than the
event's, a window that closes with its eight bytes, the end of the wait for quiet on a quiet line; an echo event with no frame in
flight or on an unchecked one, and the end of an unchecked frame on a checked one; time or a carrier on a channel on which the
station transmits; an inhibit that is active already or was not active; a receiver that has started or has no image; a strike of
an entry whose wait runs on; start-up events in another phase (the model's reading, log entry 2). -/
def Obligations.EventsThatCannotOccurChangeNothing : Prop :=
  ∀ (s : State) (line : Fin 8) (edge : Edge) (time : Nat) (window : WindowEnd) (reply : MeterReply) (ch : Chan)
    (n : Period) (memory : List Byte) (straps : Straps) (levels : Vector Level 8) (inhibitA inhibitB : Bool)
    (byte : Option Byte) (raw : RawFrame),
    (s.pulsePossible line .energy = false → exec (.energyPulse line) s = .next s)
    ∧ (s.pulsePossible line .cut = false → exec (.cutPulse line) s = .next s)
    ∧ (s.pulsePossible line .reject = false → exec (.rejectPulse line) s = .next s)
    ∧ (s.edgePossible line edge = false → exec (.runningLevelChange line edge) s = .next s
        ∧ exec (.faultLevelChange line edge) s = .next s ∧ exec (.debouncedEdge line edge time) s = .next s)
    ∧ (s.lineHasRole line .running = false → exec (.runningLevelChange line edge) s = .next s)
    ∧ (s.lineHasRole line .fault = false → exec (.faultLevelChange line edge) s = .next s)
    ∧ (s.meter.poll = none → exec .quietWaitTimeout s = .next s ∧ exec .requestSent s = .next s
        ∧ exec (.replyReceived reply) s = .next s ∧ exec (.replyWindowClose window) s = .next s)
    ∧ (∀ (m : Fin 8) (phase : PollPhase), s.meter.poll = some { entry := m, phase := phase } →
        (phase ≠ .waitQuiet ∨ 30 ≤ s.meter.quietTime → exec .quietWaitTimeout s = .next s)
        ∧ ((∀ request, phase ≠ .sending request) → exec .requestSent s = .next s)
        ∧ ((∀ request, phase ≠ .window request) →
            exec (.replyReceived reply) s = .next s ∧ exec (.replyWindowClose window) s = .next s)
        ∧ (8 ≤ window.received → exec (.replyWindowClose window) s = .next s)
        ∧ (∀ request, phase = .window request → exec (.strayMeterByte byte) s = .next s))
    ∧ (s.time.sampleDue = false → exec .sampleTick s = .next s)
    ∧ ((s.link.chan ch).inFlight = none → exec (.frameGoneOutWhole ch) s = .next s ∧ exec (.echoMismatch ch) s = .next s
        ∧ exec (.inhibitedFrameEnd ch) s = .next s)
    ∧ (∀ f, (s.link.chan ch).inFlight = some f →
        (f.unchecked = true → exec (.frameGoneOutWhole ch) s = .next s ∧ exec (.echoMismatch ch) s = .next s)
        ∧ (f.unchecked = false → exec (.inhibitedFrameEnd ch) s = .next s)
        ∧ exec (.frameBegin ch time) s = .next s ∧ exec (.defer ch) s = .next s)
    ∧ ((s.link.chan ch).state = .inhibited → exec (.inhibitActive ch) s = .next s)
    ∧ ((s.link.chan ch).state ≠ .inhibited → exec (.inhibitReleased ch) s = .next s)
    ∧ (s.settings = none ∨ (s.link.chan ch).receiving = true → exec (.receiverStart ch) s = .next s)
    ∧ (raw.isError = false → exec (.receiveError ch raw) s = .next s)
    ∧ (s.held n = none → exec (.waitTimerExpiry n) s = .next s)
    ∧ (∀ c e, s.settings = some c → s.held n = some e → e.waitOver c.wait = false → exec (.waitTimerExpiry n) s = .next s)
    ∧ (s.loader.phase ≠ .reading → exec (.imageReadAttempt memory time) s = .next s)
    ∧ (s.loader.phase ≠ .held → exec (.resetRelease straps levels inhibitA inhibitB) s = .next s)

/-! ### Marks and evidence -/

/-- MARK, delivered. In ACCOUNTING with P open: MARK(P+1) makes the boundary; MARK(P) makes none and withdraws the own MARK; a
number 2 to 32,767 past P makes a jump over the numbers between; an older number grows the stale-mark counter, up to 65,535. In
STARTING any number opens; in UNCONFIGURED a mark has no effect (R1, R3, R12 to R16, R21). -/
def Obligations.HeardMarkIsComparedWithTheOpenPeriod : Prop :=
  ∀ (s : State) (ch : Chan) (f : Frame), s.delivers .mark ch f →
    let h := s.heard ch f
    let n := f.period
    let cause := Cause.mark f.source.toNat
    (s.time.accounting = .starting → exec (.mark ch f) s = .next (h.boundary none n cause))
    ∧ (s.time.accounting = .unconfigured → exec (.mark ch f) s = .next h)
    ∧ ∀ p, s.time.accounting = .accounting → s.openNumber = some p →
      (n = p → exec (.mark ch f) s = .next h.withdrawMark)
      ∧ (n = p + 1 → exec (.mark ch f) s = .next (h.boundary none n cause))
      ∧ (2 ≤ (n - p).toNat → (n - p).toNat ≤ 32767 →
          exec (.mark ch f) s = .next (h.boundary (some (n - p - 1).toNat) n cause))
      ∧ (32768 ≤ (n - p).toNat → exec (.mark ch f) s = .next
          { h with time := { s.time with stale := min 65535 (s.time.stale + 1) } })

/-- Boundary evidence of a taken record for period n: for the open period, the boundary a MARK(n+1) would make; for a newer one, a
jump that passes over n as well, but none when n+1 would be older; for an older one, none; in STARTING, the open of n+1 (R17, R18,
R21). -/
def Obligations.EvidenceMakesTheBoundary : Prop :=
  ∀ (s : State) (n : Period) (station : Nat),
    (s.openEntry = s.book.entries.find? (fun e => e.state == .opened) ∧ s.openNumber = s.openEntry.bind Entry.number)
    ∧ (s.time.accounting = .starting → s.evidence n station = s.boundary none (n + 1) (.evidence station))
    ∧ ∀ p, s.time.accounting = .accounting → s.openNumber = some p →
      (n = p → s.evidence n station = s.boundary none (n + 1) (.evidence station))
      ∧ (1 ≤ (n - p).toNat → (n - p).toNat ≤ 32766 →
          s.evidence n station = s.boundary (some (n - p).toNat) (n + 1) (.evidence station))
      ∧ (32767 ≤ (n - p).toNat → s.evidence n station = s)

/-! ### Tallies and allotments -/

/-- TALLY, delivered: the evidence first; then, for a period not held or newer than the open one, a late drop, which the late
counter counts and SERVICE shows; else the contributor's last basis takes the figure of the basis kind, and the tally enters a
SETTLING entry, which strikes when every contributor is RECEIVED, is ignored by a STRUCK entry whose item is RECEIVED, is dropped
as late at allotment revision 3, and below it revises the entry: the item is RECEIVED, E is divided anew (B, residue and furnace
SEC), the revision counts grow, SERVICE is set and the revised ALLOTMENT is handed over (R18, R74, R85, R87 to R92, R97, R102,
R103). That a newer period is late although an older entry still carries its number is the reading of R18 and R85 over R73's
lookup (log entry 28, DEDUCED); that an older one which a jump passed over is looked up all the same is the model's choice (log
entry 35). -/
def Obligations.TallyIsTakenAgainstItsEntry : Prop :=
  ∀ (s : State) (ch : Chan) (f : Frame) (c : Settings) (role : Role),
    s.delivers .tally ch f → s.settings = some c → c.role = role →
    let station := f.source.toNat
    let u := (s.heard ch f).evidence f.period station
    let field := fun i w : Nat => ((f.payload.drop i).take w).foldl (fun v b => v * 256 + b.toNat) 0
    let basis := match c.basis with
      | .mass => field 5 4
      | .good => field 13 4
      | .runtime => field 17 2
    let v := { u with contributors := u.contributors.map fun p =>
      if p.station = station then { p with last := some basis } else p }
    let sum := fun items : List ContributorItem =>
      ((items.filter fun i => i.state != .excluded).map ContributorItem.basis).sum
    let ahead := s.time.accounting = .accounting
      ∧ ∃ p, s.openNumber = some p ∧ 1 ≤ (f.period - p).toNat ∧ (f.period - p).toNat ≤ 32767
    (ahead ∨ u.held f.period = none → exec (.tally ch f) s = .next u.dropLate)
    ∧ (∀ (x : State) (k : Period) (e : Entry), x.held k = x.book.entries.find? (fun y => y.number == some k)
        ∧ x.putEntry e = { x with book := { x.book with
            entries := x.book.entries.map fun y => if y.number = e.number then e else y } })
    ∧ (∀ x : State, x.dropLate = { x with book := { x.book with late := min 65535 (x.book.late + 1) },
                                          link := { x.link with service := true }, alerts := x.dropLate.alerts })
    ∧ ∀ e p, ¬ahead → u.held f.period = some e → e.part = .apportioning p →
      let items := u.contributors.filterMap fun peer =>
        if peer.station = station then some { station := station, state := .received, basis := basis }
        else p.items.find? fun i => i.station == peer.station
      let taken := { e with part := .apportioning { p with items := items, b := sum items } }
      let complete := ∀ peer ∈ u.contributors, ∃ i ∈ items, i.station = peer.station ∧ i.state = .received
      (e.state = .settling → complete → exec (.tally ch f) s = .next ((v.putEntry taken).strike taken))
      ∧ (e.state = .settling → ¬complete → exec (.tally ch f) s = .next (v.putEntry taken))
      ∧ ∀ i, e.state = .struck → p.items.find? (fun i => i.station == station) = some i →
        (i.state = .received → exec (.tally ch f) s = .next v)
        ∧ (i.state ≠ .received → 3 ≤ p.revision → exec (.tally ch f) s = .next v.dropLate)
        ∧ (i.state ≠ .received → p.revision < 3 →
            let receive := fun x : ContributorItem => if x.station = station then { x with state := .received, basis := basis } else x
            let items := p.items.map receive
            let b := sum items
            let share := fun i : ContributorItem => if i.state = .excluded ∨ b = 0 then 0 else p.e * i.basis / b
            let revised : AllotPart :=
              { p with revision := p.revision + 1, items := items, b := b, residue := some (p.e - (items.map share).sum),
                       sec := if role = .furnace then specificEnergy p.e b else none }
            let shares := fun q : AllotPart => BitVec.ofNat 48 (q.e - q.residue.getD 0)
            let left := fun q : AllotPart => BitVec.ofNat 48 (q.residue.getD 0)
            let estimated := revised.items.any fun x => x.state == .estimated
            ∃ (w : State) (r : Entry), exec (.tally ch f) s = .next (w.handOver
                { kind := .allotment, revision := BitVec.ofNat 4 (p.revision + 1), destination := 31, period := f.period, tag := 0,
                  payload := allotmentPayload revised, estimated := estimated })
            ∧ w = { v with book := w.book, link := { v.link with service := true }, alerts := w.alerts }
            ∧ r = { e with
                revisions := min 15 (e.revisions + 1), part := .apportioning revised,
                flags := { e.flags with
                  revised := true, estimated := estimated, noBasis := revised.b == 0,
                  saturated := e.flags.saturated
                    || decide (role = .furnace ∧ 0 < revised.b ∧ 131071 * revised.b ≤ 20000 * p.e) } }
            ∧ w.book = { u.book with
                entries := u.book.entries.map fun x => if x.number = some f.period then r else x, allot := w.book.allot }
            ∧ w.book.allot = (if e.flags.preZero then u.book.allot else
                { u.book.allot with allotted := u.book.allot.allotted + (shares revised - shares p)
                                    undistributed := u.book.allot.undistributed + (left revised - left p)
                                    basis := u.book.allot.basis + (BitVec.ofNat 48 revised.b - BitVec.ofNat 48 p.b) }))

/-- The share a line works out from an allotment: by the first item that lists its own number, floor(E b / B), 0 when B is 0, 0
when no item lists it, and none at all when the listed basis is above B (R111). An item is five bytes from offset 12 on: the
station in bits 0 to 4 and the estimated indication in bit 7 of the first, then the basis (R188). -/
def Obligations.LineShareFollowsTheListedBasis : Prop :=
  ∀ (own : Nat) (f : Frame),
    let field := fun i w : Nat => ((f.payload.drop i).take w).foldl (fun v b => v * 256 + b.toNat) 0
    let e := field 0 4
    let b := field 5 6
    ((∀ i ∈ f.listed, i.1 ≠ own) → ∃ t, takenShare (some own) f = some t ∧ t.share = 0 ∧ t.figures.listed = none
      ∧ t.figures.e = e ∧ t.figures.b = b ∧ t.figures.revision = f.revision)
    ∧ ∀ before basis estimated after, f.listed = before ++ (own, basis, estimated) :: after → (∀ i ∈ before, i.1 ≠ own) →
      (b < basis → takenShare (some own) f = none)
      ∧ (basis ≤ b → ∃ t, takenShare (some own) f = some t ∧ t.share = (if b = 0 then 0 else e * basis / b)
          ∧ t.share ≤ e ∧ t.figures.listed = some (basis, estimated) ∧ t.figures.e = e ∧ t.figures.b = b
          ∧ t.figures.revision = f.revision)
    ∧ ∀ n, f.payload.length = 12 + 5 * n → f.listed = (List.range n).map fun k =>
        (field (12 + 5 * k) 1 % 32, field (13 + 5 * k) 4, decide (128 ≤ field (12 + 5 * k) 1))

/-- ALLOTMENT, delivered: the evidence first; then a late drop for a period not held or newer than the open one, a format error
for an inconsistent one, and against the item of its source: into an ABSENT item of a SETTLING entry, which strikes when every
item is RECEIVED; over a lower revision there without a revision of the entry; and a revision of a STRUCK entry by any allotment
into an item that is not RECEIVED and by a higher revision into one that is; every other is ignored (R18, R110 to R116, R119,
R124, R125). That a newer period is late although an older entry still carries its number is the reading of R18 and R110 over
R73's lookup (log entry 28, DEDUCED); that an older one which a jump passed over is looked up all the same is the model's choice
(log entry 35). -/
def Obligations.AllotmentIsTakenAgainstItsItem : Prop :=
  ∀ (s : State) (ch : Chan) (f : Frame), s.delivers .allotment ch f →
    let station := f.source.toNat
    let u := (s.heard ch f).evidence f.period station
    let ahead := s.time.accounting = .accounting
      ∧ ∃ p, s.openNumber = some p ∧ 1 ≤ (f.period - p).toNat ∧ (f.period - p).toNat ≤ 32767
    (ahead ∨ u.held f.period = none → exec (.allotment ch f) s = .next u.dropLate)
    ∧ ∀ e p, ¬ahead → u.held f.period = some e → e.part = .line p →
      (takenShare u.loader.own f = none → exec (.allotment ch f) s = .next
        { u with link := { u.link with formatErrors := min 65535 (u.link.formatErrors + 1) } })
      ∧ ∀ i share, takenShare u.loader.own f = some share → p.shares.find? (fun i => i.station == station) = some i →
        let item : ShareItem :=
          { station := station, state := .received, share := share.share, allotment := some share.figures }
        let shares := p.shares.map fun x => if x.station = station then item else x
        let taken := { e with part := .line { p with shares := shares } }
        let newer := ∀ a, i.allotment = some a → a.revision.toNat < f.revision.toNat
        (e.state = .settling → i.state ≠ .received → (∀ x ∈ shares, x.state = .received) →
            exec (.allotment ch f) s = .next ((u.putEntry taken).strike taken))
        ∧ (e.state = .settling → i.state ≠ .received → ¬(∀ x ∈ shares, x.state = .received) →
            exec (.allotment ch f) s = .next (u.putEntry taken))
        ∧ (e.state = .settling → i.state = .received → newer → exec (.allotment ch f) s = .next (u.putEntry taken))
        ∧ (e.state ≠ .opened → i.state = .received → ¬newer → exec (.allotment ch f) s = .next u)
        ∧ (e.state = .struck → (i.state ≠ .received ∨ newer) → ∃ t r line, exec (.allotment ch f) s = .next t
            ∧ t = { u with book := t.book, subscriptions := t.subscriptions, link := { u.link with service := true },
                           alerts := t.alerts }
            ∧ line = { eLine := (e.carriers.map Prod.snd).sum + (shares.map ShareItem.share).sum,
                       secGood := specificEnergy line.eLine p.good, secPull := specificEnergy line.eLine p.pull }
            ∧ r = { e with
                revisions := min 15 (e.revisions + 1),
                part := .line { p with shares := shares, result := some line },
                flags := { e.flags with
                  revised := true, estimated := shares.any (fun x => x.state != .received), excluded := r.flags.excluded,
                  saturated := e.flags.saturated
                    || specificEnergySaturates line.eLine p.good
                    || specificEnergySaturates line.eLine p.pull } }
            ∧ (r.flags.excluded = true ↔ ∃ x ∈ shares, x.state = .received ∧ ∀ a, x.allotment = some a → a.listed = none)
            ∧ t.subscriptions = u.subscriptions.map (fun x =>
                if x.station = station then { x with last := some share.share } else x)
            ∧ t.book = { u.book with
                entries := u.book.entries.map fun x => if x.number = some f.period then r else x, line := t.book.line }
            ∧ (e.flags.preZero = true → t.book.line = u.book.line)
            ∧ (e.flags.preZero = false → t.book.line =
                let figure := fun b : Bool => if b then (1 : Total) else 0
                { u.book.line with
                    shares := u.book.line.shares.map fun x =>
                      if x.1 = station then (x.1, x.2 + (BitVec.ofNat 48 share.share - BitVec.ofNat 48 i.share)) else x
                    eLine := u.book.line.eLine + (BitVec.ofNat 48 line.eLine
                      - BitVec.ofNat 48 ((p.result.map LineResult.eLine).getD 0))
                    estimated := u.book.line.estimated + (figure r.flags.estimated - figure e.flags.estimated) }))

/-! ### Strikes -/

/-- WAIT_TIMER_EXPIRY in a LINE at T2 strikes the entry. The strike of a LINE entry, whatever its cause: items not RECEIVED take
the last share as ESTIMATED, or stay ABSENT with 0; E_line is the exact sum; the SECs stand where their mass is above 0; ESTIMATED
and EXCLUDED are given anew, SATURATED also by a SEC past its limit. Unless PRE-ZERO, the energy total of each carrier, the share
total of each station and the other totals grow by the entry's figures, the counts only by a numbered entry. Last shares come from
RECEIVED items; STARTING clears at a numbered strike; no other entry and nothing else of the book changes. The lead-in, which has
no share, strikes likewise (R70 to R72, R75, R117 to R122). -/
def Obligations.LineStrikesWhenItsWaitEnds : Prop :=
  (∀ (s : State) (c : Settings) (n : Period) (e : Entry),
    s.settings = some c → c.role = .line → s.held n = some e → e.state = .settling → c.t2 ≤ e.timer.getD 0 →
    exec (.waitTimerExpiry n) s = .next (s.strike e))
  ∧ ∀ (s : State) (e : Entry) (p : LinePart), e.state ≠ .struck → e.part = .line p →
    let shares := p.shares.map fun i =>
      if i.state = .received then i
      else match (s.subscriptions.find? fun x => x.station == i.station).bind Peer.last with
        | some x => { station := i.station, state := .estimated, share := x, allotment := none }
        | none => { station := i.station, state := .absent, share := 0, allotment := none }
    let eLine := (e.carriers.map Prod.snd).sum + (shares.map ShareItem.share).sum
    let estimated := shares.any fun i => i.state != .received
    let count := fun b : Bool => if b then (1 : Total) else 0
    let energy := fun k : Carrier => ((e.carriers.filter fun x => x.1 = k).map Prod.snd).sum
    let share := fun station : Nat => ((shares.filter fun i => i.station = station).map ShareItem.share).sum
    let used := fun station : Nat => shares.reverse.find? fun i => i.station = station ∧ i.state = .received
    let add := fun (total : Total) (figure : Nat) => total + BitVec.ofNat 48 figure
    let t := s.strike e
    ∃ r : Entry,
      r = { e with state := .struck, timer := none,
                   flags := { e.flags with
                     estimated := estimated, excluded := r.flags.excluded,
                     saturated := e.flags.saturated || specificEnergySaturates eLine p.good
                       || specificEnergySaturates eLine p.pull },
                   part := .line { p with
                     shares := shares,
                     result := some { eLine := eLine, secGood := specificEnergy eLine p.good,
                                      secPull := specificEnergy eLine p.pull } } }
      ∧ (r.flags.excluded = true ↔ ∃ i ∈ shares, i.state = .received ∧ ∀ a, i.allotment = some a → a.listed = none)
      ∧ t = { s with book := t.book,
                     subscriptions := s.subscriptions.map fun x => match used x.station with
                       | some i => { x with last := some i.share }
                       | none => x,
                     time := { s.time with starting := s.time.starting && e.number.isNone }, alerts := t.alerts }
      ∧ t.book = { s.book with
          entries := s.book.entries.map fun x => if x.number = e.number then r else x,
          line := if e.flags.preZero then s.book.line else
            { s.book.line with
              energy := { gas := add s.book.line.energy.gas (energy .gas),
                          electric := add s.book.line.energy.electric (energy .electric),
                          oxygen := add s.book.line.energy.oxygen (energy .oxygen),
                          air := add s.book.line.energy.air (energy .air),
                          other := add s.book.line.energy.other (energy .other) },
              shares := s.book.line.shares.map fun x => (x.1, add x.2 (share x.1)),
              eLine := add s.book.line.eLine eLine, pull := add s.book.line.pull p.pull,
              reject := add s.book.line.reject p.reject, good := add s.book.line.good p.good,
              runSeconds := add s.book.line.runSeconds p.runSeconds,
              struck := s.book.line.struck + count e.number.isSome,
              estimated := s.book.line.estimated + count (e.number.isSome && estimated) } }
      ∧ t.alerts.estimatedStrike = (s.alerts.estimatedStrike || estimated)
      ∧ (∀ n, e.number = some n → (s.held n).isSome = true → t.held n = some r)
      ∧ (∀ n, e.number ≠ some n → t.held n = s.held n)

/-- WAIT_TIMER_EXPIRY in an apportioning station at T1 strikes the entry. The strike of a numbered entry, whatever its cause:
contributors not RECEIVED are ESTIMATED with their last basis, or EXCLUDED with 0; B is the sum over the listed ones, the residue
what the shares leave of E; a FURNACE SEC past 65,535 gives SATURATED, and every other figure of the entry stays; the totals grow
unless PRE-ZERO; and the ALLOTMENT with the entry's revision is handed over, with no item for an empty table. The lead-in has no
item, no SEC and no allotment, and its whole E is residue, measured and undistributed (R70 to R72, R76, R93 to R100). -/
def Obligations.ApportioningEntryStrikesWhenItsWaitEnds : Prop :=
  (∀ (s : State) (c : Settings) (n : Period) (e : Entry),
    s.settings = some c → c.role ≠ .line → s.held n = some e → e.state = .settling → c.t1 ≤ e.timer.getD 0 →
    exec (.waitTimerExpiry n) s = .next (s.strike e))
  ∧ (∀ (s : State) (c : Settings) (n : Period) (e : Entry) (p : AllotPart),
    s.settings = some c → s.held n = some e → e.state ≠ .struck → e.part = .apportioning p →
    let items := s.contributors.map fun peer =>
      match p.items.find? fun i => i.station == peer.station && i.state == .received with
      | some i => i
      | none => match peer.last with
        | some b => { station := peer.station, state := .estimated, basis := b }
        | none => { station := peer.station, state := .excluded, basis := 0 }
    let listed := items.filter fun i => i.state != .excluded
    let b := (listed.map ContributorItem.basis).sum
    let residue := p.e - (listed.map fun i => if b = 0 then 0 else p.e * i.basis / b).sum
    let estimated := items.any fun i => i.state == .estimated
    let struck : AllotPart :=
      { p with items := items, b := b, residue := some residue,
               sec := if c.role = .furnace then specificEnergy p.e b else none }
    ∃ (u : State) (r : Entry), s.strike e
        = u.handOver { kind := .allotment, revision := BitVec.ofNat 4 p.revision, destination := 31, period := n, tag := 0,
                       payload := allotmentPayload struck, estimated := estimated }
      ∧ u = { s with book := { s.book with
                       entries := s.book.entries.map fun x => if x.number = some n then r else x, allot := u.book.allot },
                     time := { s.time with starting := false }, alerts := u.alerts }
      ∧ r = { e with
          state := .struck, timer := none, part := .apportioning struck,
          flags := { e.flags with
            estimated := estimated, noBasis := b == 0,
            saturated := e.flags.saturated || decide (c.role = .furnace ∧ 0 < b ∧ 131071 * b ≤ 20000 * p.e) } }
      ∧ (e.flags.preZero = true → u.book.allot = s.book.allot)
      ∧ (e.flags.preZero = false → u.book.allot.measured = s.book.allot.measured + BitVec.ofNat 48 p.e
          ∧ u.book.allot.allotted = s.book.allot.allotted + BitVec.ofNat 48 (p.e - residue)
          ∧ u.book.allot.undistributed = s.book.allot.undistributed + BitVec.ofNat 48 residue
          ∧ u.book.allot.basis = s.book.allot.basis + BitVec.ofNat 48 b
          ∧ u.book.allot.struck = s.book.allot.struck + 1)
      ∧ u.alerts.estimatedStrike = (s.alerts.estimatedStrike || estimated))
  ∧ ∀ (s : State) (e : Entry) (p : AllotPart),
    e.number = none → e.state ≠ .struck → e.part = .apportioning p → p.items = [] → p.b = 0 → p.residue = none →
    e.flags.estimated = false →
    ∃ t, s.strike e = t
      ∧ t = { s with book := t.book, alerts := t.alerts }
      ∧ t.book = { s.book with
          entries := s.book.entries.map fun x => if x.number = none
            then { e with state := .struck, timer := none, part := .apportioning { p with residue := some p.e } } else x,
          allot := if e.flags.preZero then s.book.allot else
            { s.book.allot with measured := s.book.allot.measured + BitVec.ofNat 48 p.e,
                                undistributed := s.book.allot.undistributed + BitVec.ofNat 48 p.e } }
      ∧ t.alerts.estimatedStrike = s.alerts.estimatedStrike

/-! ### Queries and orders -/

/-- QUERY_RESULT and QUERY_LATEST, delivered to a configured station: the query is counted, and one ANSWER goes back to its source
with its tag and part: the requested part of the struck entry, PENDING with the state code, or NOT-HELD; LATEST finds the newest
struck entry (R153, R155, R156, R167, R188). The part of an entry is laid out field by field as R189 gives: the common fields and
the figures of the role in part 0, the share list in part 1 of a LINE entry, whose part 2 is empty, and the contributor items,
eight to a part with their shares, in parts 1 and 2 of an apportioning entry (R154, R157, R187, R189; the presence bits of a share
item: log entry 18). -/
def Obligations.BookQueriesAreAnswered : Prop :=
  (∀ (s : State) (ch : Chan) (f : Frame), s.time.accounting ≠ .unconfigured →
    let h := s.heard ch f
    let q := { h with requests := { h.requests with queries := min 65535 (s.requests.queries + 1) } }
    let answer := fun (period : Period) (payload : List Byte) (estimated : Bool) =>
      ({ kind := .answer, revision := f.revision, destination := f.source, period := period, tag := f.tag, payload := payload,
         estimated := estimated } : Record)
    (s.delivers .queryResult ch f →
      (s.held f.period = none → exec (.queryResult ch f) s = .next (q.handOver (answer f.period [2, 1] false)))
      ∧ ∀ e, s.held f.period = some e →
        (e.state = .struck → exec (.queryResult ch f) s = .next
          (q.handOver (answer f.period ([1, 1] ++ entryBody e f.revision.toNat) e.flags.estimated)))
        ∧ (e.state = .settling → exec (.queryResult ch f) s = .next (q.handOver (answer f.period [3, 1, 2] false)))
        ∧ (e.state = .opened → exec (.queryResult ch f) s = .next (q.handOver (answer f.period [3, 1, 1] false))))
    ∧ (s.delivers .queryLatest ch f →
      ((∀ e ∈ s.book.entries, e.state ≠ .struck) →
        exec (.queryLatest ch f) s = .next (q.handOver (answer f.period [2, 2] false)))
      ∧ ∀ older e newer, s.book.entries = older ++ e :: newer → e.state = .struck → (∀ x ∈ newer, x.state ≠ .struck) →
        exec (.queryLatest ch f) s = .next
          (q.handOver (answer (e.number.getD f.period) ([1, 2] ++ entryBody e f.revision.toNat) e.flags.estimated))))
  ∧ (∀ (e : Entry) (p : LinePart), e.part = .line p →
    let r := p.result.getD { eLine := 0, secGood := none, secPull := none }
    laidOut (entryBody e 0) (entryRows e ++
        [(4, p.pull), (4, p.reject), (4, p.good), (2, p.runSeconds), (4, p.cuts), (5, r.eLine), (2, r.secGood.getD 0),
          (2, r.secPull.getD 0), (1, bitsNumber [r.secGood.isSome, r.secPull.isSome])])
      ∧ laidOut (entryBody e 1) (countedRows p.shares fun i =>
        let listed := i.allotment.bind AllotmentFigures.listed
        [(1, i.station), (1, match i.state with | .absent => 1 | .estimated => 2 | .received => 3),
          (1, bitsNumber [i.allotment.isSome, listed.isSome, listed.map Prod.snd == some true]),
          (1, (i.allotment.map fun a => a.revision.toNat).getD 0), (4, i.share),
          (4, (i.allotment.map AllotmentFigures.e).getD 0), (6, (i.allotment.map AllotmentFigures.b).getD 0),
          (1, (i.allotment.map fun a => basisNumber a.basis).getD 0), (4, (listed.map Prod.fst).getD 0)])
      ∧ laidOut (entryBody e 2) [(1, 0)])
  ∧ ∀ (e : Entry) (p : AllotPart), e.part = .apportioning p →
    let count := fun k : ItemState => (p.items.filter fun i => i.state = k).length
    let item := fun i : ContributorItem =>
      [(1, i.station), (1, match i.state with | .received => 1 | .estimated => 2 | .excluded => 3), (4, i.basis),
        (4, if i.state = .excluded ∨ p.b = 0 then 0 else p.e * i.basis / p.b)]
    laidOut (entryBody e 0) (entryRows e ++
        [(4, p.e), (1, basisNumber p.basis), (6, p.b), (1, p.revision), (4, p.residue.getD 0), (1, count .received),
          (1, count .estimated), (1, count .excluded), (2, p.sec.getD 0), (1, bitsNumber [p.sec.isSome])])
      ∧ laidOut (entryBody e 1) (countedRows (p.items.take 8) item)
      ∧ laidOut (entryBody e 2) (countedRows (p.items.drop 8) item)

/-- QUERY_CAMPAIGN and QUERY_CHANNELS, delivered to a configured station, are counted and answered ANSWERED with their body;
QUERY_CONDITION is answered in every station, with the requested part made before SERVICE is cleared, which happens exactly when
the answer enters the queue; the rest of the link is as the handover of the answer leaves it (R150, R153, R158 to R161, R167).
That the body shows the counter with this query already counted is the model's reading (log entry 20, DEDUCED). Each body is laid
out field by field: the campaign totals with their SECs (R77, R189), the four parts of CONDITION, the four channels of each part
of CHANNELS; what an UNCONFIGURED station and an unconfigured channel send is the model's choice (log entry 21). -/
def Obligations.StationQueriesAreAnswered : Prop :=
  (∀ (s : State) (ch : Chan) (f : Frame),
    let h := s.heard ch f
    let q := { h with requests := { h.requests with queries := min 65535 (s.requests.queries + 1) } }
    let answer := fun (code : Byte) (body : List Byte) =>
      ({ kind := .answer, revision := f.revision, destination := f.source, period := f.period, tag := f.tag,
         payload := [1, code] ++ body, estimated := false } : Record)
    (s.delivers .queryCampaign ch f → s.time.accounting ≠ .unconfigured →
      exec (.queryCampaign ch f) s = .next (q.handOver (answer 3 q.campaignBody)))
    ∧ (s.delivers .queryChannels ch f → s.time.accounting ≠ .unconfigured →
      exec (.queryChannels ch f) s = .next (q.handOver (answer 5 (q.channelsBody f.revision.toNat))))
    ∧ (s.delivers .queryCondition ch f →
      let u := q.handOver (answer 4 (q.conditionBody f.revision.toNat))
      ∃ t, exec (.queryCondition ch f) s = .next t
        ∧ t = { q with link := t.link, alerts := t.alerts }
        ∧ t.link = (if u.link.queue.length = s.link.queue.length + 1 then { u.link with service := false } else u.link)))
  -- the bodies
  ∧ (∀ (s : State) (c : Settings), s.settings = some c →
    let sec := fun energy mass : Nat => (2, (specificEnergy energy mass).getD 0)
    let passes := fun energy mass : Nat => decide (0 < mass ∧ 131071 * mass ≤ 20000 * energy)
    (c.role = .line →
      let t := s.book.line
      laidOut s.campaignBody (
        [(6, t.energy.gas.toNat), (6, t.energy.electric.toNat), (6, t.energy.oxygen.toNat), (6, t.energy.air.toNat),
            (6, t.energy.other.toNat)]
          ++ countedRows t.shares (fun x => [(1, x.1), (6, x.2.toNat)])
          ++ [(6, t.eLine.toNat), (6, t.pull.toNat), (6, t.reject.toNat), (6, t.good.toNat), (6, t.runSeconds.toNat),
            (6, t.struck.toNat), (6, t.estimated.toNat), (6, t.skipped.toNat), sec t.eLine.toNat t.good.toNat,
            sec t.eLine.toNat t.pull.toNat,
            (1, bitsNumber [s.book.zeroPending, decide (0 < t.good.toNat), decide (0 < t.pull.toNat),
              passes t.eLine.toNat t.good.toNat, passes t.eLine.toNat t.pull.toNat])]))
    ∧ (c.role ≠ .line →
      let t := s.book.allot
      let divisor := if c.role = .furnace then t.basis.toNat else 0
      laidOut s.campaignBody
        [(1, basisNumber c.basis), (6, t.measured.toNat), (6, t.allotted.toNat), (6, t.undistributed.toNat), (6, t.basis.toNat),
          (6, t.struck.toNat), sec t.measured.toNat divisor,
          (1, bitsNumber [s.book.zeroPending, decide (0 < divisor), passes t.measured.toNat divisor])]))
  ∧ (∀ s : State,
    let number := fun o : Option Nat => o.getD 0
    let tag := (s.settings.map Settings.tag).getD [0, 0, 0, 0, 0, 0]
    let refusal := s.requests.lastRefusal
    let figures := [s.time.stale, s.time.skipped, s.book.late, s.requests.queries, s.requests.accepted, s.requests.refused,
      s.requests.unknown]
    laidOut (s.conditionBody 0) (
      [(1, match s.time.accounting with | .loading => 1 | .unconfigured => 2 | .starting => 3 | .accounting => 4),
          (1, match s.settings.map Settings.role with
            | none => 0 | some .line => 1 | some .furnace => 2 | some .pool => 3),
          (1, number s.loader.own),
          (1, bitsNumber [s.loader.source == .image,
            decide (s.loader.own = none ∨ (s.link.a.state = .inhibited ∧ s.link.b.state = .inhibited)), s.openNumber.isSome, refusal.isSome,
            refusal.map LastRefusal.order == some true]),
          (1, bitsNumber [s.link.service, s.time.gap, s.link.a.state != .active || s.link.b.state != .active, s.loader.clamped,
            s.time.timebase, false, s.meterCondition, s.time.starting]), (2, number (s.openNumber.map BitVec.toNat)),
          (1, match s.time.source with | .internal => 1 | .external => 2 | .fallback => 3), (1, s.book.entries.length),
          (1, (s.book.entries.filter fun e => e.state = .settling).length), (tag.length, ofBytes tag), (2, s.bank.job.gob),
          (1, s.bank.job.perCut)]
        ++ figures.map (fun n => (2, n))
        ++ [(1, number (refusal.map fun x => x.code.toNat)), (1, number (refusal.map fun x => x.source.toNat)),
          (1, number (refusal.map fun x => x.tag.toNat)),
          (1, number (refusal.map fun x => match x.outcome with
            | .answered => 1 | .notHeld => 2 | .pending => 3 | .notReady => 4 | .unknown => 5 | .accepted => 6
            | .refusedCode => 7 | .refusedRole => 8 | .refusedRange => 9 | .refusedState => 10)),
          (1, 0)])
    ∧ (let channel : LinkChannel → List (Nat × Nat) := fun k =>
        [(1, (match k.state with | .active => 1 | .failed => 2 | .inhibited => 3) + if k.probe then 128 else 0),
          (1, k.echoFaults)]
      let role := fun i : Fin 8 => match s.settings.map fun c => c.lines[i].role with
        | none | some .unused => 0
        | some .energy => 1 | some .cut => 2 | some .reject => 3 | some .running => 4 | some .fault => 5 | some .second => 6
      laidOut (s.conditionBody 1) (channel s.link.a ++ channel s.link.b
        ++ [s.link.a.errors, s.link.b.errors, s.link.formatErrors, s.link.overflow, s.link.unsent].map (fun n => (2, n))
        ++ (List.finRange 8).map fun i => (1, role i + if s.inputs[i].level = .high then 128 else 0)))
    ∧ (let configured := (List.finRange 8).filter fun m =>
        (s.settings.map fun c => c.meters[m].isSome).getD false
      laidOut (s.conditionBody 2) (
        countedRows configured (fun m =>
          let e : MeterEntry := s.meter.entries[m]
          [(1, m.val + 1), (1, (match e.state with | .noReference => 1 | .active => 2 | .failed => 3)
            + (if e.reference.isSome then 64 else 0) + if e.alarm then 128 else 0), (1, e.miss), (2, e.rounds),
            (4, number e.reference)])
        ++ [s.meter.overruns, s.meter.failedPolls, s.meter.discontinuities].map (fun n => (2, n))))
    ∧ (let peer := fun x : Peer =>
        [(1, x.station % 32 + if x.last.isSome then 128 else 0), (4, number x.last)]
      laidOut (s.conditionBody 3) (match s.settings with
        | none => [(1, 0), (1, 0)]
        | some c => if c.role = .line then (1, 0) :: countedRows s.subscriptions peer
            else (1, basisNumber c.basis) :: countedRows s.contributors peer)))
  ∧ ∀ s : State,
    let channel := fun i : Fin 8 => match s.settings.bind fun c => c.channels[i] with
      | none => [(1, 0), (1, 0), (8, 0), (5, 0), (8, 0)]
      | some setup =>
        [(1, match setup.carrier with | .gas => 1 | .electric => 2 | .oxygen => 3 | .air => 4 | .other => 5),
          (1, match setup.source with | .line i => i.val + 1 | .meter m => m.val + 9),
          (8, s.bank.channels[i].credited.toNat), (5, s.bank.channels[i].held), (8, s.bank.channels[i].counted.toNat)]
    laidOut (s.channelsBody 0) (([0, 1, 2, 3] : List (Fin 8)).flatMap channel)
      ∧ laidOut (s.channelsBody 1) (([4, 5, 6, 7] : List (Fin 8)).flatMap channel)

/-- A request the station cannot answer. UNKNOWN_REQUEST in a configured station: answered UNKNOWN (an order to 31 is not), the
unknown counter grows, the last refusal is recorded, SERVICE stays. In an UNCONFIGURED station every query but CONDITION is
NOT-READY, counted and recorded without an answer, and every order is REFUSED-STATE, which sets SERVICE (R154, R161, R162, R165,
R166). -/
def Obligations.UnanswerableRequestsAreRecorded : Prop :=
  ∀ (s : State) (ch : Chan) (f : Frame),
    let h := s.heard ch f
    let code := f.payload.getD 0 0
    let refusal := fun (order : Bool) (outcome : RequestOutcome) =>
      (some { order := order, code := code, source := f.source, tag := f.tag, outcome := outcome } : Option LastRefusal)
    let answer : Record :=
      { kind := .answer, revision := if f.kind = 5 then 0 else f.revision, destination := f.source, period := f.period,
        tag := f.tag, payload := [5, code], estimated := false }
    let more := min 65535 (s.requests.unknown + 1)
    (s.delivers .unknown ch f → s.time.accounting ≠ .unconfigured → f.kind = 4 →
      exec (.unknownRequest ch f) s = .next (State.handOver
        { h with requests := { h.requests with queries := min 65535 (s.requests.queries + 1), unknown := more,
                                               lastRefusal := refusal false .unknown } } answer))
    ∧ (s.delivers .unknown ch f → s.time.accounting ≠ .unconfigured → f.kind = 5 →
      let u := { h with requests := { h.requests with unknown := more, lastRefusal := refusal true .unknown } }
      exec (.unknownRequest ch f) s = .next (if f.destination = 31 then u else u.handOver answer))
    ∧ (s.time.accounting = .unconfigured →
      ∀ row ∈ [FrameRow.queryResult, .queryLatest, .queryCampaign, .queryChannels, .unknown],
      f.kind = 4 → s.delivers row ch f →
        exec (frameCommand row ch f) s = .next
          { h with requests := { h.requests with queries := min 65535 (s.requests.queries + 1), unknown := more,
                                                 lastRefusal := refusal false .notReady } })
    ∧ (s.time.accounting = .unconfigured → s.settings = none →
      ∀ row ∈ [FrameRow.unknown, .orderZero, .orderJob], f.kind = 5 → s.delivers row ch f →
      ∃ t, exec (frameCommand row ch f) s = .next t
        ∧ t = { h with requests := t.requests, link := { h.link with service := true }, alerts := t.alerts }
        ∧ t.requests = { s.requests with refused := min 65535 (s.requests.refused + 1),
                                         lastRefusal := refusal true .refusedState })

/-- ORDER_ZERO with the image's authorization number sets zero-pending and is counted; its answer, to an order not addressed to
31, says whether zero-pending was set before. With another number it is REFUSED-CODE: counted, recorded, SERVICE set, answered,
and no state of the book changes (R80, R162, R163, R165, R166). At the next open the pending zero boundary sets every campaign
total, the reject-excess carry and the skipped-periods counter to 0 and clears GAP; every entry then held gets PRE-ZERO, the new
one does not, and zero-pending clears (R41, R80, R81). -/
def Obligations.ZeroOrderIsHeldForTheNextOpen : Prop :=
  (∀ (s : State) (ch : Chan) (f : Frame) (c : Settings), s.delivers .orderZero ch f → s.settings = some c →
    let h := s.heard ch f
    let answer := fun payload : List Byte =>
      ({ kind := .answer, revision := 0, destination := f.source, period := f.period, tag := f.tag, payload := payload,
         estimated := false } : Record)
    let number := ((f.payload.drop 1).take 2).foldl (fun v b => v * 256 + b.toNat) 0
    (number = c.authorization →
      let u := { h with requests := { h.requests with accepted := min 65535 (s.requests.accepted + 1) },
                        book := { s.book with zeroPending := true } }
      exec (.orderZero ch f) s = .next
        (if f.destination = 31 then u else u.handOver (answer [6, 1, if s.book.zeroPending then 1 else 0])))
    ∧ (number ≠ c.authorization →
      ∃ t u, exec (.orderZero ch f) s = .next t ∧ t = (if f.destination = 31 then u else u.handOver (answer [7, 1]))
        ∧ u = { h with requests := u.requests, link := { h.link with service := true }, alerts := u.alerts }
        ∧ u.requests = { s.requests with
            refused := min 65535 (s.requests.refused + 1),
            lastRefusal := some { order := true, code := 1, source := f.source, tag := f.tag, outcome := .refusedCode } }))
  ∧ ∀ (s : State) (c : Settings) (passed : Option Nat) (n : Period) (cause : Cause),
    s.settings = some c → s.book.zeroPending = true →
    let t := s.boundary passed n cause
    ∃ older new, t.book.entries = older ++ [new] ∧ new.number = some n ∧ new.flags.preZero = false
      ∧ (∀ x ∈ older, x.flags.preZero = true)
      ∧ t.book.line = { energy := ⟨0, 0, 0, 0, 0⟩, shares := s.subscriptions.map fun peer => (peer.station, 0), eLine := 0,
                        pull := 0, reject := 0, good := 0, runSeconds := 0, struck := 0, estimated := 0, skipped := 0 }
      ∧ t.book.allot = { measured := 0, allotted := 0, undistributed := 0, basis := 0, struck := 0 }
      ∧ t.book.zeroPending = false ∧ t.bank.carry = 0 ∧ t.time.skipped = 0 ∧ t.time.gap = false

/-- ORDER_JOB with the image's authorization number, in range, to a LINE replaces the current job, flags the open entry JOB-CHANGE
and is counted and answered with the job; else the first test that fails, authorization before role before range, gives the
refusal: counted, recorded, SERVICE set, answered, the job as it was (R39, R162, R164, R165, R166). -/
def Obligations.JobOrderReplacesTheJob : Prop :=
  ∀ (s : State) (ch : Chan) (f : Frame) (c : Settings), s.delivers .orderJob ch f → s.settings = some c →
    let h := s.heard ch f
    let word := fun i : Nat => ((f.payload.drop i).take 2).foldl (fun v b => v * 256 + b.toNat) 0
    let gob := word 3
    let perCut := (f.payload.getD 5 0).toNat
    let inRange := 1 ≤ gob ∧ 1 ≤ perCut ∧ perCut ≤ 4
    let answer := fun payload : List Byte =>
      ({ kind := .answer, revision := 0, destination := f.source, period := f.period, tag := f.tag, payload := payload,
         estimated := false } : Record)
    (word 1 = c.authorization → c.role = .line → inRange →
      let u := { h with requests := { h.requests with accepted := min 65535 (s.requests.accepted + 1) },
                        bank := { s.bank with job := { gob := gob, perCut := perCut } },
                        book := { s.book with entries := flagOpenedIf True (fun flags => { flags with jobChange := true }) s.book.entries } }
      exec (.orderJob ch f) s = .next (if f.destination = 31 then u
        else u.handOver (answer [6, 2, BitVec.ofNat 8 (gob / 256), BitVec.ofNat 8 gob, BitVec.ofNat 8 perCut])))
    ∧ ∀ (outcome : RequestOutcome) (number : Byte),
      ((word 1 ≠ c.authorization ∧ outcome = .refusedCode ∧ number = 7)
        ∨ (word 1 = c.authorization ∧ c.role ≠ .line ∧ outcome = .refusedRole ∧ number = 8)
        ∨ (word 1 = c.authorization ∧ c.role = .line ∧ ¬inRange ∧ outcome = .refusedRange ∧ number = 9)) →
      ∃ t u, exec (.orderJob ch f) s = .next t
        ∧ t = (if f.destination = 31 then u else u.handOver (answer [number, 2]))
        ∧ u = { h with requests := u.requests, link := { h.link with service := true }, alerts := u.alerts }
        ∧ u.requests = { s.requests with
            refused := min 65535 (s.requests.refused + 1),
            lastRefusal := some { order := true, code := 2, source := f.source, tag := f.tag, outcome := outcome } }

/-! ### The divisions -/

/-- When B is above 0 the shares of the listed contributors sum to no more than E and fall short of it by less than the number of
listed contributors; when B is 0 no contributor receives a share (R94, R95, R96). -/
def Obligations.SharesFallShortByLessThanTheirNumber : Prop :=
  ∀ (e : Nat) (items : List ContributorItem),
    (0 < basisTotal items → distributed e items ≤ e ∧ e - distributed e items < (listedItems items).length)
    ∧ (basisTotal items = 0 → distributed e items = 0)

/-- A specific energy consumption is the exact quotient 10,000 E / mass rounded half up, held at 65,535, absent for a mass of 0
(R97, R121): the value q before holding is the one with mass (2q - 1) at most 20,000 E, which is below mass (2q + 1). It passes
the limit, for SATURATED, exactly when q is at least 65,536. -/
def Obligations.SpecificEnergyIsRoundedHalfUp : Prop :=
  ∀ energy mass : Nat,
    (mass = 0 → specificEnergy energy mass = none)
    ∧ (0 < mass → ∃ q, specificEnergy energy mass = some (min 65535 q) ∧ mass * (2 * q) ≤ 20000 * energy + mass
        ∧ 20000 * energy < mass * (2 * q + 1))
    ∧ (specificEnergySaturates energy mass = true ↔ 0 < mass ∧ 131071 * mass ≤ 20000 * energy)

/-- At a close no glass is lost: good plus the period's reject plus the old carry is pull plus the new carry, and either good or
the new carry is 0, for every excess that 64 bits hold (R40, R41). This is R40's operation; its closing sentence gives the carry
the other sign (log entry 31). -/
def Obligations.CloseConservesGlass : Prop :=
  ∀ pull reject carry : Nat, reject + carry ≤ pull + (2 ^ 64 - 1) →
    goodMass pull reject carry + (reject + carry) = pull + nextCarry pull reject carry
      ∧ (goodMass pull reject carry = 0 ∨ nextCarry pull reject carry = 0)

/-- A line's share equals the share the apportioning station counted for it: in the ALLOTMENT that an entry hands over, every
listed contributor finds its own station number and works out floor(E b / B) from the bytes, which hold E, the basis kind, B and
an item for each listed contributor, with the estimated indication in bit 7 (R94, R100, R111, R187, R188). -/
def Obligations.LineShareEqualsTheCountedShare : Prop :=
  (∀ p : AllotPart, (∀ x ∈ p.items, x.station ≤ 30) → laidOut (allotmentPayload p) (
      [(4, p.e), (1, basisNumber p.basis), (6, p.b)]
        ++ countedRows (p.items.filter fun x => x.state != .excluded) fun x =>
          [(1, x.station + if x.state = .estimated then 128 else 0), (4, x.basis)]))
  ∧ ∀ (p : AllotPart) (i : ContributorItem) (f : Frame),
    p.e < 2 ^ 32 → p.b = basisTotal p.items → p.items.length ≤ 16 →
    (∀ x ∈ p.items, 1 ≤ x.station ∧ x.station ≤ 30 ∧ x.basis < 2 ^ 32) → (p.items.map ContributorItem.station).Nodup →
    f.payload = allotmentPayload p → i ∈ p.items → i.state ≠ .excluded →
    ∃ t, takenShare (some i.station) f = some t ∧ t.share = shareOf p.e i.basis p.b ∧ t.figures.e = p.e ∧ t.figures.b = p.b
      ∧ t.figures.basis = p.basis ∧ t.figures.listed = some (i.basis, i.state == .estimated)

/-- The TALLY that a LINE entry hands over carries its figures: its bytes are kind, measurement flags, duration, pull, reject,
good, run seconds, cut count and the carrier items, each in its field; every basis kind reads its figure from them; and the frame
passes the format test from any station of the link (R84, R108, R145, R187, R188, R190). -/
def Obligations.TallyBytesCarryTheFigures : Prop :=
  ∀ (e : Entry) (p : LinePart) (f : Frame),
    f.kind = 2 → f.revision = 0 → f.destination = 31 → 1 ≤ f.source.toNat → f.source.toNat ≤ 30 →
    f.payload = tallyPayload e p → e.kind ≠ .leadIn → e.carriers.length ≤ 5 →
    p.pull < 2 ^ 32 → p.good < 2 ^ 32 → p.runSeconds < 2 ^ 16 →
    f.formatOk = true ∧ f.row = .tally ∧ tallyBasis .mass f = p.pull ∧ tallyBasis .good f = p.good
      ∧ tallyBasis .runtime f = p.runSeconds
      ∧ laidOut f.payload (
        [(1, match e.kind with | .leadIn => 1 | .regular => 2 | .irregular => 3),
            (2, bitsNumber [e.flags.meterFault, e.flags.catchUp, e.flags.discontinuity, false, false, false, false,
              e.flags.jobChange, e.flags.saturated, e.flags.timebase]),
            (2, e.duration), (4, p.pull), (4, p.reject), (4, p.good), (2, p.runSeconds), (4, p.cuts), (1, e.carriers.length)]
          ++ carrierRows e.carriers)

/-- The completing tally and the wait timer in either order: for a SETTLING entry that lacks one contributor's tally, taking the
tally and then the timer, or the timer and then the tally, leaves the same campaign totals (R71, R79). -/
def Obligations.TallyAndTimerOrderLeavesTheSameTotals : Prop :=
  ∀ (s : State) (f : Frame) (c : Settings) (e : Entry) (p : AllotPart),
    s.settings = some c → c.role ≠ .line → s.held f.period = some e → e.state = .settling → e.part = .apportioning p →
    p.revision < 3 → f.source.toNat ∈ s.contributors.map Peer.station →
    (∀ i ∈ p.items, i.station ≠ f.source.toNat ∧ i.state = .received) →
    (∀ peer ∈ s.contributors, peer.station ≠ f.source.toNat → ∃ i ∈ p.items, i.station = peer.station) →
    (s.tallyToBook f).book.allot = ((s.strike e).tallyToBook f).book.allot

/-- The completing allotment and the wait timer in either order: for a SETTLING LINE entry that lacks one station's allotment,
both orders leave the same campaign totals (R71, R126). -/
def Obligations.AllotmentAndTimerOrderLeavesTheSameTotals : Prop :=
  ∀ (s : State) (f : Frame) (e : Entry) (p : LinePart) (i : ShareItem) (share : TakenShare),
    s.held f.period = some e → e.state = .settling → e.part = .line p → (p.shares.map ShareItem.station).Nodup →
    takenShare s.loader.own f = some share → i ∈ p.shares → i.station = f.source.toNat → i.state ≠ .received →
    (∀ x ∈ p.shares, x.station ≠ i.station → x.state = .received) →
    (s.allotmentToBook f).book.line = ((s.strike e).allotmentToBook f).book.line

/-! ### Invariants -/

/-- Every invariant below holds right after reset. -/
def Obligations.ResetMeetsTheInvariants : Prop :=
  State.reset.channelsBalance ∧ State.reset.allotBalance ∧ State.reset.lineBalance ∧ State.reset.bookFormed
    ∧ State.reset.link.formed ∧ State.reset.metersFormed ∧ State.reset.countersHold ∧ State.reset.alertsFollow

/-- Every step keeps the channel relation: counted equals sixteen times credited plus held, in 64 bits, for every channel (R35). -/
def Obligations.StepKeepsTheChannelRelation : Prop :=
  ∀ s t : State, s.channelsBalance → step s = .next t → t.channelsBalance

/-- Every step keeps measured Wh equal to allotted plus undistributed Wh, in 48 bits (R76, R77). -/
def Obligations.StepKeepsMeasuredEqualAllottedPlusUndistributed : Prop :=
  ∀ s t : State, s.allotBalance → step s = .next t → t.allotBalance

/-- Every step keeps the E_line total equal to the sum of the energy totals and the share totals, in 48 bits (R75, R77). -/
def Obligations.StepKeepsTheLineTotalRelation : Prop :=
  ∀ s t : State, s.lineBalance → step s = .next t → t.lineBalance

/-- Every step keeps the form of the book and its fit to the accounting state (R2, R61, R62, R64). -/
def Obligations.StepKeepsTheBookFormed : Prop :=
  ∀ s t : State, s.bookFormed → step s = .next t → t.bookFormed

/-- Every step keeps the link controller's form: at most 8 records and one MARK in the queue, each owed to a channel, echo-fault
counts that fit the channel states, and at most 16 distinct recent identities (R135, R141, R146). -/
def Obligations.StepKeepsTheLinkFormed : Prop :=
  ∀ s t : State, s.link.formed → step s = .next t → t.link.formed

/-- Every step keeps every meter entry within R47: FAILED exactly at three misses, references below their modulus (R47, R56). -/
def Obligations.StepKeepsTheMetersFormed : Prop :=
  ∀ s t : State, s.metersFormed → step s = .next t → t.metersFormed

/-- Every step keeps every station counter within 0 to 65,535 (R15, R16, R58, R74, R151, R167). -/
def Obligations.StepKeepsTheCountersWithinRange : Prop :=
  ∀ s t : State, s.countersHold → step s = .next t → t.countersHold
end

