-- ==== Sys2Proof/Laws/State.lean ====
section
/-! SUPPORT. Which blocks each update of the state leaves as they are: one lemma for each block that an update does not touch. -/

namespace Sys2Proof.Machine

open Sys2Proof

/-! `putEntry` -/

@[simp] theorem State.putEntry_loader (s : State) (e : Entry) : (s.putEntry e).loader = s.loader := rfl
@[simp] theorem State.putEntry_settings (s : State) (e : Entry) : (s.putEntry e).settings = s.settings := rfl
@[simp] theorem State.putEntry_time (s : State) (e : Entry) : (s.putEntry e).time = s.time := rfl
@[simp] theorem State.putEntry_inputs (s : State) (e : Entry) : (s.putEntry e).inputs = s.inputs := rfl
@[simp] theorem State.putEntry_bank (s : State) (e : Entry) : (s.putEntry e).bank = s.bank := rfl
@[simp] theorem State.putEntry_meter (s : State) (e : Entry) : (s.putEntry e).meter = s.meter := rfl
@[simp] theorem State.putEntry_contributors (s : State) (e : Entry) : (s.putEntry e).contributors = s.contributors := rfl
@[simp] theorem State.putEntry_subscriptions (s : State) (e : Entry) : (s.putEntry e).subscriptions = s.subscriptions := rfl
@[simp] theorem State.putEntry_link (s : State) (e : Entry) : (s.putEntry e).link = s.link := rfl
@[simp] theorem State.putEntry_requests (s : State) (e : Entry) : (s.putEntry e).requests = s.requests := rfl
@[simp] theorem State.putEntry_alerts (s : State) (e : Entry) : (s.putEntry e).alerts = s.alerts := rfl
@[simp] theorem State.putEntry_pending (s : State) (e : Entry) : (s.putEntry e).pending = s.pending := rfl

/-! `flagOpen` -/

@[simp] theorem State.flagOpen_loader (s : State) (f : EntryFlags → EntryFlags) : (s.flagOpen f).loader = s.loader := rfl
@[simp] theorem State.flagOpen_settings (s : State) (f : EntryFlags → EntryFlags) : (s.flagOpen f).settings = s.settings := rfl
@[simp] theorem State.flagOpen_time (s : State) (f : EntryFlags → EntryFlags) : (s.flagOpen f).time = s.time := rfl
@[simp] theorem State.flagOpen_inputs (s : State) (f : EntryFlags → EntryFlags) : (s.flagOpen f).inputs = s.inputs := rfl
@[simp] theorem State.flagOpen_bank (s : State) (f : EntryFlags → EntryFlags) : (s.flagOpen f).bank = s.bank := rfl
@[simp] theorem State.flagOpen_meter (s : State) (f : EntryFlags → EntryFlags) : (s.flagOpen f).meter = s.meter := rfl
@[simp] theorem State.flagOpen_contributors (s : State) (f : EntryFlags → EntryFlags) : (s.flagOpen f).contributors = s.contributors := rfl
@[simp] theorem State.flagOpen_subscriptions (s : State) (f : EntryFlags → EntryFlags) : (s.flagOpen f).subscriptions = s.subscriptions := rfl
@[simp] theorem State.flagOpen_link (s : State) (f : EntryFlags → EntryFlags) : (s.flagOpen f).link = s.link := rfl
@[simp] theorem State.flagOpen_requests (s : State) (f : EntryFlags → EntryFlags) : (s.flagOpen f).requests = s.requests := rfl
@[simp] theorem State.flagOpen_alerts (s : State) (f : EntryFlags → EntryFlags) : (s.flagOpen f).alerts = s.alerts := rfl
@[simp] theorem State.flagOpen_pending (s : State) (f : EntryFlags → EntryFlags) : (s.flagOpen f).pending = s.pending := rfl

/-! `refreshAlerts` -/

@[simp] theorem State.refreshAlerts_loader (s : State) : s.refreshAlerts.loader = s.loader := rfl
@[simp] theorem State.refreshAlerts_settings (s : State) : s.refreshAlerts.settings = s.settings := rfl
@[simp] theorem State.refreshAlerts_time (s : State) : s.refreshAlerts.time = s.time := rfl
@[simp] theorem State.refreshAlerts_inputs (s : State) : s.refreshAlerts.inputs = s.inputs := rfl
@[simp] theorem State.refreshAlerts_bank (s : State) : s.refreshAlerts.bank = s.bank := rfl
@[simp] theorem State.refreshAlerts_meter (s : State) : s.refreshAlerts.meter = s.meter := rfl
@[simp] theorem State.refreshAlerts_book (s : State) : s.refreshAlerts.book = s.book := rfl
@[simp] theorem State.refreshAlerts_contributors (s : State) : s.refreshAlerts.contributors = s.contributors := rfl
@[simp] theorem State.refreshAlerts_subscriptions (s : State) : s.refreshAlerts.subscriptions = s.subscriptions := rfl
@[simp] theorem State.refreshAlerts_link (s : State) : s.refreshAlerts.link = s.link := rfl
@[simp] theorem State.refreshAlerts_requests (s : State) : s.refreshAlerts.requests = s.requests := rfl
@[simp] theorem State.refreshAlerts_pending (s : State) : s.refreshAlerts.pending = s.pending := rfl

/-! `setService` -/

@[simp] theorem State.setService_loader (s : State) : s.setService.loader = s.loader := rfl
@[simp] theorem State.setService_settings (s : State) : s.setService.settings = s.settings := rfl
@[simp] theorem State.setService_time (s : State) : s.setService.time = s.time := rfl
@[simp] theorem State.setService_inputs (s : State) : s.setService.inputs = s.inputs := rfl
@[simp] theorem State.setService_bank (s : State) : s.setService.bank = s.bank := rfl
@[simp] theorem State.setService_meter (s : State) : s.setService.meter = s.meter := rfl
@[simp] theorem State.setService_book (s : State) : s.setService.book = s.book := rfl
@[simp] theorem State.setService_contributors (s : State) : s.setService.contributors = s.contributors := rfl
@[simp] theorem State.setService_subscriptions (s : State) : s.setService.subscriptions = s.subscriptions := rfl
@[simp] theorem State.setService_requests (s : State) : s.setService.requests = s.requests := rfl
@[simp] theorem State.setService_pending (s : State) : s.setService.pending = s.pending := rfl

/-! `clearService` -/

@[simp] theorem State.clearService_loader (s : State) : s.clearService.loader = s.loader := rfl
@[simp] theorem State.clearService_settings (s : State) : s.clearService.settings = s.settings := rfl
@[simp] theorem State.clearService_time (s : State) : s.clearService.time = s.time := rfl
@[simp] theorem State.clearService_inputs (s : State) : s.clearService.inputs = s.inputs := rfl
@[simp] theorem State.clearService_bank (s : State) : s.clearService.bank = s.bank := rfl
@[simp] theorem State.clearService_meter (s : State) : s.clearService.meter = s.meter := rfl
@[simp] theorem State.clearService_book (s : State) : s.clearService.book = s.book := rfl
@[simp] theorem State.clearService_contributors (s : State) : s.clearService.contributors = s.contributors := rfl
@[simp] theorem State.clearService_subscriptions (s : State) : s.clearService.subscriptions = s.subscriptions := rfl
@[simp] theorem State.clearService_requests (s : State) : s.clearService.requests = s.requests := rfl
@[simp] theorem State.clearService_pending (s : State) : s.clearService.pending = s.pending := rfl

/-! `dropLate` -/

@[simp] theorem State.dropLate_loader (s : State) : s.dropLate.loader = s.loader := rfl
@[simp] theorem State.dropLate_settings (s : State) : s.dropLate.settings = s.settings := rfl
@[simp] theorem State.dropLate_time (s : State) : s.dropLate.time = s.time := rfl
@[simp] theorem State.dropLate_inputs (s : State) : s.dropLate.inputs = s.inputs := rfl
@[simp] theorem State.dropLate_bank (s : State) : s.dropLate.bank = s.bank := rfl
@[simp] theorem State.dropLate_meter (s : State) : s.dropLate.meter = s.meter := rfl
@[simp] theorem State.dropLate_contributors (s : State) : s.dropLate.contributors = s.contributors := rfl
@[simp] theorem State.dropLate_subscriptions (s : State) : s.dropLate.subscriptions = s.subscriptions := rfl
@[simp] theorem State.dropLate_requests (s : State) : s.dropLate.requests = s.requests := rfl
@[simp] theorem State.dropLate_pending (s : State) : s.dropLate.pending = s.pending := rfl

/-! `setLevel` -/

@[simp] theorem State.setLevel_loader (s : State) (i : Fin 8) (edge : Edge) : (s.setLevel i edge).loader = s.loader := rfl
@[simp] theorem State.setLevel_settings (s : State) (i : Fin 8) (edge : Edge) : (s.setLevel i edge).settings = s.settings := rfl
@[simp] theorem State.setLevel_time (s : State) (i : Fin 8) (edge : Edge) : (s.setLevel i edge).time = s.time := rfl
@[simp] theorem State.setLevel_bank (s : State) (i : Fin 8) (edge : Edge) : (s.setLevel i edge).bank = s.bank := rfl
@[simp] theorem State.setLevel_meter (s : State) (i : Fin 8) (edge : Edge) : (s.setLevel i edge).meter = s.meter := rfl
@[simp] theorem State.setLevel_book (s : State) (i : Fin 8) (edge : Edge) : (s.setLevel i edge).book = s.book := rfl
@[simp] theorem State.setLevel_contributors (s : State) (i : Fin 8) (edge : Edge) : (s.setLevel i edge).contributors = s.contributors := rfl
@[simp] theorem State.setLevel_subscriptions (s : State) (i : Fin 8) (edge : Edge) : (s.setLevel i edge).subscriptions = s.subscriptions := rfl
@[simp] theorem State.setLevel_link (s : State) (i : Fin 8) (edge : Edge) : (s.setLevel i edge).link = s.link := rfl
@[simp] theorem State.setLevel_requests (s : State) (i : Fin 8) (edge : Edge) : (s.setLevel i edge).requests = s.requests := rfl
@[simp] theorem State.setLevel_alerts (s : State) (i : Fin 8) (edge : Edge) : (s.setLevel i edge).alerts = s.alerts := rfl
@[simp] theorem State.setLevel_pending (s : State) (i : Fin 8) (edge : Edge) : (s.setLevel i edge).pending = s.pending := rfl

/-! `withdrawMark` -/

@[simp] theorem State.withdrawMark_loader (s : State) : s.withdrawMark.loader = s.loader := rfl
@[simp] theorem State.withdrawMark_settings (s : State) : s.withdrawMark.settings = s.settings := rfl
@[simp] theorem State.withdrawMark_time (s : State) : s.withdrawMark.time = s.time := rfl
@[simp] theorem State.withdrawMark_inputs (s : State) : s.withdrawMark.inputs = s.inputs := rfl
@[simp] theorem State.withdrawMark_bank (s : State) : s.withdrawMark.bank = s.bank := rfl
@[simp] theorem State.withdrawMark_meter (s : State) : s.withdrawMark.meter = s.meter := rfl
@[simp] theorem State.withdrawMark_book (s : State) : s.withdrawMark.book = s.book := rfl
@[simp] theorem State.withdrawMark_contributors (s : State) : s.withdrawMark.contributors = s.contributors := rfl
@[simp] theorem State.withdrawMark_subscriptions (s : State) : s.withdrawMark.subscriptions = s.subscriptions := rfl
@[simp] theorem State.withdrawMark_requests (s : State) : s.withdrawMark.requests = s.requests := rfl
@[simp] theorem State.withdrawMark_alerts (s : State) : s.withdrawMark.alerts = s.alerts := rfl
@[simp] theorem State.withdrawMark_pending (s : State) : s.withdrawMark.pending = s.pending := rfl

/-! `afterStrike` -/

@[simp] theorem State.afterStrike_loader (s : State) (e : Entry) : (s.afterStrike e).loader = s.loader := rfl
@[simp] theorem State.afterStrike_settings (s : State) (e : Entry) : (s.afterStrike e).settings = s.settings := rfl
@[simp] theorem State.afterStrike_inputs (s : State) (e : Entry) : (s.afterStrike e).inputs = s.inputs := rfl
@[simp] theorem State.afterStrike_bank (s : State) (e : Entry) : (s.afterStrike e).bank = s.bank := rfl
@[simp] theorem State.afterStrike_meter (s : State) (e : Entry) : (s.afterStrike e).meter = s.meter := rfl
@[simp] theorem State.afterStrike_contributors (s : State) (e : Entry) : (s.afterStrike e).contributors = s.contributors := rfl
@[simp] theorem State.afterStrike_subscriptions (s : State) (e : Entry) : (s.afterStrike e).subscriptions = s.subscriptions := rfl
@[simp] theorem State.afterStrike_link (s : State) (e : Entry) : (s.afterStrike e).link = s.link := rfl
@[simp] theorem State.afterStrike_requests (s : State) (e : Entry) : (s.afterStrike e).requests = s.requests := rfl
@[simp] theorem State.afterStrike_pending (s : State) (e : Entry) : (s.afterStrike e).pending = s.pending := rfl

/-! `strikeLine` -/

@[simp] theorem State.strikeLine_loader (s : State) (e : Entry) (p : LinePart) : (s.strikeLine e p).loader = s.loader := rfl
@[simp] theorem State.strikeLine_settings (s : State) (e : Entry) (p : LinePart) : (s.strikeLine e p).settings = s.settings := rfl
@[simp] theorem State.strikeLine_inputs (s : State) (e : Entry) (p : LinePart) : (s.strikeLine e p).inputs = s.inputs := rfl
@[simp] theorem State.strikeLine_bank (s : State) (e : Entry) (p : LinePart) : (s.strikeLine e p).bank = s.bank := rfl
@[simp] theorem State.strikeLine_meter (s : State) (e : Entry) (p : LinePart) : (s.strikeLine e p).meter = s.meter := rfl
@[simp] theorem State.strikeLine_contributors (s : State) (e : Entry) (p : LinePart) : (s.strikeLine e p).contributors = s.contributors := rfl
@[simp] theorem State.strikeLine_link (s : State) (e : Entry) (p : LinePart) : (s.strikeLine e p).link = s.link := rfl
@[simp] theorem State.strikeLine_requests (s : State) (e : Entry) (p : LinePart) : (s.strikeLine e p).requests = s.requests := rfl
@[simp] theorem State.strikeLine_pending (s : State) (e : Entry) (p : LinePart) : (s.strikeLine e p).pending = s.pending := rfl

/-! `strikeLeadIn` -/

@[simp] theorem State.strikeLeadIn_loader (s : State) (e : Entry) (p : AllotPart) : (s.strikeLeadIn e p).loader = s.loader := rfl
@[simp] theorem State.strikeLeadIn_settings (s : State) (e : Entry) (p : AllotPart) : (s.strikeLeadIn e p).settings = s.settings := rfl
@[simp] theorem State.strikeLeadIn_inputs (s : State) (e : Entry) (p : AllotPart) : (s.strikeLeadIn e p).inputs = s.inputs := rfl
@[simp] theorem State.strikeLeadIn_bank (s : State) (e : Entry) (p : AllotPart) : (s.strikeLeadIn e p).bank = s.bank := rfl
@[simp] theorem State.strikeLeadIn_meter (s : State) (e : Entry) (p : AllotPart) : (s.strikeLeadIn e p).meter = s.meter := rfl
@[simp] theorem State.strikeLeadIn_contributors (s : State) (e : Entry) (p : AllotPart) : (s.strikeLeadIn e p).contributors = s.contributors := rfl
@[simp] theorem State.strikeLeadIn_subscriptions (s : State) (e : Entry) (p : AllotPart) : (s.strikeLeadIn e p).subscriptions = s.subscriptions := rfl
@[simp] theorem State.strikeLeadIn_link (s : State) (e : Entry) (p : AllotPart) : (s.strikeLeadIn e p).link = s.link := rfl
@[simp] theorem State.strikeLeadIn_requests (s : State) (e : Entry) (p : AllotPart) : (s.strikeLeadIn e p).requests = s.requests := rfl
@[simp] theorem State.strikeLeadIn_pending (s : State) (e : Entry) (p : AllotPart) : (s.strikeLeadIn e p).pending = s.pending := rfl

/-! `reviseLine` -/

@[simp] theorem State.reviseLine_loader (s : State) (e : Entry) (p : LinePart) (old : ShareItem) (x : TakenShare) : (s.reviseLine e p old x).loader = s.loader := rfl
@[simp] theorem State.reviseLine_settings (s : State) (e : Entry) (p : LinePart) (old : ShareItem) (x : TakenShare) : (s.reviseLine e p old x).settings = s.settings := rfl
@[simp] theorem State.reviseLine_time (s : State) (e : Entry) (p : LinePart) (old : ShareItem) (x : TakenShare) : (s.reviseLine e p old x).time = s.time := rfl
@[simp] theorem State.reviseLine_inputs (s : State) (e : Entry) (p : LinePart) (old : ShareItem) (x : TakenShare) : (s.reviseLine e p old x).inputs = s.inputs := rfl
@[simp] theorem State.reviseLine_bank (s : State) (e : Entry) (p : LinePart) (old : ShareItem) (x : TakenShare) : (s.reviseLine e p old x).bank = s.bank := rfl
@[simp] theorem State.reviseLine_meter (s : State) (e : Entry) (p : LinePart) (old : ShareItem) (x : TakenShare) : (s.reviseLine e p old x).meter = s.meter := rfl
@[simp] theorem State.reviseLine_contributors (s : State) (e : Entry) (p : LinePart) (old : ShareItem) (x : TakenShare) : (s.reviseLine e p old x).contributors = s.contributors := rfl
@[simp] theorem State.reviseLine_requests (s : State) (e : Entry) (p : LinePart) (old : ShareItem) (x : TakenShare) : (s.reviseLine e p old x).requests = s.requests := rfl
@[simp] theorem State.reviseLine_pending (s : State) (e : Entry) (p : LinePart) (old : ShareItem) (x : TakenShare) : (s.reviseLine e p old x).pending = s.pending := rfl

/-! `fixFigures` -/

@[simp] theorem State.fixFigures_loader (s : State) (c : Settings) (closed : Entry) : (s.fixFigures c closed).loader = s.loader := rfl
@[simp] theorem State.fixFigures_settings (s : State) (c : Settings) (closed : Entry) : (s.fixFigures c closed).settings = s.settings := rfl
@[simp] theorem State.fixFigures_time (s : State) (c : Settings) (closed : Entry) : (s.fixFigures c closed).time = s.time := rfl
@[simp] theorem State.fixFigures_inputs (s : State) (c : Settings) (closed : Entry) : (s.fixFigures c closed).inputs = s.inputs := rfl
@[simp] theorem State.fixFigures_contributors (s : State) (c : Settings) (closed : Entry) : (s.fixFigures c closed).contributors = s.contributors := rfl
@[simp] theorem State.fixFigures_subscriptions (s : State) (c : Settings) (closed : Entry) : (s.fixFigures c closed).subscriptions = s.subscriptions := rfl
@[simp] theorem State.fixFigures_link (s : State) (c : Settings) (closed : Entry) : (s.fixFigures c closed).link = s.link := rfl
@[simp] theorem State.fixFigures_requests (s : State) (c : Settings) (closed : Entry) : (s.fixFigures c closed).requests = s.requests := rfl
@[simp] theorem State.fixFigures_pending (s : State) (c : Settings) (closed : Entry) : (s.fixFigures c closed).pending = s.pending := rfl

/-! `zeroBoundary` -/

@[simp] theorem State.zeroBoundary_loader (s : State) : s.zeroBoundary.loader = s.loader := rfl
@[simp] theorem State.zeroBoundary_settings (s : State) : s.zeroBoundary.settings = s.settings := rfl
@[simp] theorem State.zeroBoundary_inputs (s : State) : s.zeroBoundary.inputs = s.inputs := rfl
@[simp] theorem State.zeroBoundary_meter (s : State) : s.zeroBoundary.meter = s.meter := rfl
@[simp] theorem State.zeroBoundary_contributors (s : State) : s.zeroBoundary.contributors = s.contributors := rfl
@[simp] theorem State.zeroBoundary_subscriptions (s : State) : s.zeroBoundary.subscriptions = s.subscriptions := rfl
@[simp] theorem State.zeroBoundary_link (s : State) : s.zeroBoundary.link = s.link := rfl
@[simp] theorem State.zeroBoundary_requests (s : State) : s.zeroBoundary.requests = s.requests := rfl
@[simp] theorem State.zeroBoundary_pending (s : State) : s.zeroBoundary.pending = s.pending := rfl

/-! `recordJump` -/

@[simp] theorem State.recordJump_loader (s : State) (passed : Nat) : (s.recordJump passed).loader = s.loader := rfl
@[simp] theorem State.recordJump_settings (s : State) (passed : Nat) : (s.recordJump passed).settings = s.settings := rfl
@[simp] theorem State.recordJump_inputs (s : State) (passed : Nat) : (s.recordJump passed).inputs = s.inputs := rfl
@[simp] theorem State.recordJump_bank (s : State) (passed : Nat) : (s.recordJump passed).bank = s.bank := rfl
@[simp] theorem State.recordJump_meter (s : State) (passed : Nat) : (s.recordJump passed).meter = s.meter := rfl
@[simp] theorem State.recordJump_contributors (s : State) (passed : Nat) : (s.recordJump passed).contributors = s.contributors := rfl
@[simp] theorem State.recordJump_subscriptions (s : State) (passed : Nat) : (s.recordJump passed).subscriptions = s.subscriptions := rfl
@[simp] theorem State.recordJump_link (s : State) (passed : Nat) : (s.recordJump passed).link = s.link := rfl
@[simp] theorem State.recordJump_requests (s : State) (passed : Nat) : (s.recordJump passed).requests = s.requests := rfl
@[simp] theorem State.recordJump_pending (s : State) (passed : Nat) : (s.recordJump passed).pending = s.pending := rfl

/-! `restartSeconds` -/

@[simp] theorem State.restartSeconds_loader (s : State) : s.restartSeconds.loader = s.loader := rfl
@[simp] theorem State.restartSeconds_settings (s : State) : s.restartSeconds.settings = s.settings := rfl
@[simp] theorem State.restartSeconds_inputs (s : State) : s.restartSeconds.inputs = s.inputs := rfl
@[simp] theorem State.restartSeconds_bank (s : State) : s.restartSeconds.bank = s.bank := rfl
@[simp] theorem State.restartSeconds_meter (s : State) : s.restartSeconds.meter = s.meter := rfl
@[simp] theorem State.restartSeconds_book (s : State) : s.restartSeconds.book = s.book := rfl
@[simp] theorem State.restartSeconds_contributors (s : State) : s.restartSeconds.contributors = s.contributors := rfl
@[simp] theorem State.restartSeconds_subscriptions (s : State) : s.restartSeconds.subscriptions = s.subscriptions := rfl
@[simp] theorem State.restartSeconds_link (s : State) : s.restartSeconds.link = s.link := rfl
@[simp] theorem State.restartSeconds_requests (s : State) : s.restartSeconds.requests = s.requests := rfl
@[simp] theorem State.restartSeconds_alerts (s : State) : s.restartSeconds.alerts = s.alerts := rfl
@[simp] theorem State.restartSeconds_pending (s : State) : s.restartSeconds.pending = s.pending := rfl

/-! `pollFrom` -/

@[simp] theorem State.pollFrom_loader (s : State) (c : Settings) (place : Nat) : (s.pollFrom c place).loader = s.loader := rfl
@[simp] theorem State.pollFrom_settings (s : State) (c : Settings) (place : Nat) : (s.pollFrom c place).settings = s.settings := rfl
@[simp] theorem State.pollFrom_time (s : State) (c : Settings) (place : Nat) : (s.pollFrom c place).time = s.time := rfl
@[simp] theorem State.pollFrom_inputs (s : State) (c : Settings) (place : Nat) : (s.pollFrom c place).inputs = s.inputs := rfl
@[simp] theorem State.pollFrom_bank (s : State) (c : Settings) (place : Nat) : (s.pollFrom c place).bank = s.bank := rfl
@[simp] theorem State.pollFrom_book (s : State) (c : Settings) (place : Nat) : (s.pollFrom c place).book = s.book := rfl
@[simp] theorem State.pollFrom_contributors (s : State) (c : Settings) (place : Nat) : (s.pollFrom c place).contributors = s.contributors := rfl
@[simp] theorem State.pollFrom_subscriptions (s : State) (c : Settings) (place : Nat) : (s.pollFrom c place).subscriptions = s.subscriptions := rfl
@[simp] theorem State.pollFrom_link (s : State) (c : Settings) (place : Nat) : (s.pollFrom c place).link = s.link := rfl
@[simp] theorem State.pollFrom_requests (s : State) (c : Settings) (place : Nat) : (s.pollFrom c place).requests = s.requests := rfl
@[simp] theorem State.pollFrom_alerts (s : State) (c : Settings) (place : Nat) : (s.pollFrom c place).alerts = s.alerts := rfl
@[simp] theorem State.pollFrom_pending (s : State) (c : Settings) (place : Nat) : (s.pollFrom c place).pending = s.pending := rfl

/-! `setMeter` -/

@[simp] theorem State.setMeter_loader (s : State) (m : Fin 8) (e : MeterEntry) : (s.setMeter m e).loader = s.loader := rfl
@[simp] theorem State.setMeter_settings (s : State) (m : Fin 8) (e : MeterEntry) : (s.setMeter m e).settings = s.settings := rfl
@[simp] theorem State.setMeter_time (s : State) (m : Fin 8) (e : MeterEntry) : (s.setMeter m e).time = s.time := rfl
@[simp] theorem State.setMeter_inputs (s : State) (m : Fin 8) (e : MeterEntry) : (s.setMeter m e).inputs = s.inputs := rfl
@[simp] theorem State.setMeter_bank (s : State) (m : Fin 8) (e : MeterEntry) : (s.setMeter m e).bank = s.bank := rfl
@[simp] theorem State.setMeter_book (s : State) (m : Fin 8) (e : MeterEntry) : (s.setMeter m e).book = s.book := rfl
@[simp] theorem State.setMeter_contributors (s : State) (m : Fin 8) (e : MeterEntry) : (s.setMeter m e).contributors = s.contributors := rfl
@[simp] theorem State.setMeter_subscriptions (s : State) (m : Fin 8) (e : MeterEntry) : (s.setMeter m e).subscriptions = s.subscriptions := rfl
@[simp] theorem State.setMeter_link (s : State) (m : Fin 8) (e : MeterEntry) : (s.setMeter m e).link = s.link := rfl
@[simp] theorem State.setMeter_requests (s : State) (m : Fin 8) (e : MeterEntry) : (s.setMeter m e).requests = s.requests := rfl
@[simp] theorem State.setMeter_alerts (s : State) (m : Fin 8) (e : MeterEntry) : (s.setMeter m e).alerts = s.alerts := rfl
@[simp] theorem State.setMeter_pending (s : State) (m : Fin 8) (e : MeterEntry) : (s.setMeter m e).pending = s.pending := rfl

/-! `meterQuiet` -/

@[simp] theorem State.meterQuiet_loader (s : State) (elapsed : Nat) : (s.meterQuiet elapsed).loader = s.loader := rfl
@[simp] theorem State.meterQuiet_settings (s : State) (elapsed : Nat) : (s.meterQuiet elapsed).settings = s.settings := rfl
@[simp] theorem State.meterQuiet_time (s : State) (elapsed : Nat) : (s.meterQuiet elapsed).time = s.time := rfl
@[simp] theorem State.meterQuiet_inputs (s : State) (elapsed : Nat) : (s.meterQuiet elapsed).inputs = s.inputs := rfl
@[simp] theorem State.meterQuiet_bank (s : State) (elapsed : Nat) : (s.meterQuiet elapsed).bank = s.bank := rfl
@[simp] theorem State.meterQuiet_book (s : State) (elapsed : Nat) : (s.meterQuiet elapsed).book = s.book := rfl
@[simp] theorem State.meterQuiet_contributors (s : State) (elapsed : Nat) : (s.meterQuiet elapsed).contributors = s.contributors := rfl
@[simp] theorem State.meterQuiet_subscriptions (s : State) (elapsed : Nat) : (s.meterQuiet elapsed).subscriptions = s.subscriptions := rfl
@[simp] theorem State.meterQuiet_link (s : State) (elapsed : Nat) : (s.meterQuiet elapsed).link = s.link := rfl
@[simp] theorem State.meterQuiet_requests (s : State) (elapsed : Nat) : (s.meterQuiet elapsed).requests = s.requests := rfl
@[simp] theorem State.meterQuiet_alerts (s : State) (elapsed : Nat) : (s.meterQuiet elapsed).alerts = s.alerts := rfl
@[simp] theorem State.meterQuiet_pending (s : State) (elapsed : Nat) : (s.meterQuiet elapsed).pending = s.pending := rfl

/-! `byteStarted`, `byteArrived`, `toExternal` -/

@[simp] theorem State.byteStarted_loader (s : State) (ago : Nat) : (s.byteStarted ago).loader = s.loader := rfl
@[simp] theorem State.byteStarted_settings (s : State) (ago : Nat) : (s.byteStarted ago).settings = s.settings := rfl
@[simp] theorem State.byteStarted_time (s : State) (ago : Nat) : (s.byteStarted ago).time = s.time := rfl
@[simp] theorem State.byteStarted_inputs (s : State) (ago : Nat) : (s.byteStarted ago).inputs = s.inputs := rfl
@[simp] theorem State.byteStarted_bank (s : State) (ago : Nat) : (s.byteStarted ago).bank = s.bank := rfl
@[simp] theorem State.byteStarted_book (s : State) (ago : Nat) : (s.byteStarted ago).book = s.book := rfl
@[simp] theorem State.byteStarted_contributors (s : State) (ago : Nat) : (s.byteStarted ago).contributors = s.contributors := rfl
@[simp] theorem State.byteStarted_subscriptions (s : State) (ago : Nat) : (s.byteStarted ago).subscriptions = s.subscriptions := rfl
@[simp] theorem State.byteStarted_link (s : State) (ago : Nat) : (s.byteStarted ago).link = s.link := rfl
@[simp] theorem State.byteStarted_requests (s : State) (ago : Nat) : (s.byteStarted ago).requests = s.requests := rfl
@[simp] theorem State.byteStarted_alerts (s : State) (ago : Nat) : (s.byteStarted ago).alerts = s.alerts := rfl
@[simp] theorem State.byteStarted_pending (s : State) (ago : Nat) : (s.byteStarted ago).pending = s.pending := rfl
@[simp] theorem State.byteArrived_loader (s : State) : s.byteArrived.loader = s.loader := rfl
@[simp] theorem State.byteArrived_settings (s : State) : s.byteArrived.settings = s.settings := rfl
@[simp] theorem State.byteArrived_time (s : State) : s.byteArrived.time = s.time := rfl
@[simp] theorem State.byteArrived_inputs (s : State) : s.byteArrived.inputs = s.inputs := rfl
@[simp] theorem State.byteArrived_bank (s : State) : s.byteArrived.bank = s.bank := rfl
@[simp] theorem State.byteArrived_book (s : State) : s.byteArrived.book = s.book := rfl
@[simp] theorem State.byteArrived_contributors (s : State) : s.byteArrived.contributors = s.contributors := rfl
@[simp] theorem State.byteArrived_subscriptions (s : State) : s.byteArrived.subscriptions = s.subscriptions := rfl
@[simp] theorem State.byteArrived_link (s : State) : s.byteArrived.link = s.link := rfl
@[simp] theorem State.byteArrived_requests (s : State) : s.byteArrived.requests = s.requests := rfl
@[simp] theorem State.byteArrived_alerts (s : State) : s.byteArrived.alerts = s.alerts := rfl
@[simp] theorem State.byteArrived_pending (s : State) : s.byteArrived.pending = s.pending := rfl
@[simp] theorem State.toExternal_loader (s : State) : s.toExternal.loader = s.loader := rfl
@[simp] theorem State.toExternal_settings (s : State) : s.toExternal.settings = s.settings := rfl
@[simp] theorem State.toExternal_inputs (s : State) : s.toExternal.inputs = s.inputs := rfl
@[simp] theorem State.toExternal_bank (s : State) : s.toExternal.bank = s.bank := rfl
@[simp] theorem State.toExternal_meter (s : State) : s.toExternal.meter = s.meter := rfl
@[simp] theorem State.toExternal_book (s : State) : s.toExternal.book = s.book := rfl
@[simp] theorem State.toExternal_contributors (s : State) : s.toExternal.contributors = s.contributors := rfl
@[simp] theorem State.toExternal_subscriptions (s : State) : s.toExternal.subscriptions = s.subscriptions := rfl
@[simp] theorem State.toExternal_link (s : State) : s.toExternal.link = s.link := rfl
@[simp] theorem State.toExternal_requests (s : State) : s.toExternal.requests = s.requests := rfl
@[simp] theorem State.toExternal_alerts (s : State) : s.toExternal.alerts = s.alerts := rfl
@[simp] theorem State.toExternal_pending (s : State) : s.toExternal.pending = s.pending := rfl

/-! `countSecond` -/

@[simp] theorem State.countSecond_loader (s : State) (c : Settings) : (s.countSecond c).loader = s.loader := rfl
@[simp] theorem State.countSecond_settings (s : State) (c : Settings) : (s.countSecond c).settings = s.settings := rfl
@[simp] theorem State.countSecond_inputs (s : State) (c : Settings) : (s.countSecond c).inputs = s.inputs := rfl
@[simp] theorem State.countSecond_meter (s : State) (c : Settings) : (s.countSecond c).meter = s.meter := rfl
@[simp] theorem State.countSecond_contributors (s : State) (c : Settings) : (s.countSecond c).contributors = s.contributors := rfl
@[simp] theorem State.countSecond_subscriptions (s : State) (c : Settings) : (s.countSecond c).subscriptions = s.subscriptions := rfl
@[simp] theorem State.countSecond_link (s : State) (c : Settings) : (s.countSecond c).link = s.link := rfl
@[simp] theorem State.countSecond_requests (s : State) (c : Settings) : (s.countSecond c).requests = s.requests := rfl
@[simp] theorem State.countSecond_alerts (s : State) (c : Settings) : (s.countSecond c).alerts = s.alerts := rfl
@[simp] theorem State.countSecond_pending (s : State) (c : Settings) : (s.countSecond c).pending = s.pending := rfl

/-! `setChan` -/

@[simp] theorem State.setChan_loader (s : State) (ch : Chan) (c : LinkChannel) : (s.setChan ch c).loader = s.loader := rfl
@[simp] theorem State.setChan_settings (s : State) (ch : Chan) (c : LinkChannel) : (s.setChan ch c).settings = s.settings := rfl
@[simp] theorem State.setChan_time (s : State) (ch : Chan) (c : LinkChannel) : (s.setChan ch c).time = s.time := rfl
@[simp] theorem State.setChan_inputs (s : State) (ch : Chan) (c : LinkChannel) : (s.setChan ch c).inputs = s.inputs := rfl
@[simp] theorem State.setChan_bank (s : State) (ch : Chan) (c : LinkChannel) : (s.setChan ch c).bank = s.bank := rfl
@[simp] theorem State.setChan_meter (s : State) (ch : Chan) (c : LinkChannel) : (s.setChan ch c).meter = s.meter := rfl
@[simp] theorem State.setChan_book (s : State) (ch : Chan) (c : LinkChannel) : (s.setChan ch c).book = s.book := rfl
@[simp] theorem State.setChan_contributors (s : State) (ch : Chan) (c : LinkChannel) : (s.setChan ch c).contributors = s.contributors := rfl
@[simp] theorem State.setChan_subscriptions (s : State) (ch : Chan) (c : LinkChannel) : (s.setChan ch c).subscriptions = s.subscriptions := rfl
@[simp] theorem State.setChan_requests (s : State) (ch : Chan) (c : LinkChannel) : (s.setChan ch c).requests = s.requests := rfl
@[simp] theorem State.setChan_alerts (s : State) (ch : Chan) (c : LinkChannel) : (s.setChan ch c).alerts = s.alerts := rfl
@[simp] theorem State.setChan_pending (s : State) (ch : Chan) (c : LinkChannel) : (s.setChan ch c).pending = s.pending := rfl

/-! `hearFrame` -/

@[simp] theorem State.hearFrame_loader (s : State) (ch : Chan) : (s.hearFrame ch).loader = s.loader := rfl
@[simp] theorem State.hearFrame_settings (s : State) (ch : Chan) : (s.hearFrame ch).settings = s.settings := rfl
@[simp] theorem State.hearFrame_time (s : State) (ch : Chan) : (s.hearFrame ch).time = s.time := rfl
@[simp] theorem State.hearFrame_inputs (s : State) (ch : Chan) : (s.hearFrame ch).inputs = s.inputs := rfl
@[simp] theorem State.hearFrame_bank (s : State) (ch : Chan) : (s.hearFrame ch).bank = s.bank := rfl
@[simp] theorem State.hearFrame_meter (s : State) (ch : Chan) : (s.hearFrame ch).meter = s.meter := rfl
@[simp] theorem State.hearFrame_book (s : State) (ch : Chan) : (s.hearFrame ch).book = s.book := rfl
@[simp] theorem State.hearFrame_contributors (s : State) (ch : Chan) : (s.hearFrame ch).contributors = s.contributors := rfl
@[simp] theorem State.hearFrame_subscriptions (s : State) (ch : Chan) : (s.hearFrame ch).subscriptions = s.subscriptions := rfl
@[simp] theorem State.hearFrame_requests (s : State) (ch : Chan) : (s.hearFrame ch).requests = s.requests := rfl
@[simp] theorem State.hearFrame_alerts (s : State) (ch : Chan) : (s.hearFrame ch).alerts = s.alerts := rfl
@[simp] theorem State.hearFrame_pending (s : State) (ch : Chan) : (s.hearFrame ch).pending = s.pending := rfl

/-! `receiveError` -/

@[simp] theorem State.receiveError_loader (s : State) (ch : Chan) : (s.receiveError ch).loader = s.loader := rfl
@[simp] theorem State.receiveError_settings (s : State) (ch : Chan) : (s.receiveError ch).settings = s.settings := rfl
@[simp] theorem State.receiveError_time (s : State) (ch : Chan) : (s.receiveError ch).time = s.time := rfl
@[simp] theorem State.receiveError_inputs (s : State) (ch : Chan) : (s.receiveError ch).inputs = s.inputs := rfl
@[simp] theorem State.receiveError_bank (s : State) (ch : Chan) : (s.receiveError ch).bank = s.bank := rfl
@[simp] theorem State.receiveError_meter (s : State) (ch : Chan) : (s.receiveError ch).meter = s.meter := rfl
@[simp] theorem State.receiveError_book (s : State) (ch : Chan) : (s.receiveError ch).book = s.book := rfl
@[simp] theorem State.receiveError_contributors (s : State) (ch : Chan) : (s.receiveError ch).contributors = s.contributors := rfl
@[simp] theorem State.receiveError_subscriptions (s : State) (ch : Chan) : (s.receiveError ch).subscriptions = s.subscriptions := rfl
@[simp] theorem State.receiveError_requests (s : State) (ch : Chan) : (s.receiveError ch).requests = s.requests := rfl
@[simp] theorem State.receiveError_alerts (s : State) (ch : Chan) : (s.receiveError ch).alerts = s.alerts := rfl
@[simp] theorem State.receiveError_pending (s : State) (ch : Chan) : (s.receiveError ch).pending = s.pending := rfl

/-! `formatError` -/

@[simp] theorem State.formatError_loader (s : State) : s.formatError.loader = s.loader := rfl
@[simp] theorem State.formatError_settings (s : State) : s.formatError.settings = s.settings := rfl
@[simp] theorem State.formatError_time (s : State) : s.formatError.time = s.time := rfl
@[simp] theorem State.formatError_inputs (s : State) : s.formatError.inputs = s.inputs := rfl
@[simp] theorem State.formatError_bank (s : State) : s.formatError.bank = s.bank := rfl
@[simp] theorem State.formatError_meter (s : State) : s.formatError.meter = s.meter := rfl
@[simp] theorem State.formatError_book (s : State) : s.formatError.book = s.book := rfl
@[simp] theorem State.formatError_contributors (s : State) : s.formatError.contributors = s.contributors := rfl
@[simp] theorem State.formatError_subscriptions (s : State) : s.formatError.subscriptions = s.subscriptions := rfl
@[simp] theorem State.formatError_requests (s : State) : s.formatError.requests = s.requests := rfl
@[simp] theorem State.formatError_alerts (s : State) : s.formatError.alerts = s.alerts := rfl
@[simp] theorem State.formatError_pending (s : State) : s.formatError.pending = s.pending := rfl

/-! `remember` -/

@[simp] theorem State.remember_loader (s : State) (f : Frame) : (s.remember f).loader = s.loader := rfl
@[simp] theorem State.remember_settings (s : State) (f : Frame) : (s.remember f).settings = s.settings := rfl
@[simp] theorem State.remember_time (s : State) (f : Frame) : (s.remember f).time = s.time := rfl
@[simp] theorem State.remember_inputs (s : State) (f : Frame) : (s.remember f).inputs = s.inputs := rfl
@[simp] theorem State.remember_bank (s : State) (f : Frame) : (s.remember f).bank = s.bank := rfl
@[simp] theorem State.remember_meter (s : State) (f : Frame) : (s.remember f).meter = s.meter := rfl
@[simp] theorem State.remember_book (s : State) (f : Frame) : (s.remember f).book = s.book := rfl
@[simp] theorem State.remember_contributors (s : State) (f : Frame) : (s.remember f).contributors = s.contributors := rfl
@[simp] theorem State.remember_subscriptions (s : State) (f : Frame) : (s.remember f).subscriptions = s.subscriptions := rfl
@[simp] theorem State.remember_requests (s : State) (f : Frame) : (s.remember f).requests = s.requests := rfl
@[simp] theorem State.remember_alerts (s : State) (f : Frame) : (s.remember f).alerts = s.alerts := rfl
@[simp] theorem State.remember_pending (s : State) (f : Frame) : (s.remember f).pending = s.pending := rfl

/-! `updateLastBasis` -/

@[simp] theorem State.updateLastBasis_loader (s : State) (station basis : Nat) : (s.updateLastBasis station basis).loader = s.loader := rfl
@[simp] theorem State.updateLastBasis_settings (s : State) (station basis : Nat) : (s.updateLastBasis station basis).settings = s.settings := rfl
@[simp] theorem State.updateLastBasis_time (s : State) (station basis : Nat) : (s.updateLastBasis station basis).time = s.time := rfl
@[simp] theorem State.updateLastBasis_inputs (s : State) (station basis : Nat) : (s.updateLastBasis station basis).inputs = s.inputs := rfl
@[simp] theorem State.updateLastBasis_bank (s : State) (station basis : Nat) : (s.updateLastBasis station basis).bank = s.bank := rfl
@[simp] theorem State.updateLastBasis_meter (s : State) (station basis : Nat) : (s.updateLastBasis station basis).meter = s.meter := rfl
@[simp] theorem State.updateLastBasis_book (s : State) (station basis : Nat) : (s.updateLastBasis station basis).book = s.book := rfl
@[simp] theorem State.updateLastBasis_subscriptions (s : State) (station basis : Nat) : (s.updateLastBasis station basis).subscriptions = s.subscriptions := rfl
@[simp] theorem State.updateLastBasis_link (s : State) (station basis : Nat) : (s.updateLastBasis station basis).link = s.link := rfl
@[simp] theorem State.updateLastBasis_requests (s : State) (station basis : Nat) : (s.updateLastBasis station basis).requests = s.requests := rfl
@[simp] theorem State.updateLastBasis_alerts (s : State) (station basis : Nat) : (s.updateLastBasis station basis).alerts = s.alerts := rfl
@[simp] theorem State.updateLastBasis_pending (s : State) (station basis : Nat) : (s.updateLastBasis station basis).pending = s.pending := rfl

/-! `countQuery` -/

@[simp] theorem State.countQuery_loader (s : State) : s.countQuery.loader = s.loader := rfl
@[simp] theorem State.countQuery_settings (s : State) : s.countQuery.settings = s.settings := rfl
@[simp] theorem State.countQuery_time (s : State) : s.countQuery.time = s.time := rfl
@[simp] theorem State.countQuery_inputs (s : State) : s.countQuery.inputs = s.inputs := rfl
@[simp] theorem State.countQuery_bank (s : State) : s.countQuery.bank = s.bank := rfl
@[simp] theorem State.countQuery_meter (s : State) : s.countQuery.meter = s.meter := rfl
@[simp] theorem State.countQuery_book (s : State) : s.countQuery.book = s.book := rfl
@[simp] theorem State.countQuery_contributors (s : State) : s.countQuery.contributors = s.contributors := rfl
@[simp] theorem State.countQuery_subscriptions (s : State) : s.countQuery.subscriptions = s.subscriptions := rfl
@[simp] theorem State.countQuery_link (s : State) : s.countQuery.link = s.link := rfl
@[simp] theorem State.countQuery_alerts (s : State) : s.countQuery.alerts = s.alerts := rfl
@[simp] theorem State.countQuery_pending (s : State) : s.countQuery.pending = s.pending := rfl

/-! `recordRefusal` -/

@[simp] theorem State.recordRefusal_loader (s : State) (f : Frame) (o : RequestOutcome) : (s.recordRefusal f o).loader = s.loader := rfl
@[simp] theorem State.recordRefusal_settings (s : State) (f : Frame) (o : RequestOutcome) : (s.recordRefusal f o).settings = s.settings := rfl
@[simp] theorem State.recordRefusal_time (s : State) (f : Frame) (o : RequestOutcome) : (s.recordRefusal f o).time = s.time := rfl
@[simp] theorem State.recordRefusal_inputs (s : State) (f : Frame) (o : RequestOutcome) : (s.recordRefusal f o).inputs = s.inputs := rfl
@[simp] theorem State.recordRefusal_bank (s : State) (f : Frame) (o : RequestOutcome) : (s.recordRefusal f o).bank = s.bank := rfl
@[simp] theorem State.recordRefusal_meter (s : State) (f : Frame) (o : RequestOutcome) : (s.recordRefusal f o).meter = s.meter := rfl
@[simp] theorem State.recordRefusal_book (s : State) (f : Frame) (o : RequestOutcome) : (s.recordRefusal f o).book = s.book := rfl
@[simp] theorem State.recordRefusal_contributors (s : State) (f : Frame) (o : RequestOutcome) : (s.recordRefusal f o).contributors = s.contributors := rfl
@[simp] theorem State.recordRefusal_subscriptions (s : State) (f : Frame) (o : RequestOutcome) : (s.recordRefusal f o).subscriptions = s.subscriptions := rfl
@[simp] theorem State.recordRefusal_link (s : State) (f : Frame) (o : RequestOutcome) : (s.recordRefusal f o).link = s.link := rfl
@[simp] theorem State.recordRefusal_alerts (s : State) (f : Frame) (o : RequestOutcome) : (s.recordRefusal f o).alerts = s.alerts := rfl
@[simp] theorem State.recordRefusal_pending (s : State) (f : Frame) (o : RequestOutcome) : (s.recordRefusal f o).pending = s.pending := rfl

/-! `countUnknown` -/

@[simp] theorem State.countUnknown_loader (s : State) (f : Frame) (o : RequestOutcome) : (s.countUnknown f o).loader = s.loader := rfl
@[simp] theorem State.countUnknown_settings (s : State) (f : Frame) (o : RequestOutcome) : (s.countUnknown f o).settings = s.settings := rfl
@[simp] theorem State.countUnknown_time (s : State) (f : Frame) (o : RequestOutcome) : (s.countUnknown f o).time = s.time := rfl
@[simp] theorem State.countUnknown_inputs (s : State) (f : Frame) (o : RequestOutcome) : (s.countUnknown f o).inputs = s.inputs := rfl
@[simp] theorem State.countUnknown_bank (s : State) (f : Frame) (o : RequestOutcome) : (s.countUnknown f o).bank = s.bank := rfl
@[simp] theorem State.countUnknown_meter (s : State) (f : Frame) (o : RequestOutcome) : (s.countUnknown f o).meter = s.meter := rfl
@[simp] theorem State.countUnknown_book (s : State) (f : Frame) (o : RequestOutcome) : (s.countUnknown f o).book = s.book := rfl
@[simp] theorem State.countUnknown_contributors (s : State) (f : Frame) (o : RequestOutcome) : (s.countUnknown f o).contributors = s.contributors := rfl
@[simp] theorem State.countUnknown_subscriptions (s : State) (f : Frame) (o : RequestOutcome) : (s.countUnknown f o).subscriptions = s.subscriptions := rfl
@[simp] theorem State.countUnknown_link (s : State) (f : Frame) (o : RequestOutcome) : (s.countUnknown f o).link = s.link := rfl
@[simp] theorem State.countUnknown_alerts (s : State) (f : Frame) (o : RequestOutcome) : (s.countUnknown f o).alerts = s.alerts := rfl
@[simp] theorem State.countUnknown_pending (s : State) (f : Frame) (o : RequestOutcome) : (s.countUnknown f o).pending = s.pending := rfl

/-! `countAccepted` -/

@[simp] theorem State.countAccepted_loader (s : State) : s.countAccepted.loader = s.loader := rfl
@[simp] theorem State.countAccepted_settings (s : State) : s.countAccepted.settings = s.settings := rfl
@[simp] theorem State.countAccepted_time (s : State) : s.countAccepted.time = s.time := rfl
@[simp] theorem State.countAccepted_inputs (s : State) : s.countAccepted.inputs = s.inputs := rfl
@[simp] theorem State.countAccepted_bank (s : State) : s.countAccepted.bank = s.bank := rfl
@[simp] theorem State.countAccepted_meter (s : State) : s.countAccepted.meter = s.meter := rfl
@[simp] theorem State.countAccepted_book (s : State) : s.countAccepted.book = s.book := rfl
@[simp] theorem State.countAccepted_contributors (s : State) : s.countAccepted.contributors = s.contributors := rfl
@[simp] theorem State.countAccepted_subscriptions (s : State) : s.countAccepted.subscriptions = s.subscriptions := rfl
@[simp] theorem State.countAccepted_link (s : State) : s.countAccepted.link = s.link := rfl
@[simp] theorem State.countAccepted_alerts (s : State) : s.countAccepted.alerts = s.alerts := rfl
@[simp] theorem State.countAccepted_pending (s : State) : s.countAccepted.pending = s.pending := rfl

/-! `configure` -/

@[simp] theorem State.configure_inputs (s : State) (c : Settings) (own : Option Nat) (clamped : Bool) (image : List Byte) (now : Nat) : (s.configure c own clamped image now).inputs = s.inputs := rfl
@[simp] theorem State.configure_meter (s : State) (c : Settings) (own : Option Nat) (clamped : Bool) (image : List Byte) (now : Nat) : (s.configure c own clamped image now).meter = s.meter := rfl
@[simp] theorem State.configure_requests (s : State) (c : Settings) (own : Option Nat) (clamped : Bool) (image : List Byte) (now : Nat) : (s.configure c own clamped image now).requests = s.requests := rfl
@[simp] theorem State.configure_alerts (s : State) (c : Settings) (own : Option Nat) (clamped : Bool) (image : List Byte) (now : Nat) : (s.configure c own clamped image now).alerts = s.alerts := rfl
@[simp] theorem State.configure_pending (s : State) (c : Settings) (own : Option Nat) (clamped : Bool) (image : List Byte) (now : Nat) : (s.configure c own clamped image now).pending = s.pending := rfl

/-! `loadFails` -/

@[simp] theorem State.loadFails_settings (s : State) : s.loadFails.settings = s.settings := rfl
@[simp] theorem State.loadFails_inputs (s : State) : s.loadFails.inputs = s.inputs := rfl
@[simp] theorem State.loadFails_bank (s : State) : s.loadFails.bank = s.bank := rfl
@[simp] theorem State.loadFails_meter (s : State) : s.loadFails.meter = s.meter := rfl
@[simp] theorem State.loadFails_book (s : State) : s.loadFails.book = s.book := rfl
@[simp] theorem State.loadFails_contributors (s : State) : s.loadFails.contributors = s.contributors := rfl
@[simp] theorem State.loadFails_subscriptions (s : State) : s.loadFails.subscriptions = s.subscriptions := rfl
@[simp] theorem State.loadFails_link (s : State) : s.loadFails.link = s.link := rfl
@[simp] theorem State.loadFails_requests (s : State) : s.loadFails.requests = s.requests := rfl
@[simp] theorem State.loadFails_pending (s : State) : s.loadFails.pending = s.pending := rfl

/-! The loader at the begin of an attempt and at the end of loading. -/

@[simp] theorem Loader.begin_phase (l : Loader) (n : Nat) : (l.begin n).phase = .reading := rfl
@[simp] theorem Loader.begin_attempt (l : Loader) (n : Nat) : (l.begin n).attempt = n := rfl
@[simp] theorem Loader.begin_sent (l : Loader) (n : Nat) : (l.begin n).sent = readInstruction := rfl
@[simp] theorem Loader.begin_straps (l : Loader) (n : Nat) : (l.begin n).straps = l.straps := rfl
@[simp] theorem Loader.begin_image (l : Loader) (n : Nat) : (l.begin n).image = l.image := rfl
@[simp] theorem Loader.begin_own (l : Loader) (n : Nat) : (l.begin n).own = l.own := rfl
@[simp] theorem Loader.begin_source (l : Loader) (n : Nat) : (l.begin n).source = l.source := rfl
@[simp] theorem Loader.begin_clamped (l : Loader) (n : Nat) : (l.begin n).clamped = l.clamped := rfl
@[simp] theorem Loader.finish_phase (l : Loader) : l.finish.phase = .ended := rfl
@[simp] theorem Loader.finish_attempt (l : Loader) : l.finish.attempt = 0 := rfl
@[simp] theorem Loader.finish_sent (l : Loader) : l.finish.sent = [] := rfl
@[simp] theorem Loader.finish_straps (l : Loader) : l.finish.straps = l.straps := rfl
@[simp] theorem Loader.finish_image (l : Loader) : l.finish.image = l.image := rfl
@[simp] theorem Loader.finish_own (l : Loader) : l.finish.own = l.own := rfl
@[simp] theorem Loader.finish_source (l : Loader) : l.finish.source = l.source := rfl
@[simp] theorem Loader.finish_clamped (l : Loader) : l.finish.clamped = l.clamped := rfl

end Sys2Proof.Machine
end

