-- ==== Sys2Proof/Laws/Frames.lean ====
section
/-! SUPPORT. Which blocks each shared operation leaves as they are: one lemma for each block that an operation does not touch. -/

set_option Elab.async false

namespace Sys2Proof.Machine

open Sys2Proof

/-! `handOver` -/

@[simp] theorem State.handOver_loader (s : State) (r : Record) :
    (s.handOver r).loader = s.loader := by
  unfold State.handOver; dsimp only; split <;> rfl
@[simp] theorem State.handOver_settings (s : State) (r : Record) :
    (s.handOver r).settings = s.settings := by
  unfold State.handOver; dsimp only; split <;> rfl
@[simp] theorem State.handOver_time (s : State) (r : Record) :
    (s.handOver r).time = s.time := by
  unfold State.handOver; dsimp only; split <;> rfl
@[simp] theorem State.handOver_inputs (s : State) (r : Record) :
    (s.handOver r).inputs = s.inputs := by
  unfold State.handOver; dsimp only; split <;> rfl
@[simp] theorem State.handOver_bank (s : State) (r : Record) :
    (s.handOver r).bank = s.bank := by
  unfold State.handOver; dsimp only; split <;> rfl
@[simp] theorem State.handOver_meter (s : State) (r : Record) :
    (s.handOver r).meter = s.meter := by
  unfold State.handOver; dsimp only; split <;> rfl
@[simp] theorem State.handOver_book (s : State) (r : Record) :
    (s.handOver r).book = s.book := by
  unfold State.handOver; dsimp only; split <;> rfl
@[simp] theorem State.handOver_contributors (s : State) (r : Record) :
    (s.handOver r).contributors = s.contributors := by
  unfold State.handOver; dsimp only; split <;> rfl
@[simp] theorem State.handOver_subscriptions (s : State) (r : Record) :
    (s.handOver r).subscriptions = s.subscriptions := by
  unfold State.handOver; dsimp only; split <;> rfl
@[simp] theorem State.handOver_requests (s : State) (r : Record) :
    (s.handOver r).requests = s.requests := by
  unfold State.handOver; dsimp only; split <;> rfl
@[simp] theorem State.handOver_pending (s : State) (r : Record) :
    (s.handOver r).pending = s.pending := by
  unfold State.handOver; dsimp only; split <;> rfl

/-! `strikeAllot` -/

@[simp] theorem State.strikeAllot_loader (s : State) (role : Role) (n : Period) (e : Entry) (p : AllotPart) :
    (s.strikeAllot role n e p).loader = s.loader := by
  simp [State.strikeAllot]
@[simp] theorem State.strikeAllot_settings (s : State) (role : Role) (n : Period) (e : Entry) (p : AllotPart) :
    (s.strikeAllot role n e p).settings = s.settings := by
  simp [State.strikeAllot]
@[simp] theorem State.strikeAllot_inputs (s : State) (role : Role) (n : Period) (e : Entry) (p : AllotPart) :
    (s.strikeAllot role n e p).inputs = s.inputs := by
  simp [State.strikeAllot]
@[simp] theorem State.strikeAllot_bank (s : State) (role : Role) (n : Period) (e : Entry) (p : AllotPart) :
    (s.strikeAllot role n e p).bank = s.bank := by
  simp [State.strikeAllot]
@[simp] theorem State.strikeAllot_meter (s : State) (role : Role) (n : Period) (e : Entry) (p : AllotPart) :
    (s.strikeAllot role n e p).meter = s.meter := by
  simp [State.strikeAllot]
@[simp] theorem State.strikeAllot_contributors (s : State) (role : Role) (n : Period) (e : Entry) (p : AllotPart) :
    (s.strikeAllot role n e p).contributors = s.contributors := by
  simp [State.strikeAllot]
@[simp] theorem State.strikeAllot_subscriptions (s : State) (role : Role) (n : Period) (e : Entry) (p : AllotPart) :
    (s.strikeAllot role n e p).subscriptions = s.subscriptions := by
  simp [State.strikeAllot]
@[simp] theorem State.strikeAllot_requests (s : State) (role : Role) (n : Period) (e : Entry) (p : AllotPart) :
    (s.strikeAllot role n e p).requests = s.requests := by
  simp [State.strikeAllot]
@[simp] theorem State.strikeAllot_pending (s : State) (role : Role) (n : Period) (e : Entry) (p : AllotPart) :
    (s.strikeAllot role n e p).pending = s.pending := by
  simp [State.strikeAllot]

/-! `strike` -/

@[simp] theorem State.strike_loader (s : State) (e : Entry) :
    (s.strike e).loader = s.loader := by
  unfold State.strike; split; · rfl
  split <;> simp
@[simp] theorem State.strike_settings (s : State) (e : Entry) :
    (s.strike e).settings = s.settings := by
  unfold State.strike; split; · rfl
  split <;> simp
@[simp] theorem State.strike_inputs (s : State) (e : Entry) :
    (s.strike e).inputs = s.inputs := by
  unfold State.strike; split; · rfl
  split <;> simp
@[simp] theorem State.strike_bank (s : State) (e : Entry) :
    (s.strike e).bank = s.bank := by
  unfold State.strike; split; · rfl
  split <;> simp
@[simp] theorem State.strike_meter (s : State) (e : Entry) :
    (s.strike e).meter = s.meter := by
  unfold State.strike; split; · rfl
  split <;> simp
@[simp] theorem State.strike_contributors (s : State) (e : Entry) :
    (s.strike e).contributors = s.contributors := by
  unfold State.strike; split; · rfl
  split <;> simp
@[simp] theorem State.strike_requests (s : State) (e : Entry) :
    (s.strike e).requests = s.requests := by
  unfold State.strike; split; · rfl
  split <;> simp
@[simp] theorem State.strike_pending (s : State) (e : Entry) :
    (s.strike e).pending = s.pending := by
  unfold State.strike; split; · rfl
  split <;> simp

/-! `saturateIf` -/

@[simp] theorem State.saturateIf_loader (s : State) (test : Bool) :
    (s.saturateIf test).loader = s.loader := by
  unfold State.saturateIf; split <;> rfl
@[simp] theorem State.saturateIf_settings (s : State) (test : Bool) :
    (s.saturateIf test).settings = s.settings := by
  unfold State.saturateIf; split <;> rfl
@[simp] theorem State.saturateIf_time (s : State) (test : Bool) :
    (s.saturateIf test).time = s.time := by
  unfold State.saturateIf; split <;> rfl
@[simp] theorem State.saturateIf_inputs (s : State) (test : Bool) :
    (s.saturateIf test).inputs = s.inputs := by
  unfold State.saturateIf; split <;> rfl
@[simp] theorem State.saturateIf_bank (s : State) (test : Bool) :
    (s.saturateIf test).bank = s.bank := by
  unfold State.saturateIf; split <;> rfl
@[simp] theorem State.saturateIf_meter (s : State) (test : Bool) :
    (s.saturateIf test).meter = s.meter := by
  unfold State.saturateIf; split <;> rfl
@[simp] theorem State.saturateIf_contributors (s : State) (test : Bool) :
    (s.saturateIf test).contributors = s.contributors := by
  unfold State.saturateIf; split <;> rfl
@[simp] theorem State.saturateIf_subscriptions (s : State) (test : Bool) :
    (s.saturateIf test).subscriptions = s.subscriptions := by
  unfold State.saturateIf; split <;> rfl
@[simp] theorem State.saturateIf_link (s : State) (test : Bool) :
    (s.saturateIf test).link = s.link := by
  unfold State.saturateIf; split <;> rfl
@[simp] theorem State.saturateIf_requests (s : State) (test : Bool) :
    (s.saturateIf test).requests = s.requests := by
  unfold State.saturateIf; split <;> rfl
@[simp] theorem State.saturateIf_alerts (s : State) (test : Bool) :
    (s.saturateIf test).alerts = s.alerts := by
  unfold State.saturateIf; split <;> rfl
@[simp] theorem State.saturateIf_pending (s : State) (test : Bool) :
    (s.saturateIf test).pending = s.pending := by
  unfold State.saturateIf; split <;> rfl

/-! `creditChannel` -/

@[simp] theorem State.creditChannel_loader (s : State) (i : Fin 8) (amount : Nat) :
    (s.creditChannel i amount).loader = s.loader := by
  unfold State.creditChannel; dsimp only; split <;> rfl
@[simp] theorem State.creditChannel_settings (s : State) (i : Fin 8) (amount : Nat) :
    (s.creditChannel i amount).settings = s.settings := by
  unfold State.creditChannel; dsimp only; split <;> rfl
@[simp] theorem State.creditChannel_time (s : State) (i : Fin 8) (amount : Nat) :
    (s.creditChannel i amount).time = s.time := by
  unfold State.creditChannel; dsimp only; split <;> rfl
@[simp] theorem State.creditChannel_inputs (s : State) (i : Fin 8) (amount : Nat) :
    (s.creditChannel i amount).inputs = s.inputs := by
  unfold State.creditChannel; dsimp only; split <;> rfl
@[simp] theorem State.creditChannel_meter (s : State) (i : Fin 8) (amount : Nat) :
    (s.creditChannel i amount).meter = s.meter := by
  unfold State.creditChannel; dsimp only; split <;> rfl
@[simp] theorem State.creditChannel_contributors (s : State) (i : Fin 8) (amount : Nat) :
    (s.creditChannel i amount).contributors = s.contributors := by
  unfold State.creditChannel; dsimp only; split <;> rfl
@[simp] theorem State.creditChannel_subscriptions (s : State) (i : Fin 8) (amount : Nat) :
    (s.creditChannel i amount).subscriptions = s.subscriptions := by
  unfold State.creditChannel; dsimp only; split <;> rfl
@[simp] theorem State.creditChannel_link (s : State) (i : Fin 8) (amount : Nat) :
    (s.creditChannel i amount).link = s.link := by
  unfold State.creditChannel; dsimp only; split <;> rfl
@[simp] theorem State.creditChannel_requests (s : State) (i : Fin 8) (amount : Nat) :
    (s.creditChannel i amount).requests = s.requests := by
  unfold State.creditChannel; dsimp only; split <;> rfl
@[simp] theorem State.creditChannel_alerts (s : State) (i : Fin 8) (amount : Nat) :
    (s.creditChannel i amount).alerts = s.alerts := by
  unfold State.creditChannel; dsimp only; split <;> rfl
@[simp] theorem State.creditChannel_pending (s : State) (i : Fin 8) (amount : Nat) :
    (s.creditChannel i amount).pending = s.pending := by
  unfold State.creditChannel; dsimp only; split <;> rfl

/-! `deliver` -/

@[simp] theorem State.deliver_loader (s : State) (c : Settings) (source : ChannelSource) (amount : Nat) :
    (s.deliver c source amount).loader = s.loader := by
  unfold State.deliver; split <;> simp
@[simp] theorem State.deliver_settings (s : State) (c : Settings) (source : ChannelSource) (amount : Nat) :
    (s.deliver c source amount).settings = s.settings := by
  unfold State.deliver; split <;> simp
@[simp] theorem State.deliver_time (s : State) (c : Settings) (source : ChannelSource) (amount : Nat) :
    (s.deliver c source amount).time = s.time := by
  unfold State.deliver; split <;> simp
@[simp] theorem State.deliver_inputs (s : State) (c : Settings) (source : ChannelSource) (amount : Nat) :
    (s.deliver c source amount).inputs = s.inputs := by
  unfold State.deliver; split <;> simp
@[simp] theorem State.deliver_meter (s : State) (c : Settings) (source : ChannelSource) (amount : Nat) :
    (s.deliver c source amount).meter = s.meter := by
  unfold State.deliver; split <;> simp
@[simp] theorem State.deliver_contributors (s : State) (c : Settings) (source : ChannelSource) (amount : Nat) :
    (s.deliver c source amount).contributors = s.contributors := by
  unfold State.deliver; split <;> simp
@[simp] theorem State.deliver_subscriptions (s : State) (c : Settings) (source : ChannelSource) (amount : Nat) :
    (s.deliver c source amount).subscriptions = s.subscriptions := by
  unfold State.deliver; split <;> simp
@[simp] theorem State.deliver_link (s : State) (c : Settings) (source : ChannelSource) (amount : Nat) :
    (s.deliver c source amount).link = s.link := by
  unfold State.deliver; split <;> simp
@[simp] theorem State.deliver_requests (s : State) (c : Settings) (source : ChannelSource) (amount : Nat) :
    (s.deliver c source amount).requests = s.requests := by
  unfold State.deliver; split <;> simp
@[simp] theorem State.deliver_alerts (s : State) (c : Settings) (source : ChannelSource) (amount : Nat) :
    (s.deliver c source amount).alerts = s.alerts := by
  unfold State.deliver; split <;> simp
@[simp] theorem State.deliver_pending (s : State) (c : Settings) (source : ChannelSource) (amount : Nat) :
    (s.deliver c source amount).pending = s.pending := by
  unfold State.deliver; split <;> simp

/-! `energyPulse` -/

@[simp] theorem State.energyPulse_loader (s : State) (line : Fin 8) :
    (s.energyPulse line).loader = s.loader := by
  unfold State.energyPulse; split <;> simp
@[simp] theorem State.energyPulse_settings (s : State) (line : Fin 8) :
    (s.energyPulse line).settings = s.settings := by
  unfold State.energyPulse; split <;> simp
@[simp] theorem State.energyPulse_time (s : State) (line : Fin 8) :
    (s.energyPulse line).time = s.time := by
  unfold State.energyPulse; split <;> simp
@[simp] theorem State.energyPulse_inputs (s : State) (line : Fin 8) :
    (s.energyPulse line).inputs = s.inputs := by
  unfold State.energyPulse; split <;> simp
@[simp] theorem State.energyPulse_meter (s : State) (line : Fin 8) :
    (s.energyPulse line).meter = s.meter := by
  unfold State.energyPulse; split <;> simp
@[simp] theorem State.energyPulse_contributors (s : State) (line : Fin 8) :
    (s.energyPulse line).contributors = s.contributors := by
  unfold State.energyPulse; split <;> simp
@[simp] theorem State.energyPulse_subscriptions (s : State) (line : Fin 8) :
    (s.energyPulse line).subscriptions = s.subscriptions := by
  unfold State.energyPulse; split <;> simp
@[simp] theorem State.energyPulse_link (s : State) (line : Fin 8) :
    (s.energyPulse line).link = s.link := by
  unfold State.energyPulse; split <;> simp
@[simp] theorem State.energyPulse_requests (s : State) (line : Fin 8) :
    (s.energyPulse line).requests = s.requests := by
  unfold State.energyPulse; split <;> simp
@[simp] theorem State.energyPulse_alerts (s : State) (line : Fin 8) :
    (s.energyPulse line).alerts = s.alerts := by
  unfold State.energyPulse; split <;> simp
@[simp] theorem State.energyPulse_pending (s : State) (line : Fin 8) :
    (s.energyPulse line).pending = s.pending := by
  unfold State.energyPulse; split <;> simp

/-! `cutPulse` -/

@[simp] theorem State.cutPulse_loader (s : State) :
    s.cutPulse.loader = s.loader := by
  simp [State.cutPulse]
@[simp] theorem State.cutPulse_settings (s : State) :
    s.cutPulse.settings = s.settings := by
  simp [State.cutPulse]
@[simp] theorem State.cutPulse_time (s : State) :
    s.cutPulse.time = s.time := by
  simp [State.cutPulse]
@[simp] theorem State.cutPulse_inputs (s : State) :
    s.cutPulse.inputs = s.inputs := by
  simp [State.cutPulse]
@[simp] theorem State.cutPulse_meter (s : State) :
    s.cutPulse.meter = s.meter := by
  simp [State.cutPulse]
@[simp] theorem State.cutPulse_contributors (s : State) :
    s.cutPulse.contributors = s.contributors := by
  simp [State.cutPulse]
@[simp] theorem State.cutPulse_subscriptions (s : State) :
    s.cutPulse.subscriptions = s.subscriptions := by
  simp [State.cutPulse]
@[simp] theorem State.cutPulse_link (s : State) :
    s.cutPulse.link = s.link := by
  simp [State.cutPulse]
@[simp] theorem State.cutPulse_requests (s : State) :
    s.cutPulse.requests = s.requests := by
  simp [State.cutPulse]
@[simp] theorem State.cutPulse_alerts (s : State) :
    s.cutPulse.alerts = s.alerts := by
  simp [State.cutPulse]
@[simp] theorem State.cutPulse_pending (s : State) :
    s.cutPulse.pending = s.pending := by
  simp [State.cutPulse]

/-! `rejectPulse` -/

@[simp] theorem State.rejectPulse_loader (s : State) :
    s.rejectPulse.loader = s.loader := by
  simp [State.rejectPulse]
@[simp] theorem State.rejectPulse_settings (s : State) :
    s.rejectPulse.settings = s.settings := by
  simp [State.rejectPulse]
@[simp] theorem State.rejectPulse_time (s : State) :
    s.rejectPulse.time = s.time := by
  simp [State.rejectPulse]
@[simp] theorem State.rejectPulse_inputs (s : State) :
    s.rejectPulse.inputs = s.inputs := by
  simp [State.rejectPulse]
@[simp] theorem State.rejectPulse_meter (s : State) :
    s.rejectPulse.meter = s.meter := by
  simp [State.rejectPulse]
@[simp] theorem State.rejectPulse_contributors (s : State) :
    s.rejectPulse.contributors = s.contributors := by
  simp [State.rejectPulse]
@[simp] theorem State.rejectPulse_subscriptions (s : State) :
    s.rejectPulse.subscriptions = s.subscriptions := by
  simp [State.rejectPulse]
@[simp] theorem State.rejectPulse_link (s : State) :
    s.rejectPulse.link = s.link := by
  simp [State.rejectPulse]
@[simp] theorem State.rejectPulse_requests (s : State) :
    s.rejectPulse.requests = s.requests := by
  simp [State.rejectPulse]
@[simp] theorem State.rejectPulse_alerts (s : State) :
    s.rejectPulse.alerts = s.alerts := by
  simp [State.rejectPulse]
@[simp] theorem State.rejectPulse_pending (s : State) :
    s.rejectPulse.pending = s.pending := by
  simp [State.rejectPulse]

/-! `faultChange` -/

@[simp] theorem State.faultChange_loader (s : State) (line : Fin 8) (edge : Edge) :
    (s.faultChange line edge).loader = s.loader := by
  unfold State.faultChange; dsimp only; split <;> simp
@[simp] theorem State.faultChange_settings (s : State) (line : Fin 8) (edge : Edge) :
    (s.faultChange line edge).settings = s.settings := by
  unfold State.faultChange; dsimp only; split <;> simp
@[simp] theorem State.faultChange_time (s : State) (line : Fin 8) (edge : Edge) :
    (s.faultChange line edge).time = s.time := by
  unfold State.faultChange; dsimp only; split <;> simp
@[simp] theorem State.faultChange_bank (s : State) (line : Fin 8) (edge : Edge) :
    (s.faultChange line edge).bank = s.bank := by
  unfold State.faultChange; dsimp only; split <;> simp
@[simp] theorem State.faultChange_meter (s : State) (line : Fin 8) (edge : Edge) :
    (s.faultChange line edge).meter = s.meter := by
  unfold State.faultChange; dsimp only; split <;> simp
@[simp] theorem State.faultChange_contributors (s : State) (line : Fin 8) (edge : Edge) :
    (s.faultChange line edge).contributors = s.contributors := by
  unfold State.faultChange; dsimp only; split <;> simp
@[simp] theorem State.faultChange_subscriptions (s : State) (line : Fin 8) (edge : Edge) :
    (s.faultChange line edge).subscriptions = s.subscriptions := by
  unfold State.faultChange; dsimp only; split <;> simp
@[simp] theorem State.faultChange_link (s : State) (line : Fin 8) (edge : Edge) :
    (s.faultChange line edge).link = s.link := by
  unfold State.faultChange; dsimp only; split <;> simp
@[simp] theorem State.faultChange_requests (s : State) (line : Fin 8) (edge : Edge) :
    (s.faultChange line edge).requests = s.requests := by
  unfold State.faultChange; dsimp only; split <;> simp
@[simp] theorem State.faultChange_pending (s : State) (line : Fin 8) (edge : Edge) :
    (s.faultChange line edge).pending = s.pending := by
  unfold State.faultChange; dsimp only; split <;> simp

/-! `recordEdge` -/

@[simp] theorem State.recordEdge_loader (s : State) (line : Fin 8) (edge : Edge) (time : Nat) :
    (s.recordEdge line edge time).loader = s.loader := by
  unfold State.recordEdge; split; · rfl
  cases edge <;> rfl
@[simp] theorem State.recordEdge_settings (s : State) (line : Fin 8) (edge : Edge) (time : Nat) :
    (s.recordEdge line edge time).settings = s.settings := by
  unfold State.recordEdge; split; · rfl
  cases edge <;> rfl
@[simp] theorem State.recordEdge_time (s : State) (line : Fin 8) (edge : Edge) (time : Nat) :
    (s.recordEdge line edge time).time = s.time := by
  unfold State.recordEdge; split; · rfl
  cases edge <;> rfl
@[simp] theorem State.recordEdge_bank (s : State) (line : Fin 8) (edge : Edge) (time : Nat) :
    (s.recordEdge line edge time).bank = s.bank := by
  unfold State.recordEdge; split; · rfl
  cases edge <;> rfl
@[simp] theorem State.recordEdge_meter (s : State) (line : Fin 8) (edge : Edge) (time : Nat) :
    (s.recordEdge line edge time).meter = s.meter := by
  unfold State.recordEdge; split; · rfl
  cases edge <;> rfl
@[simp] theorem State.recordEdge_book (s : State) (line : Fin 8) (edge : Edge) (time : Nat) :
    (s.recordEdge line edge time).book = s.book := by
  unfold State.recordEdge; split; · rfl
  cases edge <;> rfl
@[simp] theorem State.recordEdge_contributors (s : State) (line : Fin 8) (edge : Edge) (time : Nat) :
    (s.recordEdge line edge time).contributors = s.contributors := by
  unfold State.recordEdge; split; · rfl
  cases edge <;> rfl
@[simp] theorem State.recordEdge_subscriptions (s : State) (line : Fin 8) (edge : Edge) (time : Nat) :
    (s.recordEdge line edge time).subscriptions = s.subscriptions := by
  unfold State.recordEdge; split; · rfl
  cases edge <;> rfl
@[simp] theorem State.recordEdge_link (s : State) (line : Fin 8) (edge : Edge) (time : Nat) :
    (s.recordEdge line edge time).link = s.link := by
  unfold State.recordEdge; split; · rfl
  cases edge <;> rfl
@[simp] theorem State.recordEdge_requests (s : State) (line : Fin 8) (edge : Edge) (time : Nat) :
    (s.recordEdge line edge time).requests = s.requests := by
  unfold State.recordEdge; split; · rfl
  cases edge <;> rfl
@[simp] theorem State.recordEdge_alerts (s : State) (line : Fin 8) (edge : Edge) (time : Nat) :
    (s.recordEdge line edge time).alerts = s.alerts := by
  unfold State.recordEdge; split; · rfl
  cases edge <;> rfl
@[simp] theorem State.recordEdge_pending (s : State) (line : Fin 8) (edge : Edge) (time : Nat) :
    (s.recordEdge line edge time).pending = s.pending := by
  unfold State.recordEdge; split; · rfl
  cases edge <;> rfl

/-! `takeSample` -/

@[simp] theorem State.takeSample_loader (s : State) :
    s.takeSample.loader = s.loader := by
  unfold State.takeSample; split; · rfl
  dsimp only; split <;> rfl
@[simp] theorem State.takeSample_settings (s : State) :
    s.takeSample.settings = s.settings := by
  unfold State.takeSample; split; · rfl
  dsimp only; split <;> rfl
@[simp] theorem State.takeSample_inputs (s : State) :
    s.takeSample.inputs = s.inputs := by
  unfold State.takeSample; split; · rfl
  dsimp only; split <;> rfl
@[simp] theorem State.takeSample_bank (s : State) :
    s.takeSample.bank = s.bank := by
  unfold State.takeSample; split; · rfl
  dsimp only; split <;> rfl
@[simp] theorem State.takeSample_book (s : State) :
    s.takeSample.book = s.book := by
  unfold State.takeSample; split; · rfl
  dsimp only; split <;> rfl
@[simp] theorem State.takeSample_contributors (s : State) :
    s.takeSample.contributors = s.contributors := by
  unfold State.takeSample; split; · rfl
  dsimp only; split <;> rfl
@[simp] theorem State.takeSample_subscriptions (s : State) :
    s.takeSample.subscriptions = s.subscriptions := by
  unfold State.takeSample; split; · rfl
  dsimp only; split <;> rfl
@[simp] theorem State.takeSample_link (s : State) :
    s.takeSample.link = s.link := by
  unfold State.takeSample; split; · rfl
  dsimp only; split <;> rfl
@[simp] theorem State.takeSample_requests (s : State) :
    s.takeSample.requests = s.requests := by
  unfold State.takeSample; split; · rfl
  dsimp only; split <;> rfl
@[simp] theorem State.takeSample_alerts (s : State) :
    s.takeSample.alerts = s.alerts := by
  unfold State.takeSample; split; · rfl
  dsimp only; split <;> rfl
@[simp] theorem State.takeSample_pending (s : State) :
    s.takeSample.pending = s.pending := by
  unfold State.takeSample; split; · rfl
  dsimp only; split <;> rfl

/-! `takeReading` -/

@[simp] theorem State.takeReading_loader (s : State) (c : Settings) (m : Fin 8) (setup : MeterSetup) (delta : Nat) :
    (s.takeReading c m setup delta).loader = s.loader := by
  unfold State.takeReading; split <;> simp
@[simp] theorem State.takeReading_settings (s : State) (c : Settings) (m : Fin 8) (setup : MeterSetup) (delta : Nat) :
    (s.takeReading c m setup delta).settings = s.settings := by
  unfold State.takeReading; split <;> simp
@[simp] theorem State.takeReading_time (s : State) (c : Settings) (m : Fin 8) (setup : MeterSetup) (delta : Nat) :
    (s.takeReading c m setup delta).time = s.time := by
  unfold State.takeReading; split <;> simp
@[simp] theorem State.takeReading_inputs (s : State) (c : Settings) (m : Fin 8) (setup : MeterSetup) (delta : Nat) :
    (s.takeReading c m setup delta).inputs = s.inputs := by
  unfold State.takeReading; split <;> simp
@[simp] theorem State.takeReading_contributors (s : State) (c : Settings) (m : Fin 8) (setup : MeterSetup) (delta : Nat) :
    (s.takeReading c m setup delta).contributors = s.contributors := by
  unfold State.takeReading; split <;> simp
@[simp] theorem State.takeReading_subscriptions (s : State) (c : Settings) (m : Fin 8) (setup : MeterSetup) (delta : Nat) :
    (s.takeReading c m setup delta).subscriptions = s.subscriptions := by
  unfold State.takeReading; split <;> simp
@[simp] theorem State.takeReading_link (s : State) (c : Settings) (m : Fin 8) (setup : MeterSetup) (delta : Nat) :
    (s.takeReading c m setup delta).link = s.link := by
  unfold State.takeReading; split <;> simp
@[simp] theorem State.takeReading_requests (s : State) (c : Settings) (m : Fin 8) (setup : MeterSetup) (delta : Nat) :
    (s.takeReading c m setup delta).requests = s.requests := by
  unfold State.takeReading; split <;> simp
@[simp] theorem State.takeReading_alerts (s : State) (c : Settings) (m : Fin 8) (setup : MeterSetup) (delta : Nat) :
    (s.takeReading c m setup delta).alerts = s.alerts := by
  unfold State.takeReading; split <;> simp
@[simp] theorem State.takeReading_pending (s : State) (c : Settings) (m : Fin 8) (setup : MeterSetup) (delta : Nat) :
    (s.takeReading c m setup delta).pending = s.pending := by
  unfold State.takeReading; split <;> simp

/-! `takeAlarm` -/

@[simp] theorem State.takeAlarm_loader (s : State) (alarm : Bool) :
    (s.takeAlarm alarm).loader = s.loader := by
  unfold State.takeAlarm; split <;> simp
@[simp] theorem State.takeAlarm_settings (s : State) (alarm : Bool) :
    (s.takeAlarm alarm).settings = s.settings := by
  unfold State.takeAlarm; split <;> simp
@[simp] theorem State.takeAlarm_time (s : State) (alarm : Bool) :
    (s.takeAlarm alarm).time = s.time := by
  unfold State.takeAlarm; split <;> simp
@[simp] theorem State.takeAlarm_inputs (s : State) (alarm : Bool) :
    (s.takeAlarm alarm).inputs = s.inputs := by
  unfold State.takeAlarm; split <;> simp
@[simp] theorem State.takeAlarm_bank (s : State) (alarm : Bool) :
    (s.takeAlarm alarm).bank = s.bank := by
  unfold State.takeAlarm; split <;> simp
@[simp] theorem State.takeAlarm_contributors (s : State) (alarm : Bool) :
    (s.takeAlarm alarm).contributors = s.contributors := by
  unfold State.takeAlarm; split <;> simp
@[simp] theorem State.takeAlarm_subscriptions (s : State) (alarm : Bool) :
    (s.takeAlarm alarm).subscriptions = s.subscriptions := by
  unfold State.takeAlarm; split <;> simp
@[simp] theorem State.takeAlarm_link (s : State) (alarm : Bool) :
    (s.takeAlarm alarm).link = s.link := by
  unfold State.takeAlarm; split <;> simp
@[simp] theorem State.takeAlarm_requests (s : State) (alarm : Bool) :
    (s.takeAlarm alarm).requests = s.requests := by
  unfold State.takeAlarm; split <;> simp
@[simp] theorem State.takeAlarm_alerts (s : State) (alarm : Bool) :
    (s.takeAlarm alarm).alerts = s.alerts := by
  unfold State.takeAlarm; split <;> simp
@[simp] theorem State.takeAlarm_pending (s : State) (alarm : Bool) :
    (s.takeAlarm alarm).pending = s.pending := by
  unfold State.takeAlarm; split <;> simp

/-! `goodPoll` -/

@[simp] theorem State.goodPoll_loader (s : State) (c : Settings) (m : Fin 8) (setup : MeterSetup) (value : Nat) (alarm : Bool) :
    (s.goodPoll c m setup value alarm).loader = s.loader := by
  unfold State.goodPoll; dsimp only; split; · simp
  split <;> simp
@[simp] theorem State.goodPoll_settings (s : State) (c : Settings) (m : Fin 8) (setup : MeterSetup) (value : Nat) (alarm : Bool) :
    (s.goodPoll c m setup value alarm).settings = s.settings := by
  unfold State.goodPoll; dsimp only; split; · simp
  split <;> simp
@[simp] theorem State.goodPoll_time (s : State) (c : Settings) (m : Fin 8) (setup : MeterSetup) (value : Nat) (alarm : Bool) :
    (s.goodPoll c m setup value alarm).time = s.time := by
  unfold State.goodPoll; dsimp only; split; · simp
  split <;> simp
@[simp] theorem State.goodPoll_inputs (s : State) (c : Settings) (m : Fin 8) (setup : MeterSetup) (value : Nat) (alarm : Bool) :
    (s.goodPoll c m setup value alarm).inputs = s.inputs := by
  unfold State.goodPoll; dsimp only; split; · simp
  split <;> simp
@[simp] theorem State.goodPoll_contributors (s : State) (c : Settings) (m : Fin 8) (setup : MeterSetup) (value : Nat) (alarm : Bool) :
    (s.goodPoll c m setup value alarm).contributors = s.contributors := by
  unfold State.goodPoll; dsimp only; split; · simp
  split <;> simp
@[simp] theorem State.goodPoll_subscriptions (s : State) (c : Settings) (m : Fin 8) (setup : MeterSetup) (value : Nat) (alarm : Bool) :
    (s.goodPoll c m setup value alarm).subscriptions = s.subscriptions := by
  unfold State.goodPoll; dsimp only; split; · simp
  split <;> simp
@[simp] theorem State.goodPoll_link (s : State) (c : Settings) (m : Fin 8) (setup : MeterSetup) (value : Nat) (alarm : Bool) :
    (s.goodPoll c m setup value alarm).link = s.link := by
  unfold State.goodPoll; dsimp only; split; · simp
  split <;> simp
@[simp] theorem State.goodPoll_requests (s : State) (c : Settings) (m : Fin 8) (setup : MeterSetup) (value : Nat) (alarm : Bool) :
    (s.goodPoll c m setup value alarm).requests = s.requests := by
  unfold State.goodPoll; dsimp only; split; · simp
  split <;> simp
@[simp] theorem State.goodPoll_pending (s : State) (c : Settings) (m : Fin 8) (setup : MeterSetup) (value : Nat) (alarm : Bool) :
    (s.goodPoll c m setup value alarm).pending = s.pending := by
  unfold State.goodPoll; dsimp only; split; · simp
  split <;> simp

/-! `failPoll` -/

@[simp] theorem State.failPoll_loader (s : State) (m : Fin 8) :
    (s.failPoll m).loader = s.loader := by
  unfold State.failPoll; dsimp only; split <;> simp
@[simp] theorem State.failPoll_settings (s : State) (m : Fin 8) :
    (s.failPoll m).settings = s.settings := by
  unfold State.failPoll; dsimp only; split <;> simp
@[simp] theorem State.failPoll_time (s : State) (m : Fin 8) :
    (s.failPoll m).time = s.time := by
  unfold State.failPoll; dsimp only; split <;> simp
@[simp] theorem State.failPoll_inputs (s : State) (m : Fin 8) :
    (s.failPoll m).inputs = s.inputs := by
  unfold State.failPoll; dsimp only; split <;> simp
@[simp] theorem State.failPoll_bank (s : State) (m : Fin 8) :
    (s.failPoll m).bank = s.bank := by
  unfold State.failPoll; dsimp only; split <;> simp
@[simp] theorem State.failPoll_contributors (s : State) (m : Fin 8) :
    (s.failPoll m).contributors = s.contributors := by
  unfold State.failPoll; dsimp only; split <;> simp
@[simp] theorem State.failPoll_subscriptions (s : State) (m : Fin 8) :
    (s.failPoll m).subscriptions = s.subscriptions := by
  unfold State.failPoll; dsimp only; split <;> simp
@[simp] theorem State.failPoll_link (s : State) (m : Fin 8) :
    (s.failPoll m).link = s.link := by
  unfold State.failPoll; dsimp only; split <;> simp
@[simp] theorem State.failPoll_requests (s : State) (m : Fin 8) :
    (s.failPoll m).requests = s.requests := by
  unfold State.failPoll; dsimp only; split <;> simp
@[simp] theorem State.failPoll_pending (s : State) (m : Fin 8) :
    (s.failPoll m).pending = s.pending := by
  unfold State.failPoll; dsimp only; split <;> simp

/-! `pollFails` -/

@[simp] theorem State.pollFails_loader (s : State) (c : Settings) (m : Fin 8) :
    (s.pollFails c m).loader = s.loader := by
  simp [State.pollFails]
@[simp] theorem State.pollFails_settings (s : State) (c : Settings) (m : Fin 8) :
    (s.pollFails c m).settings = s.settings := by
  simp [State.pollFails]
@[simp] theorem State.pollFails_time (s : State) (c : Settings) (m : Fin 8) :
    (s.pollFails c m).time = s.time := by
  simp [State.pollFails]
@[simp] theorem State.pollFails_inputs (s : State) (c : Settings) (m : Fin 8) :
    (s.pollFails c m).inputs = s.inputs := by
  simp [State.pollFails]
@[simp] theorem State.pollFails_bank (s : State) (c : Settings) (m : Fin 8) :
    (s.pollFails c m).bank = s.bank := by
  simp [State.pollFails]
@[simp] theorem State.pollFails_contributors (s : State) (c : Settings) (m : Fin 8) :
    (s.pollFails c m).contributors = s.contributors := by
  simp [State.pollFails]
@[simp] theorem State.pollFails_subscriptions (s : State) (c : Settings) (m : Fin 8) :
    (s.pollFails c m).subscriptions = s.subscriptions := by
  simp [State.pollFails]
@[simp] theorem State.pollFails_link (s : State) (c : Settings) (m : Fin 8) :
    (s.pollFails c m).link = s.link := by
  simp [State.pollFails]
@[simp] theorem State.pollFails_requests (s : State) (c : Settings) (m : Fin 8) :
    (s.pollFails c m).requests = s.requests := by
  simp [State.pollFails]
@[simp] theorem State.pollFails_pending (s : State) (c : Settings) (m : Fin 8) :
    (s.pollFails c m).pending = s.pending := by
  simp [State.pollFails]

/-! `sendRequest` -/

@[simp] theorem State.sendRequest_loader (s : State) :
    s.sendRequest.loader = s.loader := by
  unfold State.sendRequest; repeat' split
  all_goals rfl
@[simp] theorem State.sendRequest_settings (s : State) :
    s.sendRequest.settings = s.settings := by
  unfold State.sendRequest; repeat' split
  all_goals rfl
@[simp] theorem State.sendRequest_time (s : State) :
    s.sendRequest.time = s.time := by
  unfold State.sendRequest; repeat' split
  all_goals rfl
@[simp] theorem State.sendRequest_inputs (s : State) :
    s.sendRequest.inputs = s.inputs := by
  unfold State.sendRequest; repeat' split
  all_goals rfl
@[simp] theorem State.sendRequest_bank (s : State) :
    s.sendRequest.bank = s.bank := by
  unfold State.sendRequest; repeat' split
  all_goals rfl
@[simp] theorem State.sendRequest_book (s : State) :
    s.sendRequest.book = s.book := by
  unfold State.sendRequest; repeat' split
  all_goals rfl
@[simp] theorem State.sendRequest_contributors (s : State) :
    s.sendRequest.contributors = s.contributors := by
  unfold State.sendRequest; repeat' split
  all_goals rfl
@[simp] theorem State.sendRequest_subscriptions (s : State) :
    s.sendRequest.subscriptions = s.subscriptions := by
  unfold State.sendRequest; repeat' split
  all_goals rfl
@[simp] theorem State.sendRequest_link (s : State) :
    s.sendRequest.link = s.link := by
  unfold State.sendRequest; repeat' split
  all_goals rfl
@[simp] theorem State.sendRequest_requests (s : State) :
    s.sendRequest.requests = s.requests := by
  unfold State.sendRequest; repeat' split
  all_goals rfl
@[simp] theorem State.sendRequest_alerts (s : State) :
    s.sendRequest.alerts = s.alerts := by
  unfold State.sendRequest; repeat' split
  all_goals rfl
@[simp] theorem State.sendRequest_pending (s : State) :
    s.sendRequest.pending = s.pending := by
  unfold State.sendRequest; repeat' split
  all_goals rfl

/-! `judgeReply` -/

@[simp] theorem State.judgeReply_loader (s : State) (reply : MeterReply) :
    (s.judgeReply reply).loader = s.loader := by
  unfold State.judgeReply; dsimp only; repeat' split
  all_goals simp
@[simp] theorem State.judgeReply_settings (s : State) (reply : MeterReply) :
    (s.judgeReply reply).settings = s.settings := by
  unfold State.judgeReply; dsimp only; repeat' split
  all_goals simp
@[simp] theorem State.judgeReply_time (s : State) (reply : MeterReply) :
    (s.judgeReply reply).time = s.time := by
  unfold State.judgeReply; dsimp only; repeat' split
  all_goals simp
@[simp] theorem State.judgeReply_inputs (s : State) (reply : MeterReply) :
    (s.judgeReply reply).inputs = s.inputs := by
  unfold State.judgeReply; dsimp only; repeat' split
  all_goals simp
@[simp] theorem State.judgeReply_contributors (s : State) (reply : MeterReply) :
    (s.judgeReply reply).contributors = s.contributors := by
  unfold State.judgeReply; dsimp only; repeat' split
  all_goals simp
@[simp] theorem State.judgeReply_subscriptions (s : State) (reply : MeterReply) :
    (s.judgeReply reply).subscriptions = s.subscriptions := by
  unfold State.judgeReply; dsimp only; repeat' split
  all_goals simp
@[simp] theorem State.judgeReply_link (s : State) (reply : MeterReply) :
    (s.judgeReply reply).link = s.link := by
  unfold State.judgeReply; dsimp only; repeat' split
  all_goals simp
@[simp] theorem State.judgeReply_requests (s : State) (reply : MeterReply) :
    (s.judgeReply reply).requests = s.requests := by
  unfold State.judgeReply; dsimp only; repeat' split
  all_goals simp
@[simp] theorem State.judgeReply_pending (s : State) (reply : MeterReply) :
    (s.judgeReply reply).pending = s.pending := by
  unfold State.judgeReply; dsimp only; repeat' split
  all_goals simp

/-! `queueTally` -/

@[simp] theorem State.queueTally_loader (s : State) (closed : Entry) :
    (s.queueTally closed).loader = s.loader := by
  unfold State.queueTally; split <;> simp
@[simp] theorem State.queueTally_settings (s : State) (closed : Entry) :
    (s.queueTally closed).settings = s.settings := by
  unfold State.queueTally; split <;> simp
@[simp] theorem State.queueTally_time (s : State) (closed : Entry) :
    (s.queueTally closed).time = s.time := by
  unfold State.queueTally; split <;> simp
@[simp] theorem State.queueTally_inputs (s : State) (closed : Entry) :
    (s.queueTally closed).inputs = s.inputs := by
  unfold State.queueTally; split <;> simp
@[simp] theorem State.queueTally_bank (s : State) (closed : Entry) :
    (s.queueTally closed).bank = s.bank := by
  unfold State.queueTally; split <;> simp
@[simp] theorem State.queueTally_meter (s : State) (closed : Entry) :
    (s.queueTally closed).meter = s.meter := by
  unfold State.queueTally; split <;> simp
@[simp] theorem State.queueTally_book (s : State) (closed : Entry) :
    (s.queueTally closed).book = s.book := by
  unfold State.queueTally; split <;> simp
@[simp] theorem State.queueTally_contributors (s : State) (closed : Entry) :
    (s.queueTally closed).contributors = s.contributors := by
  unfold State.queueTally; split <;> simp
@[simp] theorem State.queueTally_subscriptions (s : State) (closed : Entry) :
    (s.queueTally closed).subscriptions = s.subscriptions := by
  unfold State.queueTally; split <;> simp
@[simp] theorem State.queueTally_requests (s : State) (closed : Entry) :
    (s.queueTally closed).requests = s.requests := by
  unfold State.queueTally; split <;> simp
@[simp] theorem State.queueTally_pending (s : State) (closed : Entry) :
    (s.queueTally closed).pending = s.pending := by
  unfold State.queueTally; split <;> simp

/-! `closeOpen` -/

@[simp] theorem State.closeOpen_loader (s : State) (kind : EntryKind) :
    (s.closeOpen kind).loader = s.loader := by
  unfold State.closeOpen; split; · dsimp only; split <;> simp
  rfl
@[simp] theorem State.closeOpen_settings (s : State) (kind : EntryKind) :
    (s.closeOpen kind).settings = s.settings := by
  unfold State.closeOpen; split; · dsimp only; split <;> simp
  rfl
@[simp] theorem State.closeOpen_inputs (s : State) (kind : EntryKind) :
    (s.closeOpen kind).inputs = s.inputs := by
  unfold State.closeOpen; split; · dsimp only; split <;> simp
  rfl
@[simp] theorem State.closeOpen_contributors (s : State) (kind : EntryKind) :
    (s.closeOpen kind).contributors = s.contributors := by
  unfold State.closeOpen; split; · dsimp only; split <;> simp
  rfl
@[simp] theorem State.closeOpen_requests (s : State) (kind : EntryKind) :
    (s.closeOpen kind).requests = s.requests := by
  unfold State.closeOpen; split; · dsimp only; split <;> simp
  rfl
@[simp] theorem State.closeOpen_pending (s : State) (kind : EntryKind) :
    (s.closeOpen kind).pending = s.pending := by
  unfold State.closeOpen; split; · dsimp only; split <;> simp
  rfl

/-! `evict` -/

@[simp] theorem State.evict_loader (s : State) :
    s.evict.loader = s.loader := by
  unfold State.evict; split; · rfl
  split; · rfl
  dsimp only; split <;> simp
@[simp] theorem State.evict_settings (s : State) :
    s.evict.settings = s.settings := by
  unfold State.evict; split; · rfl
  split; · rfl
  dsimp only; split <;> simp
@[simp] theorem State.evict_inputs (s : State) :
    s.evict.inputs = s.inputs := by
  unfold State.evict; split; · rfl
  split; · rfl
  dsimp only; split <;> simp
@[simp] theorem State.evict_bank (s : State) :
    s.evict.bank = s.bank := by
  unfold State.evict; split; · rfl
  split; · rfl
  dsimp only; split <;> simp
@[simp] theorem State.evict_meter (s : State) :
    s.evict.meter = s.meter := by
  unfold State.evict; split; · rfl
  split; · rfl
  dsimp only; split <;> simp
@[simp] theorem State.evict_contributors (s : State) :
    s.evict.contributors = s.contributors := by
  unfold State.evict; split; · rfl
  split; · rfl
  dsimp only; split <;> simp
@[simp] theorem State.evict_requests (s : State) :
    s.evict.requests = s.requests := by
  unfold State.evict; split; · rfl
  split; · rfl
  dsimp only; split <;> simp
@[simp] theorem State.evict_pending (s : State) :
    s.evict.pending = s.pending := by
  unfold State.evict; split; · rfl
  split; · rfl
  dsimp only; split <;> simp

/-! `removeNumber` -/

@[simp] theorem State.removeNumber_loader (s : State) (number : Option Period) :
    (s.removeNumber number).loader = s.loader := by
  unfold State.removeNumber; split; · rfl
  split <;> simp
@[simp] theorem State.removeNumber_settings (s : State) (number : Option Period) :
    (s.removeNumber number).settings = s.settings := by
  unfold State.removeNumber; split; · rfl
  split <;> simp
@[simp] theorem State.removeNumber_inputs (s : State) (number : Option Period) :
    (s.removeNumber number).inputs = s.inputs := by
  unfold State.removeNumber; split; · rfl
  split <;> simp
@[simp] theorem State.removeNumber_bank (s : State) (number : Option Period) :
    (s.removeNumber number).bank = s.bank := by
  unfold State.removeNumber; split; · rfl
  split <;> simp
@[simp] theorem State.removeNumber_meter (s : State) (number : Option Period) :
    (s.removeNumber number).meter = s.meter := by
  unfold State.removeNumber; split; · rfl
  split <;> simp
@[simp] theorem State.removeNumber_contributors (s : State) (number : Option Period) :
    (s.removeNumber number).contributors = s.contributors := by
  unfold State.removeNumber; split; · rfl
  split <;> simp
@[simp] theorem State.removeNumber_requests (s : State) (number : Option Period) :
    (s.removeNumber number).requests = s.requests := by
  unfold State.removeNumber; split; · rfl
  split <;> simp
@[simp] theorem State.removeNumber_pending (s : State) (number : Option Period) :
    (s.removeNumber number).pending = s.pending := by
  unfold State.removeNumber; split; · rfl
  split <;> simp

/-! `addEntry` -/

@[simp] theorem State.addEntry_loader (s : State) (number : Option Period) (cause : Cause) :
    (s.addEntry number cause).loader = s.loader := by
  unfold State.addEntry; split <;> rfl
@[simp] theorem State.addEntry_settings (s : State) (number : Option Period) (cause : Cause) :
    (s.addEntry number cause).settings = s.settings := by
  unfold State.addEntry; split <;> rfl
@[simp] theorem State.addEntry_time (s : State) (number : Option Period) (cause : Cause) :
    (s.addEntry number cause).time = s.time := by
  unfold State.addEntry; split <;> rfl
@[simp] theorem State.addEntry_inputs (s : State) (number : Option Period) (cause : Cause) :
    (s.addEntry number cause).inputs = s.inputs := by
  unfold State.addEntry; split <;> rfl
@[simp] theorem State.addEntry_bank (s : State) (number : Option Period) (cause : Cause) :
    (s.addEntry number cause).bank = s.bank := by
  unfold State.addEntry; split <;> rfl
@[simp] theorem State.addEntry_meter (s : State) (number : Option Period) (cause : Cause) :
    (s.addEntry number cause).meter = s.meter := by
  unfold State.addEntry; split <;> rfl
@[simp] theorem State.addEntry_contributors (s : State) (number : Option Period) (cause : Cause) :
    (s.addEntry number cause).contributors = s.contributors := by
  unfold State.addEntry; split <;> rfl
@[simp] theorem State.addEntry_subscriptions (s : State) (number : Option Period) (cause : Cause) :
    (s.addEntry number cause).subscriptions = s.subscriptions := by
  unfold State.addEntry; split <;> rfl
@[simp] theorem State.addEntry_requests (s : State) (number : Option Period) (cause : Cause) :
    (s.addEntry number cause).requests = s.requests := by
  unfold State.addEntry; split <;> rfl
@[simp] theorem State.addEntry_alerts (s : State) (number : Option Period) (cause : Cause) :
    (s.addEntry number cause).alerts = s.alerts := by
  unfold State.addEntry; split <;> rfl
@[simp] theorem State.addEntry_pending (s : State) (number : Option Period) (cause : Cause) :
    (s.addEntry number cause).pending = s.pending := by
  unfold State.addEntry; split <;> rfl

/-! `openNew` -/

@[simp] theorem State.openNew_loader (s : State) (number : Option Period) (cause : Cause) :
    (s.openNew number cause).loader = s.loader := by
  unfold State.openNew; dsimp only; split <;> simp
@[simp] theorem State.openNew_settings (s : State) (number : Option Period) (cause : Cause) :
    (s.openNew number cause).settings = s.settings := by
  unfold State.openNew; dsimp only; split <;> simp
@[simp] theorem State.openNew_inputs (s : State) (number : Option Period) (cause : Cause) :
    (s.openNew number cause).inputs = s.inputs := by
  unfold State.openNew; dsimp only; split <;> simp
@[simp] theorem State.openNew_meter (s : State) (number : Option Period) (cause : Cause) :
    (s.openNew number cause).meter = s.meter := by
  unfold State.openNew; dsimp only; split <;> simp
@[simp] theorem State.openNew_contributors (s : State) (number : Option Period) (cause : Cause) :
    (s.openNew number cause).contributors = s.contributors := by
  unfold State.openNew; dsimp only; split <;> simp
@[simp] theorem State.openNew_requests (s : State) (number : Option Period) (cause : Cause) :
    (s.openNew number cause).requests = s.requests := by
  unfold State.openNew; dsimp only; split <;> simp
@[simp] theorem State.openNew_pending (s : State) (number : Option Period) (cause : Cause) :
    (s.openNew number cause).pending = s.pending := by
  unfold State.openNew; dsimp only; split <;> simp

/-! `clearTimebase` -/

@[simp] theorem State.clearTimebase_loader (s : State) :
    s.clearTimebase.loader = s.loader := by
  unfold State.clearTimebase; split <;> simp
@[simp] theorem State.clearTimebase_settings (s : State) :
    s.clearTimebase.settings = s.settings := by
  unfold State.clearTimebase; split <;> simp
@[simp] theorem State.clearTimebase_inputs (s : State) :
    s.clearTimebase.inputs = s.inputs := by
  unfold State.clearTimebase; split <;> simp
@[simp] theorem State.clearTimebase_bank (s : State) :
    s.clearTimebase.bank = s.bank := by
  unfold State.clearTimebase; split <;> simp
@[simp] theorem State.clearTimebase_meter (s : State) :
    s.clearTimebase.meter = s.meter := by
  unfold State.clearTimebase; split <;> simp
@[simp] theorem State.clearTimebase_book (s : State) :
    s.clearTimebase.book = s.book := by
  unfold State.clearTimebase; split <;> simp
@[simp] theorem State.clearTimebase_contributors (s : State) :
    s.clearTimebase.contributors = s.contributors := by
  unfold State.clearTimebase; split <;> simp
@[simp] theorem State.clearTimebase_subscriptions (s : State) :
    s.clearTimebase.subscriptions = s.subscriptions := by
  unfold State.clearTimebase; split <;> simp
@[simp] theorem State.clearTimebase_link (s : State) :
    s.clearTimebase.link = s.link := by
  unfold State.clearTimebase; split <;> simp
@[simp] theorem State.clearTimebase_requests (s : State) :
    s.clearTimebase.requests = s.requests := by
  unfold State.clearTimebase; split <;> simp
@[simp] theorem State.clearTimebase_pending (s : State) :
    s.clearTimebase.pending = s.pending := by
  unfold State.clearTimebase; split <;> simp

/-! `boundary` -/

@[simp] theorem State.boundary_loader (s : State) (passed : Option Nat) (number : Period) (cause : Cause) :
    (s.boundary passed number cause).loader = s.loader := by
  unfold State.boundary; dsimp only; cases passed <;> dsimp only <;> split <;> simp
@[simp] theorem State.boundary_settings (s : State) (passed : Option Nat) (number : Period) (cause : Cause) :
    (s.boundary passed number cause).settings = s.settings := by
  unfold State.boundary; dsimp only; cases passed <;> dsimp only <;> split <;> simp
@[simp] theorem State.boundary_inputs (s : State) (passed : Option Nat) (number : Period) (cause : Cause) :
    (s.boundary passed number cause).inputs = s.inputs := by
  unfold State.boundary; dsimp only; cases passed <;> dsimp only <;> split <;> simp
@[simp] theorem State.boundary_contributors (s : State) (passed : Option Nat) (number : Period) (cause : Cause) :
    (s.boundary passed number cause).contributors = s.contributors := by
  unfold State.boundary; dsimp only; cases passed <;> dsimp only <;> split <;> simp
@[simp] theorem State.boundary_requests (s : State) (passed : Option Nat) (number : Period) (cause : Cause) :
    (s.boundary passed number cause).requests = s.requests := by
  unfold State.boundary; dsimp only; cases passed <;> dsimp only <;> split <;> simp
@[simp] theorem State.boundary_pending (s : State) (passed : Option Nat) (number : Period) (cause : Cause) :
    (s.boundary passed number cause).pending = s.pending := by
  unfold State.boundary; dsimp only; cases passed <;> dsimp only <;> split <;> simp

/-! `ownExpiry` -/

@[simp] theorem State.ownExpiry_loader (s : State) :
    s.ownExpiry.loader = s.loader := by
  unfold State.ownExpiry; split <;> simp
@[simp] theorem State.ownExpiry_settings (s : State) :
    s.ownExpiry.settings = s.settings := by
  unfold State.ownExpiry; split <;> simp
@[simp] theorem State.ownExpiry_inputs (s : State) :
    s.ownExpiry.inputs = s.inputs := by
  unfold State.ownExpiry; split <;> simp
@[simp] theorem State.ownExpiry_contributors (s : State) :
    s.ownExpiry.contributors = s.contributors := by
  unfold State.ownExpiry; split <;> simp
@[simp] theorem State.ownExpiry_requests (s : State) :
    s.ownExpiry.requests = s.requests := by
  unfold State.ownExpiry; split <;> simp
@[simp] theorem State.ownExpiry_pending (s : State) :
    s.ownExpiry.pending = s.pending := by
  unfold State.ownExpiry; split <;> simp

/-! `soloEnd` -/

@[simp] theorem State.soloEnd_loader (s : State) :
    s.soloEnd.loader = s.loader := by
  simp [State.soloEnd]
@[simp] theorem State.soloEnd_settings (s : State) :
    s.soloEnd.settings = s.settings := by
  simp [State.soloEnd]
@[simp] theorem State.soloEnd_inputs (s : State) :
    s.soloEnd.inputs = s.inputs := by
  simp [State.soloEnd]
@[simp] theorem State.soloEnd_contributors (s : State) :
    s.soloEnd.contributors = s.contributors := by
  simp [State.soloEnd]
@[simp] theorem State.soloEnd_requests (s : State) :
    s.soloEnd.requests = s.requests := by
  simp [State.soloEnd]
@[simp] theorem State.soloEnd_pending (s : State) :
    s.soloEnd.pending = s.pending := by
  simp [State.soloEnd]

/-! `heardMark` -/

@[simp] theorem State.heardMark_loader (s : State) (n : Period) (station : Nat) :
    (s.heardMark n station).loader = s.loader := by
  unfold State.heardMark; split; · simp
  · split; · simp
    split; · simp
    split <;> simp
  rfl
@[simp] theorem State.heardMark_settings (s : State) (n : Period) (station : Nat) :
    (s.heardMark n station).settings = s.settings := by
  unfold State.heardMark; split; · simp
  · split; · simp
    split; · simp
    split <;> simp
  rfl
@[simp] theorem State.heardMark_inputs (s : State) (n : Period) (station : Nat) :
    (s.heardMark n station).inputs = s.inputs := by
  unfold State.heardMark; split; · simp
  · split; · simp
    split; · simp
    split <;> simp
  rfl
@[simp] theorem State.heardMark_contributors (s : State) (n : Period) (station : Nat) :
    (s.heardMark n station).contributors = s.contributors := by
  unfold State.heardMark; split; · simp
  · split; · simp
    split; · simp
    split <;> simp
  rfl
@[simp] theorem State.heardMark_requests (s : State) (n : Period) (station : Nat) :
    (s.heardMark n station).requests = s.requests := by
  unfold State.heardMark; split; · simp
  · split; · simp
    split; · simp
    split <;> simp
  rfl
@[simp] theorem State.heardMark_pending (s : State) (n : Period) (station : Nat) :
    (s.heardMark n station).pending = s.pending := by
  unfold State.heardMark; split; · simp
  · split; · simp
    split; · simp
    split <;> simp
  rfl

/-! `evidence` -/

@[simp] theorem State.evidence_loader (s : State) (n : Period) (station : Nat) :
    (s.evidence n station).loader = s.loader := by
  unfold State.evidence; split; · simp
  · split; · simp
    split <;> simp
  rfl
@[simp] theorem State.evidence_settings (s : State) (n : Period) (station : Nat) :
    (s.evidence n station).settings = s.settings := by
  unfold State.evidence; split; · simp
  · split; · simp
    split <;> simp
  rfl
@[simp] theorem State.evidence_inputs (s : State) (n : Period) (station : Nat) :
    (s.evidence n station).inputs = s.inputs := by
  unfold State.evidence; split; · simp
  · split; · simp
    split <;> simp
  rfl
@[simp] theorem State.evidence_contributors (s : State) (n : Period) (station : Nat) :
    (s.evidence n station).contributors = s.contributors := by
  unfold State.evidence; split; · simp
  · split; · simp
    split <;> simp
  rfl
@[simp] theorem State.evidence_requests (s : State) (n : Period) (station : Nat) :
    (s.evidence n station).requests = s.requests := by
  unfold State.evidence; split; · simp
  · split; · simp
    split <;> simp
  rfl
@[simp] theorem State.evidence_pending (s : State) (n : Period) (station : Nat) :
    (s.evidence n station).pending = s.pending := by
  unfold State.evidence; split; · simp
  · split; · simp
    split <;> simp
  rfl

/-! `strikes` -/

@[simp] theorem State.strikes_loader (es : List Entry) (s : State) :
    (es.foldl State.strike s).loader = s.loader := by
  induction es generalizing s with
  | nil => rfl
  | cons e es ih => simp [ih]
@[simp] theorem State.strikes_settings (es : List Entry) (s : State) :
    (es.foldl State.strike s).settings = s.settings := by
  induction es generalizing s with
  | nil => rfl
  | cons e es ih => simp [ih]
@[simp] theorem State.strikes_inputs (es : List Entry) (s : State) :
    (es.foldl State.strike s).inputs = s.inputs := by
  induction es generalizing s with
  | nil => rfl
  | cons e es ih => simp [ih]
@[simp] theorem State.strikes_bank (es : List Entry) (s : State) :
    (es.foldl State.strike s).bank = s.bank := by
  induction es generalizing s with
  | nil => rfl
  | cons e es ih => simp [ih]
@[simp] theorem State.strikes_meter (es : List Entry) (s : State) :
    (es.foldl State.strike s).meter = s.meter := by
  induction es generalizing s with
  | nil => rfl
  | cons e es ih => simp [ih]
@[simp] theorem State.strikes_contributors (es : List Entry) (s : State) :
    (es.foldl State.strike s).contributors = s.contributors := by
  induction es generalizing s with
  | nil => rfl
  | cons e es ih => simp [ih]
@[simp] theorem State.strikes_requests (es : List Entry) (s : State) :
    (es.foldl State.strike s).requests = s.requests := by
  induction es generalizing s with
  | nil => rfl
  | cons e es ih => simp [ih]
@[simp] theorem State.strikes_pending (es : List Entry) (s : State) :
    (es.foldl State.strike s).pending = s.pending := by
  induction es generalizing s with
  | nil => rfl
  | cons e es ih => simp [ih]

/-! `discharge` -/

@[simp] theorem State.discharge_loader (s : State) :
    s.discharge.loader = s.loader := by
  unfold State.discharge; dsimp only; split <;> split <;> split <;> simp
@[simp] theorem State.discharge_settings (s : State) :
    s.discharge.settings = s.settings := by
  unfold State.discharge; dsimp only; split <;> split <;> split <;> simp
@[simp] theorem State.discharge_inputs (s : State) :
    s.discharge.inputs = s.inputs := by
  unfold State.discharge; dsimp only; split <;> split <;> split <;> simp
@[simp] theorem State.discharge_contributors (s : State) :
    s.discharge.contributors = s.contributors := by
  unfold State.discharge; dsimp only; split <;> split <;> split <;> simp
@[simp] theorem State.discharge_requests (s : State) :
    s.discharge.requests = s.requests := by
  unfold State.discharge; dsimp only; split <;> split <;> split <;> simp
@[simp] theorem State.discharge_pending (s : State) :
    s.discharge.pending = s.pending := by
  unfold State.discharge; dsimp only; split <;> split <;> split <;> simp

/-! `overdue` -/

@[simp] theorem State.overdue_loader (s : State) :
    s.overdue.loader = s.loader := by
  unfold State.overdue; split <;> simp
@[simp] theorem State.overdue_settings (s : State) :
    s.overdue.settings = s.settings := by
  unfold State.overdue; split <;> simp
@[simp] theorem State.overdue_inputs (s : State) :
    s.overdue.inputs = s.inputs := by
  unfold State.overdue; split <;> simp
@[simp] theorem State.overdue_contributors (s : State) :
    s.overdue.contributors = s.contributors := by
  unfold State.overdue; split <;> simp
@[simp] theorem State.overdue_requests (s : State) :
    s.overdue.requests = s.requests := by
  unfold State.overdue; split <;> simp
@[simp] theorem State.overdue_pending (s : State) :
    s.overdue.pending = s.pending := by
  unfold State.overdue; split <;> simp

/-! `countTick` -/

@[simp] theorem State.countTick_loader (s : State) :
    s.countTick.loader = s.loader := by
  unfold State.countTick; split; · rfl
  split <;> rfl
@[simp] theorem State.countTick_settings (s : State) :
    s.countTick.settings = s.settings := by
  unfold State.countTick; split; · rfl
  split <;> rfl
@[simp] theorem State.countTick_inputs (s : State) :
    s.countTick.inputs = s.inputs := by
  unfold State.countTick; split; · rfl
  split <;> rfl
@[simp] theorem State.countTick_meter (s : State) :
    s.countTick.meter = s.meter := by
  unfold State.countTick; split; · rfl
  split <;> rfl
@[simp] theorem State.countTick_contributors (s : State) :
    s.countTick.contributors = s.contributors := by
  unfold State.countTick; split; · rfl
  split <;> rfl
@[simp] theorem State.countTick_subscriptions (s : State) :
    s.countTick.subscriptions = s.subscriptions := by
  unfold State.countTick; split; · rfl
  split <;> rfl
@[simp] theorem State.countTick_link (s : State) :
    s.countTick.link = s.link := by
  unfold State.countTick; split; · rfl
  split <;> rfl
@[simp] theorem State.countTick_requests (s : State) :
    s.countTick.requests = s.requests := by
  unfold State.countTick; split; · rfl
  split <;> rfl
@[simp] theorem State.countTick_alerts (s : State) :
    s.countTick.alerts = s.alerts := by
  unfold State.countTick; split; · rfl
  split <;> rfl
@[simp] theorem State.countTick_pending (s : State) :
    s.countTick.pending = s.pending := by
  unfold State.countTick; split; · rfl
  split <;> rfl

/-! `baseTick` -/

@[simp] theorem State.baseTick_loader (s : State) :
    s.baseTick.loader = s.loader := by
  simp [State.baseTick]
@[simp] theorem State.baseTick_settings (s : State) :
    s.baseTick.settings = s.settings := by
  simp [State.baseTick]
@[simp] theorem State.baseTick_inputs (s : State) :
    s.baseTick.inputs = s.inputs := by
  simp [State.baseTick]
@[simp] theorem State.baseTick_contributors (s : State) :
    s.baseTick.contributors = s.contributors := by
  simp [State.baseTick]
@[simp] theorem State.baseTick_requests (s : State) :
    s.baseTick.requests = s.requests := by
  simp [State.baseTick]
@[simp] theorem State.baseTick_pending (s : State) :
    s.baseTick.pending = s.pending := by
  simp [State.baseTick]

/-! `secondPulse` -/

@[simp] theorem State.secondPulse_loader (s : State) :
    s.secondPulse.loader = s.loader := by
  unfold State.secondPulse; split <;> simp
@[simp] theorem State.secondPulse_settings (s : State) :
    s.secondPulse.settings = s.settings := by
  unfold State.secondPulse; split <;> simp
@[simp] theorem State.secondPulse_inputs (s : State) :
    s.secondPulse.inputs = s.inputs := by
  unfold State.secondPulse; split <;> simp
@[simp] theorem State.secondPulse_contributors (s : State) :
    s.secondPulse.contributors = s.contributors := by
  unfold State.secondPulse; split <;> simp
@[simp] theorem State.secondPulse_requests (s : State) :
    s.secondPulse.requests = s.requests := by
  unfold State.secondPulse; split <;> simp
@[simp] theorem State.secondPulse_pending (s : State) :
    s.secondPulse.pending = s.pending := by
  unfold State.secondPulse; split <;> simp

/-! `reviseAllot` -/

@[simp] theorem State.reviseAllot_loader (s : State) (role : Role) (n : Period) (e : Entry) (p : AllotPart) (station basis : Nat) :
    (s.reviseAllot role n e p station basis).loader = s.loader := by
  simp [State.reviseAllot]
@[simp] theorem State.reviseAllot_settings (s : State) (role : Role) (n : Period) (e : Entry) (p : AllotPart) (station basis : Nat) :
    (s.reviseAllot role n e p station basis).settings = s.settings := by
  simp [State.reviseAllot]
@[simp] theorem State.reviseAllot_time (s : State) (role : Role) (n : Period) (e : Entry) (p : AllotPart) (station basis : Nat) :
    (s.reviseAllot role n e p station basis).time = s.time := by
  simp [State.reviseAllot]
@[simp] theorem State.reviseAllot_inputs (s : State) (role : Role) (n : Period) (e : Entry) (p : AllotPart) (station basis : Nat) :
    (s.reviseAllot role n e p station basis).inputs = s.inputs := by
  simp [State.reviseAllot]
@[simp] theorem State.reviseAllot_bank (s : State) (role : Role) (n : Period) (e : Entry) (p : AllotPart) (station basis : Nat) :
    (s.reviseAllot role n e p station basis).bank = s.bank := by
  simp [State.reviseAllot]
@[simp] theorem State.reviseAllot_meter (s : State) (role : Role) (n : Period) (e : Entry) (p : AllotPart) (station basis : Nat) :
    (s.reviseAllot role n e p station basis).meter = s.meter := by
  simp [State.reviseAllot]
@[simp] theorem State.reviseAllot_contributors (s : State) (role : Role) (n : Period) (e : Entry) (p : AllotPart) (station basis : Nat) :
    (s.reviseAllot role n e p station basis).contributors = s.contributors := by
  simp [State.reviseAllot]
@[simp] theorem State.reviseAllot_subscriptions (s : State) (role : Role) (n : Period) (e : Entry) (p : AllotPart) (station basis : Nat) :
    (s.reviseAllot role n e p station basis).subscriptions = s.subscriptions := by
  simp [State.reviseAllot]
@[simp] theorem State.reviseAllot_requests (s : State) (role : Role) (n : Period) (e : Entry) (p : AllotPart) (station basis : Nat) :
    (s.reviseAllot role n e p station basis).requests = s.requests := by
  simp [State.reviseAllot]
@[simp] theorem State.reviseAllot_pending (s : State) (role : Role) (n : Period) (e : Entry) (p : AllotPart) (station basis : Nat) :
    (s.reviseAllot role n e p station basis).pending = s.pending := by
  simp [State.reviseAllot]

/-! `tallySettling` -/

@[simp] theorem State.tallySettling_loader (s : State) (e : Entry) (p : AllotPart) (station basis : Nat) :
    (s.tallySettling e p station basis).loader = s.loader := by
  unfold State.tallySettling; dsimp only; split <;> simp
@[simp] theorem State.tallySettling_settings (s : State) (e : Entry) (p : AllotPart) (station basis : Nat) :
    (s.tallySettling e p station basis).settings = s.settings := by
  unfold State.tallySettling; dsimp only; split <;> simp
@[simp] theorem State.tallySettling_inputs (s : State) (e : Entry) (p : AllotPart) (station basis : Nat) :
    (s.tallySettling e p station basis).inputs = s.inputs := by
  unfold State.tallySettling; dsimp only; split <;> simp
@[simp] theorem State.tallySettling_bank (s : State) (e : Entry) (p : AllotPart) (station basis : Nat) :
    (s.tallySettling e p station basis).bank = s.bank := by
  unfold State.tallySettling; dsimp only; split <;> simp
@[simp] theorem State.tallySettling_meter (s : State) (e : Entry) (p : AllotPart) (station basis : Nat) :
    (s.tallySettling e p station basis).meter = s.meter := by
  unfold State.tallySettling; dsimp only; split <;> simp
@[simp] theorem State.tallySettling_contributors (s : State) (e : Entry) (p : AllotPart) (station basis : Nat) :
    (s.tallySettling e p station basis).contributors = s.contributors := by
  unfold State.tallySettling; dsimp only; split <;> simp
@[simp] theorem State.tallySettling_requests (s : State) (e : Entry) (p : AllotPart) (station basis : Nat) :
    (s.tallySettling e p station basis).requests = s.requests := by
  unfold State.tallySettling; dsimp only; split <;> simp
@[simp] theorem State.tallySettling_pending (s : State) (e : Entry) (p : AllotPart) (station basis : Nat) :
    (s.tallySettling e p station basis).pending = s.pending := by
  unfold State.tallySettling; dsimp only; split <;> simp

/-! `tallyStruck` -/

@[simp] theorem State.tallyStruck_loader (s : State) (n : Period) (e : Entry) (p : AllotPart) (station basis : Nat) :
    (s.tallyStruck n e p station basis).loader = s.loader := by
  unfold State.tallyStruck; split; · rfl
  split; · rfl
  split <;> simp
@[simp] theorem State.tallyStruck_settings (s : State) (n : Period) (e : Entry) (p : AllotPart) (station basis : Nat) :
    (s.tallyStruck n e p station basis).settings = s.settings := by
  unfold State.tallyStruck; split; · rfl
  split; · rfl
  split <;> simp
@[simp] theorem State.tallyStruck_time (s : State) (n : Period) (e : Entry) (p : AllotPart) (station basis : Nat) :
    (s.tallyStruck n e p station basis).time = s.time := by
  unfold State.tallyStruck; split; · rfl
  split; · rfl
  split <;> simp
@[simp] theorem State.tallyStruck_inputs (s : State) (n : Period) (e : Entry) (p : AllotPart) (station basis : Nat) :
    (s.tallyStruck n e p station basis).inputs = s.inputs := by
  unfold State.tallyStruck; split; · rfl
  split; · rfl
  split <;> simp
@[simp] theorem State.tallyStruck_bank (s : State) (n : Period) (e : Entry) (p : AllotPart) (station basis : Nat) :
    (s.tallyStruck n e p station basis).bank = s.bank := by
  unfold State.tallyStruck; split; · rfl
  split; · rfl
  split <;> simp
@[simp] theorem State.tallyStruck_meter (s : State) (n : Period) (e : Entry) (p : AllotPart) (station basis : Nat) :
    (s.tallyStruck n e p station basis).meter = s.meter := by
  unfold State.tallyStruck; split; · rfl
  split; · rfl
  split <;> simp
@[simp] theorem State.tallyStruck_contributors (s : State) (n : Period) (e : Entry) (p : AllotPart) (station basis : Nat) :
    (s.tallyStruck n e p station basis).contributors = s.contributors := by
  unfold State.tallyStruck; split; · rfl
  split; · rfl
  split <;> simp
@[simp] theorem State.tallyStruck_subscriptions (s : State) (n : Period) (e : Entry) (p : AllotPart) (station basis : Nat) :
    (s.tallyStruck n e p station basis).subscriptions = s.subscriptions := by
  unfold State.tallyStruck; split; · rfl
  split; · rfl
  split <;> simp
@[simp] theorem State.tallyStruck_requests (s : State) (n : Period) (e : Entry) (p : AllotPart) (station basis : Nat) :
    (s.tallyStruck n e p station basis).requests = s.requests := by
  unfold State.tallyStruck; split; · rfl
  split; · rfl
  split <;> simp
@[simp] theorem State.tallyStruck_pending (s : State) (n : Period) (e : Entry) (p : AllotPart) (station basis : Nat) :
    (s.tallyStruck n e p station basis).pending = s.pending := by
  unfold State.tallyStruck; split; · rfl
  split; · rfl
  split <;> simp

/-! `tallyToBook` -/

@[simp] theorem State.tallyToBook_loader (s : State) (f : Frame) :
    (s.tallyToBook f).loader = s.loader := by
  unfold State.tallyToBook; split
  · split; · rfl
    dsimp only; split <;> simp
  · simp
@[simp] theorem State.tallyToBook_settings (s : State) (f : Frame) :
    (s.tallyToBook f).settings = s.settings := by
  unfold State.tallyToBook; split
  · split; · rfl
    dsimp only; split <;> simp
  · simp
@[simp] theorem State.tallyToBook_inputs (s : State) (f : Frame) :
    (s.tallyToBook f).inputs = s.inputs := by
  unfold State.tallyToBook; split
  · split; · rfl
    dsimp only; split <;> simp
  · simp
@[simp] theorem State.tallyToBook_bank (s : State) (f : Frame) :
    (s.tallyToBook f).bank = s.bank := by
  unfold State.tallyToBook; split
  · split; · rfl
    dsimp only; split <;> simp
  · simp
@[simp] theorem State.tallyToBook_meter (s : State) (f : Frame) :
    (s.tallyToBook f).meter = s.meter := by
  unfold State.tallyToBook; split
  · split; · rfl
    dsimp only; split <;> simp
  · simp
@[simp] theorem State.tallyToBook_requests (s : State) (f : Frame) :
    (s.tallyToBook f).requests = s.requests := by
  unfold State.tallyToBook; split
  · split; · rfl
    dsimp only; split <;> simp
  · simp
@[simp] theorem State.tallyToBook_pending (s : State) (f : Frame) :
    (s.tallyToBook f).pending = s.pending := by
  unfold State.tallyToBook; split
  · split; · rfl
    dsimp only; split <;> simp
  · simp

/-! `allotmentSettling` -/

@[simp] theorem State.allotmentSettling_loader (s : State) (e : Entry) (p : LinePart) (i : ShareItem) (x : TakenShare) :
    (s.allotmentSettling e p i x).loader = s.loader := by
  unfold State.allotmentSettling; dsimp only; split; · split <;> simp
  split <;> simp
@[simp] theorem State.allotmentSettling_settings (s : State) (e : Entry) (p : LinePart) (i : ShareItem) (x : TakenShare) :
    (s.allotmentSettling e p i x).settings = s.settings := by
  unfold State.allotmentSettling; dsimp only; split; · split <;> simp
  split <;> simp
@[simp] theorem State.allotmentSettling_inputs (s : State) (e : Entry) (p : LinePart) (i : ShareItem) (x : TakenShare) :
    (s.allotmentSettling e p i x).inputs = s.inputs := by
  unfold State.allotmentSettling; dsimp only; split; · split <;> simp
  split <;> simp
@[simp] theorem State.allotmentSettling_bank (s : State) (e : Entry) (p : LinePart) (i : ShareItem) (x : TakenShare) :
    (s.allotmentSettling e p i x).bank = s.bank := by
  unfold State.allotmentSettling; dsimp only; split; · split <;> simp
  split <;> simp
@[simp] theorem State.allotmentSettling_meter (s : State) (e : Entry) (p : LinePart) (i : ShareItem) (x : TakenShare) :
    (s.allotmentSettling e p i x).meter = s.meter := by
  unfold State.allotmentSettling; dsimp only; split; · split <;> simp
  split <;> simp
@[simp] theorem State.allotmentSettling_contributors (s : State) (e : Entry) (p : LinePart) (i : ShareItem) (x : TakenShare) :
    (s.allotmentSettling e p i x).contributors = s.contributors := by
  unfold State.allotmentSettling; dsimp only; split; · split <;> simp
  split <;> simp
@[simp] theorem State.allotmentSettling_requests (s : State) (e : Entry) (p : LinePart) (i : ShareItem) (x : TakenShare) :
    (s.allotmentSettling e p i x).requests = s.requests := by
  unfold State.allotmentSettling; dsimp only; split; · split <;> simp
  split <;> simp
@[simp] theorem State.allotmentSettling_pending (s : State) (e : Entry) (p : LinePart) (i : ShareItem) (x : TakenShare) :
    (s.allotmentSettling e p i x).pending = s.pending := by
  unfold State.allotmentSettling; dsimp only; split; · split <;> simp
  split <;> simp

/-! `allotmentStruck` -/

@[simp] theorem State.allotmentStruck_loader (s : State) (e : Entry) (p : LinePart) (i : ShareItem) (x : TakenShare) :
    (s.allotmentStruck e p i x).loader = s.loader := by
  unfold State.allotmentStruck; split <;> simp
@[simp] theorem State.allotmentStruck_settings (s : State) (e : Entry) (p : LinePart) (i : ShareItem) (x : TakenShare) :
    (s.allotmentStruck e p i x).settings = s.settings := by
  unfold State.allotmentStruck; split <;> simp
@[simp] theorem State.allotmentStruck_time (s : State) (e : Entry) (p : LinePart) (i : ShareItem) (x : TakenShare) :
    (s.allotmentStruck e p i x).time = s.time := by
  unfold State.allotmentStruck; split <;> simp
@[simp] theorem State.allotmentStruck_inputs (s : State) (e : Entry) (p : LinePart) (i : ShareItem) (x : TakenShare) :
    (s.allotmentStruck e p i x).inputs = s.inputs := by
  unfold State.allotmentStruck; split <;> simp
@[simp] theorem State.allotmentStruck_bank (s : State) (e : Entry) (p : LinePart) (i : ShareItem) (x : TakenShare) :
    (s.allotmentStruck e p i x).bank = s.bank := by
  unfold State.allotmentStruck; split <;> simp
@[simp] theorem State.allotmentStruck_meter (s : State) (e : Entry) (p : LinePart) (i : ShareItem) (x : TakenShare) :
    (s.allotmentStruck e p i x).meter = s.meter := by
  unfold State.allotmentStruck; split <;> simp
@[simp] theorem State.allotmentStruck_contributors (s : State) (e : Entry) (p : LinePart) (i : ShareItem) (x : TakenShare) :
    (s.allotmentStruck e p i x).contributors = s.contributors := by
  unfold State.allotmentStruck; split <;> simp
@[simp] theorem State.allotmentStruck_requests (s : State) (e : Entry) (p : LinePart) (i : ShareItem) (x : TakenShare) :
    (s.allotmentStruck e p i x).requests = s.requests := by
  unfold State.allotmentStruck; split <;> simp
@[simp] theorem State.allotmentStruck_pending (s : State) (e : Entry) (p : LinePart) (i : ShareItem) (x : TakenShare) :
    (s.allotmentStruck e p i x).pending = s.pending := by
  unfold State.allotmentStruck; split <;> simp

/-! `allotmentToBook` -/

@[simp] theorem State.allotmentToBook_loader (s : State) (f : Frame) :
    (s.allotmentToBook f).loader = s.loader := by
  unfold State.allotmentToBook; repeat' split
  all_goals simp
@[simp] theorem State.allotmentToBook_settings (s : State) (f : Frame) :
    (s.allotmentToBook f).settings = s.settings := by
  unfold State.allotmentToBook; repeat' split
  all_goals simp
@[simp] theorem State.allotmentToBook_inputs (s : State) (f : Frame) :
    (s.allotmentToBook f).inputs = s.inputs := by
  unfold State.allotmentToBook; repeat' split
  all_goals simp
@[simp] theorem State.allotmentToBook_bank (s : State) (f : Frame) :
    (s.allotmentToBook f).bank = s.bank := by
  unfold State.allotmentToBook; repeat' split
  all_goals simp
@[simp] theorem State.allotmentToBook_meter (s : State) (f : Frame) :
    (s.allotmentToBook f).meter = s.meter := by
  unfold State.allotmentToBook; repeat' split
  all_goals simp
@[simp] theorem State.allotmentToBook_contributors (s : State) (f : Frame) :
    (s.allotmentToBook f).contributors = s.contributors := by
  unfold State.allotmentToBook; repeat' split
  all_goals simp
@[simp] theorem State.allotmentToBook_requests (s : State) (f : Frame) :
    (s.allotmentToBook f).requests = s.requests := by
  unfold State.allotmentToBook; repeat' split
  all_goals simp
@[simp] theorem State.allotmentToBook_pending (s : State) (f : Frame) :
    (s.allotmentToBook f).pending = s.pending := by
  unfold State.allotmentToBook; repeat' split
  all_goals simp

/-! `answer` -/

@[simp] theorem State.answer_loader (s : State) (f : Frame) (o : RequestOutcome) (body : List Byte) :
    (s.answer f o body).loader = s.loader := by
  simp [State.answer]
@[simp] theorem State.answer_settings (s : State) (f : Frame) (o : RequestOutcome) (body : List Byte) :
    (s.answer f o body).settings = s.settings := by
  simp [State.answer]
@[simp] theorem State.answer_time (s : State) (f : Frame) (o : RequestOutcome) (body : List Byte) :
    (s.answer f o body).time = s.time := by
  simp [State.answer]
@[simp] theorem State.answer_inputs (s : State) (f : Frame) (o : RequestOutcome) (body : List Byte) :
    (s.answer f o body).inputs = s.inputs := by
  simp [State.answer]
@[simp] theorem State.answer_bank (s : State) (f : Frame) (o : RequestOutcome) (body : List Byte) :
    (s.answer f o body).bank = s.bank := by
  simp [State.answer]
@[simp] theorem State.answer_meter (s : State) (f : Frame) (o : RequestOutcome) (body : List Byte) :
    (s.answer f o body).meter = s.meter := by
  simp [State.answer]
@[simp] theorem State.answer_book (s : State) (f : Frame) (o : RequestOutcome) (body : List Byte) :
    (s.answer f o body).book = s.book := by
  simp [State.answer]
@[simp] theorem State.answer_contributors (s : State) (f : Frame) (o : RequestOutcome) (body : List Byte) :
    (s.answer f o body).contributors = s.contributors := by
  simp [State.answer]
@[simp] theorem State.answer_subscriptions (s : State) (f : Frame) (o : RequestOutcome) (body : List Byte) :
    (s.answer f o body).subscriptions = s.subscriptions := by
  simp [State.answer]
@[simp] theorem State.answer_requests (s : State) (f : Frame) (o : RequestOutcome) (body : List Byte) :
    (s.answer f o body).requests = s.requests := by
  simp [State.answer]
@[simp] theorem State.answer_pending (s : State) (f : Frame) (o : RequestOutcome) (body : List Byte) :
    (s.answer f o body).pending = s.pending := by
  simp [State.answer]

/-! `answerEntry` -/

@[simp] theorem State.answerEntry_loader (s : State) (f : Frame) (e : Entry) :
    (s.answerEntry f e).loader = s.loader := by
  simp [State.answerEntry]
@[simp] theorem State.answerEntry_settings (s : State) (f : Frame) (e : Entry) :
    (s.answerEntry f e).settings = s.settings := by
  simp [State.answerEntry]
@[simp] theorem State.answerEntry_time (s : State) (f : Frame) (e : Entry) :
    (s.answerEntry f e).time = s.time := by
  simp [State.answerEntry]
@[simp] theorem State.answerEntry_inputs (s : State) (f : Frame) (e : Entry) :
    (s.answerEntry f e).inputs = s.inputs := by
  simp [State.answerEntry]
@[simp] theorem State.answerEntry_bank (s : State) (f : Frame) (e : Entry) :
    (s.answerEntry f e).bank = s.bank := by
  simp [State.answerEntry]
@[simp] theorem State.answerEntry_meter (s : State) (f : Frame) (e : Entry) :
    (s.answerEntry f e).meter = s.meter := by
  simp [State.answerEntry]
@[simp] theorem State.answerEntry_book (s : State) (f : Frame) (e : Entry) :
    (s.answerEntry f e).book = s.book := by
  simp [State.answerEntry]
@[simp] theorem State.answerEntry_contributors (s : State) (f : Frame) (e : Entry) :
    (s.answerEntry f e).contributors = s.contributors := by
  simp [State.answerEntry]
@[simp] theorem State.answerEntry_subscriptions (s : State) (f : Frame) (e : Entry) :
    (s.answerEntry f e).subscriptions = s.subscriptions := by
  simp [State.answerEntry]
@[simp] theorem State.answerEntry_requests (s : State) (f : Frame) (e : Entry) :
    (s.answerEntry f e).requests = s.requests := by
  simp [State.answerEntry]
@[simp] theorem State.answerEntry_pending (s : State) (f : Frame) (e : Entry) :
    (s.answerEntry f e).pending = s.pending := by
  simp [State.answerEntry]

/-! `answerResult` -/

@[simp] theorem State.answerResult_loader (s : State) (f : Frame) :
    (s.answerResult f).loader = s.loader := by
  unfold State.answerResult; split; · simp
  split <;> simp
@[simp] theorem State.answerResult_settings (s : State) (f : Frame) :
    (s.answerResult f).settings = s.settings := by
  unfold State.answerResult; split; · simp
  split <;> simp
@[simp] theorem State.answerResult_time (s : State) (f : Frame) :
    (s.answerResult f).time = s.time := by
  unfold State.answerResult; split; · simp
  split <;> simp
@[simp] theorem State.answerResult_inputs (s : State) (f : Frame) :
    (s.answerResult f).inputs = s.inputs := by
  unfold State.answerResult; split; · simp
  split <;> simp
@[simp] theorem State.answerResult_bank (s : State) (f : Frame) :
    (s.answerResult f).bank = s.bank := by
  unfold State.answerResult; split; · simp
  split <;> simp
@[simp] theorem State.answerResult_meter (s : State) (f : Frame) :
    (s.answerResult f).meter = s.meter := by
  unfold State.answerResult; split; · simp
  split <;> simp
@[simp] theorem State.answerResult_book (s : State) (f : Frame) :
    (s.answerResult f).book = s.book := by
  unfold State.answerResult; split; · simp
  split <;> simp
@[simp] theorem State.answerResult_contributors (s : State) (f : Frame) :
    (s.answerResult f).contributors = s.contributors := by
  unfold State.answerResult; split; · simp
  split <;> simp
@[simp] theorem State.answerResult_subscriptions (s : State) (f : Frame) :
    (s.answerResult f).subscriptions = s.subscriptions := by
  unfold State.answerResult; split; · simp
  split <;> simp
@[simp] theorem State.answerResult_requests (s : State) (f : Frame) :
    (s.answerResult f).requests = s.requests := by
  unfold State.answerResult; split; · simp
  split <;> simp
@[simp] theorem State.answerResult_pending (s : State) (f : Frame) :
    (s.answerResult f).pending = s.pending := by
  unfold State.answerResult; split; · simp
  split <;> simp

/-! `answerLatest` -/

@[simp] theorem State.answerLatest_loader (s : State) (f : Frame) :
    (s.answerLatest f).loader = s.loader := by
  unfold State.answerLatest; split <;> simp
@[simp] theorem State.answerLatest_settings (s : State) (f : Frame) :
    (s.answerLatest f).settings = s.settings := by
  unfold State.answerLatest; split <;> simp
@[simp] theorem State.answerLatest_time (s : State) (f : Frame) :
    (s.answerLatest f).time = s.time := by
  unfold State.answerLatest; split <;> simp
@[simp] theorem State.answerLatest_inputs (s : State) (f : Frame) :
    (s.answerLatest f).inputs = s.inputs := by
  unfold State.answerLatest; split <;> simp
@[simp] theorem State.answerLatest_bank (s : State) (f : Frame) :
    (s.answerLatest f).bank = s.bank := by
  unfold State.answerLatest; split <;> simp
@[simp] theorem State.answerLatest_meter (s : State) (f : Frame) :
    (s.answerLatest f).meter = s.meter := by
  unfold State.answerLatest; split <;> simp
@[simp] theorem State.answerLatest_book (s : State) (f : Frame) :
    (s.answerLatest f).book = s.book := by
  unfold State.answerLatest; split <;> simp
@[simp] theorem State.answerLatest_contributors (s : State) (f : Frame) :
    (s.answerLatest f).contributors = s.contributors := by
  unfold State.answerLatest; split <;> simp
@[simp] theorem State.answerLatest_subscriptions (s : State) (f : Frame) :
    (s.answerLatest f).subscriptions = s.subscriptions := by
  unfold State.answerLatest; split <;> simp
@[simp] theorem State.answerLatest_requests (s : State) (f : Frame) :
    (s.answerLatest f).requests = s.requests := by
  unfold State.answerLatest; split <;> simp
@[simp] theorem State.answerLatest_pending (s : State) (f : Frame) :
    (s.answerLatest f).pending = s.pending := by
  unfold State.answerLatest; split <;> simp

/-! `answerCondition` -/

@[simp] theorem State.answerCondition_loader (s : State) (f : Frame) :
    (s.answerCondition f).loader = s.loader := by
  unfold State.answerCondition; dsimp only; split <;> simp
@[simp] theorem State.answerCondition_settings (s : State) (f : Frame) :
    (s.answerCondition f).settings = s.settings := by
  unfold State.answerCondition; dsimp only; split <;> simp
@[simp] theorem State.answerCondition_time (s : State) (f : Frame) :
    (s.answerCondition f).time = s.time := by
  unfold State.answerCondition; dsimp only; split <;> simp
@[simp] theorem State.answerCondition_inputs (s : State) (f : Frame) :
    (s.answerCondition f).inputs = s.inputs := by
  unfold State.answerCondition; dsimp only; split <;> simp
@[simp] theorem State.answerCondition_bank (s : State) (f : Frame) :
    (s.answerCondition f).bank = s.bank := by
  unfold State.answerCondition; dsimp only; split <;> simp
@[simp] theorem State.answerCondition_meter (s : State) (f : Frame) :
    (s.answerCondition f).meter = s.meter := by
  unfold State.answerCondition; dsimp only; split <;> simp
@[simp] theorem State.answerCondition_book (s : State) (f : Frame) :
    (s.answerCondition f).book = s.book := by
  unfold State.answerCondition; dsimp only; split <;> simp
@[simp] theorem State.answerCondition_contributors (s : State) (f : Frame) :
    (s.answerCondition f).contributors = s.contributors := by
  unfold State.answerCondition; dsimp only; split <;> simp
@[simp] theorem State.answerCondition_subscriptions (s : State) (f : Frame) :
    (s.answerCondition f).subscriptions = s.subscriptions := by
  unfold State.answerCondition; dsimp only; split <;> simp
@[simp] theorem State.answerCondition_requests (s : State) (f : Frame) :
    (s.answerCondition f).requests = s.requests := by
  unfold State.answerCondition; dsimp only; split <;> simp
@[simp] theorem State.answerCondition_pending (s : State) (f : Frame) :
    (s.answerCondition f).pending = s.pending := by
  unfold State.answerCondition; dsimp only; split <;> simp

/-! `answerOrder` -/

@[simp] theorem State.answerOrder_loader (s : State) (f : Frame) (o : RequestOutcome) (body : List Byte) :
    (s.answerOrder f o body).loader = s.loader := by
  unfold State.answerOrder; split <;> simp
@[simp] theorem State.answerOrder_settings (s : State) (f : Frame) (o : RequestOutcome) (body : List Byte) :
    (s.answerOrder f o body).settings = s.settings := by
  unfold State.answerOrder; split <;> simp
@[simp] theorem State.answerOrder_time (s : State) (f : Frame) (o : RequestOutcome) (body : List Byte) :
    (s.answerOrder f o body).time = s.time := by
  unfold State.answerOrder; split <;> simp
@[simp] theorem State.answerOrder_inputs (s : State) (f : Frame) (o : RequestOutcome) (body : List Byte) :
    (s.answerOrder f o body).inputs = s.inputs := by
  unfold State.answerOrder; split <;> simp
@[simp] theorem State.answerOrder_bank (s : State) (f : Frame) (o : RequestOutcome) (body : List Byte) :
    (s.answerOrder f o body).bank = s.bank := by
  unfold State.answerOrder; split <;> simp
@[simp] theorem State.answerOrder_meter (s : State) (f : Frame) (o : RequestOutcome) (body : List Byte) :
    (s.answerOrder f o body).meter = s.meter := by
  unfold State.answerOrder; split <;> simp
@[simp] theorem State.answerOrder_book (s : State) (f : Frame) (o : RequestOutcome) (body : List Byte) :
    (s.answerOrder f o body).book = s.book := by
  unfold State.answerOrder; split <;> simp
@[simp] theorem State.answerOrder_contributors (s : State) (f : Frame) (o : RequestOutcome) (body : List Byte) :
    (s.answerOrder f o body).contributors = s.contributors := by
  unfold State.answerOrder; split <;> simp
@[simp] theorem State.answerOrder_subscriptions (s : State) (f : Frame) (o : RequestOutcome) (body : List Byte) :
    (s.answerOrder f o body).subscriptions = s.subscriptions := by
  unfold State.answerOrder; split <;> simp
@[simp] theorem State.answerOrder_requests (s : State) (f : Frame) (o : RequestOutcome) (body : List Byte) :
    (s.answerOrder f o body).requests = s.requests := by
  unfold State.answerOrder; split <;> simp
@[simp] theorem State.answerOrder_pending (s : State) (f : Frame) (o : RequestOutcome) (body : List Byte) :
    (s.answerOrder f o body).pending = s.pending := by
  unfold State.answerOrder; split <;> simp

/-! `refuse` -/

@[simp] theorem State.refuse_loader (s : State) (f : Frame) (o : RequestOutcome) :
    (s.refuse f o).loader = s.loader := by
  unfold State.refuse; dsimp only; split <;> simp
@[simp] theorem State.refuse_settings (s : State) (f : Frame) (o : RequestOutcome) :
    (s.refuse f o).settings = s.settings := by
  unfold State.refuse; dsimp only; split <;> simp
@[simp] theorem State.refuse_time (s : State) (f : Frame) (o : RequestOutcome) :
    (s.refuse f o).time = s.time := by
  unfold State.refuse; dsimp only; split <;> simp
@[simp] theorem State.refuse_inputs (s : State) (f : Frame) (o : RequestOutcome) :
    (s.refuse f o).inputs = s.inputs := by
  unfold State.refuse; dsimp only; split <;> simp
@[simp] theorem State.refuse_bank (s : State) (f : Frame) (o : RequestOutcome) :
    (s.refuse f o).bank = s.bank := by
  unfold State.refuse; dsimp only; split <;> simp
@[simp] theorem State.refuse_meter (s : State) (f : Frame) (o : RequestOutcome) :
    (s.refuse f o).meter = s.meter := by
  unfold State.refuse; dsimp only; split <;> simp
@[simp] theorem State.refuse_book (s : State) (f : Frame) (o : RequestOutcome) :
    (s.refuse f o).book = s.book := by
  unfold State.refuse; dsimp only; split <;> simp
@[simp] theorem State.refuse_contributors (s : State) (f : Frame) (o : RequestOutcome) :
    (s.refuse f o).contributors = s.contributors := by
  unfold State.refuse; dsimp only; split <;> simp
@[simp] theorem State.refuse_subscriptions (s : State) (f : Frame) (o : RequestOutcome) :
    (s.refuse f o).subscriptions = s.subscriptions := by
  unfold State.refuse; dsimp only; split <;> simp
@[simp] theorem State.refuse_pending (s : State) (f : Frame) (o : RequestOutcome) :
    (s.refuse f o).pending = s.pending := by
  unfold State.refuse; dsimp only; split <;> simp

/-! `acceptZero` -/

@[simp] theorem State.acceptZero_loader (s : State) (f : Frame) :
    (s.acceptZero f).loader = s.loader := by
  simp [State.acceptZero]
@[simp] theorem State.acceptZero_settings (s : State) (f : Frame) :
    (s.acceptZero f).settings = s.settings := by
  simp [State.acceptZero]
@[simp] theorem State.acceptZero_time (s : State) (f : Frame) :
    (s.acceptZero f).time = s.time := by
  simp [State.acceptZero]
@[simp] theorem State.acceptZero_inputs (s : State) (f : Frame) :
    (s.acceptZero f).inputs = s.inputs := by
  simp [State.acceptZero]
@[simp] theorem State.acceptZero_bank (s : State) (f : Frame) :
    (s.acceptZero f).bank = s.bank := by
  simp [State.acceptZero]
@[simp] theorem State.acceptZero_meter (s : State) (f : Frame) :
    (s.acceptZero f).meter = s.meter := by
  simp [State.acceptZero]
@[simp] theorem State.acceptZero_contributors (s : State) (f : Frame) :
    (s.acceptZero f).contributors = s.contributors := by
  simp [State.acceptZero]
@[simp] theorem State.acceptZero_subscriptions (s : State) (f : Frame) :
    (s.acceptZero f).subscriptions = s.subscriptions := by
  simp [State.acceptZero]
@[simp] theorem State.acceptZero_pending (s : State) (f : Frame) :
    (s.acceptZero f).pending = s.pending := by
  simp [State.acceptZero]

/-! `takeZero` -/

@[simp] theorem State.takeZero_loader (s : State) (f : Frame) :
    (s.takeZero f).loader = s.loader := by
  unfold State.takeZero; split <;> simp
@[simp] theorem State.takeZero_settings (s : State) (f : Frame) :
    (s.takeZero f).settings = s.settings := by
  unfold State.takeZero; split <;> simp
@[simp] theorem State.takeZero_time (s : State) (f : Frame) :
    (s.takeZero f).time = s.time := by
  unfold State.takeZero; split <;> simp
@[simp] theorem State.takeZero_inputs (s : State) (f : Frame) :
    (s.takeZero f).inputs = s.inputs := by
  unfold State.takeZero; split <;> simp
@[simp] theorem State.takeZero_bank (s : State) (f : Frame) :
    (s.takeZero f).bank = s.bank := by
  unfold State.takeZero; split <;> simp
@[simp] theorem State.takeZero_meter (s : State) (f : Frame) :
    (s.takeZero f).meter = s.meter := by
  unfold State.takeZero; split <;> simp
@[simp] theorem State.takeZero_contributors (s : State) (f : Frame) :
    (s.takeZero f).contributors = s.contributors := by
  unfold State.takeZero; split <;> simp
@[simp] theorem State.takeZero_subscriptions (s : State) (f : Frame) :
    (s.takeZero f).subscriptions = s.subscriptions := by
  unfold State.takeZero; split <;> simp
@[simp] theorem State.takeZero_pending (s : State) (f : Frame) :
    (s.takeZero f).pending = s.pending := by
  unfold State.takeZero; split <;> simp

/-! `acceptJob` -/

@[simp] theorem State.acceptJob_loader (s : State) (f : Frame) :
    (s.acceptJob f).loader = s.loader := by
  simp [State.acceptJob]
@[simp] theorem State.acceptJob_settings (s : State) (f : Frame) :
    (s.acceptJob f).settings = s.settings := by
  simp [State.acceptJob]
@[simp] theorem State.acceptJob_time (s : State) (f : Frame) :
    (s.acceptJob f).time = s.time := by
  simp [State.acceptJob]
@[simp] theorem State.acceptJob_inputs (s : State) (f : Frame) :
    (s.acceptJob f).inputs = s.inputs := by
  simp [State.acceptJob]
@[simp] theorem State.acceptJob_meter (s : State) (f : Frame) :
    (s.acceptJob f).meter = s.meter := by
  simp [State.acceptJob]
@[simp] theorem State.acceptJob_contributors (s : State) (f : Frame) :
    (s.acceptJob f).contributors = s.contributors := by
  simp [State.acceptJob]
@[simp] theorem State.acceptJob_subscriptions (s : State) (f : Frame) :
    (s.acceptJob f).subscriptions = s.subscriptions := by
  simp [State.acceptJob]
@[simp] theorem State.acceptJob_pending (s : State) (f : Frame) :
    (s.acceptJob f).pending = s.pending := by
  simp [State.acceptJob]

/-! `takeJob` -/

@[simp] theorem State.takeJob_loader (s : State) (f : Frame) :
    (s.takeJob f).loader = s.loader := by
  unfold State.takeJob; split <;> simp
@[simp] theorem State.takeJob_settings (s : State) (f : Frame) :
    (s.takeJob f).settings = s.settings := by
  unfold State.takeJob; split <;> simp
@[simp] theorem State.takeJob_time (s : State) (f : Frame) :
    (s.takeJob f).time = s.time := by
  unfold State.takeJob; split <;> simp
@[simp] theorem State.takeJob_inputs (s : State) (f : Frame) :
    (s.takeJob f).inputs = s.inputs := by
  unfold State.takeJob; split <;> simp
@[simp] theorem State.takeJob_meter (s : State) (f : Frame) :
    (s.takeJob f).meter = s.meter := by
  unfold State.takeJob; split <;> simp
@[simp] theorem State.takeJob_contributors (s : State) (f : Frame) :
    (s.takeJob f).contributors = s.contributors := by
  unfold State.takeJob; split <;> simp
@[simp] theorem State.takeJob_subscriptions (s : State) (f : Frame) :
    (s.takeJob f).subscriptions = s.subscriptions := by
  unfold State.takeJob; split <;> simp
@[simp] theorem State.takeJob_pending (s : State) (f : Frame) :
    (s.takeJob f).pending = s.pending := by
  unfold State.takeJob; split <;> simp

/-! `unknownOrder` -/

@[simp] theorem State.unknownOrder_loader (s : State) (f : Frame) :
    (s.unknownOrder f).loader = s.loader := by
  unfold State.unknownOrder; split <;> simp
@[simp] theorem State.unknownOrder_settings (s : State) (f : Frame) :
    (s.unknownOrder f).settings = s.settings := by
  unfold State.unknownOrder; split <;> simp
@[simp] theorem State.unknownOrder_time (s : State) (f : Frame) :
    (s.unknownOrder f).time = s.time := by
  unfold State.unknownOrder; split <;> simp
@[simp] theorem State.unknownOrder_inputs (s : State) (f : Frame) :
    (s.unknownOrder f).inputs = s.inputs := by
  unfold State.unknownOrder; split <;> simp
@[simp] theorem State.unknownOrder_bank (s : State) (f : Frame) :
    (s.unknownOrder f).bank = s.bank := by
  unfold State.unknownOrder; split <;> simp
@[simp] theorem State.unknownOrder_meter (s : State) (f : Frame) :
    (s.unknownOrder f).meter = s.meter := by
  unfold State.unknownOrder; split <;> simp
@[simp] theorem State.unknownOrder_book (s : State) (f : Frame) :
    (s.unknownOrder f).book = s.book := by
  unfold State.unknownOrder; split <;> simp
@[simp] theorem State.unknownOrder_contributors (s : State) (f : Frame) :
    (s.unknownOrder f).contributors = s.contributors := by
  unfold State.unknownOrder; split <;> simp
@[simp] theorem State.unknownOrder_subscriptions (s : State) (f : Frame) :
    (s.unknownOrder f).subscriptions = s.subscriptions := by
  unfold State.unknownOrder; split <;> simp
@[simp] theorem State.unknownOrder_pending (s : State) (f : Frame) :
    (s.unknownOrder f).pending = s.pending := by
  unfold State.unknownOrder; split <;> simp

/-! `loadSucceeds` -/

@[simp] theorem State.loadSucceeds_inputs (s : State) (image : List Byte) (role : Role) (now : Nat) :
    (s.loadSucceeds image role now).inputs = s.inputs := by
  simp [State.loadSucceeds]
@[simp] theorem State.loadSucceeds_meter (s : State) (image : List Byte) (role : Role) (now : Nat) :
    (s.loadSucceeds image role now).meter = s.meter := by
  simp [State.loadSucceeds]
@[simp] theorem State.loadSucceeds_requests (s : State) (image : List Byte) (role : Role) (now : Nat) :
    (s.loadSucceeds image role now).requests = s.requests := by
  simp [State.loadSucceeds]
@[simp] theorem State.loadSucceeds_pending (s : State) (image : List Byte) (role : Role) (now : Nat) :
    (s.loadSucceeds image role now).pending = s.pending := by
  simp [State.loadSucceeds]

/-! `attemptFails` -/

@[simp] theorem State.attemptFails_settings (s : State) :
    s.attemptFails.settings = s.settings := by
  unfold State.attemptFails; split <;> simp
@[simp] theorem State.attemptFails_inputs (s : State) :
    s.attemptFails.inputs = s.inputs := by
  unfold State.attemptFails; split <;> simp
@[simp] theorem State.attemptFails_bank (s : State) :
    s.attemptFails.bank = s.bank := by
  unfold State.attemptFails; split <;> simp
@[simp] theorem State.attemptFails_meter (s : State) :
    s.attemptFails.meter = s.meter := by
  unfold State.attemptFails; split <;> simp
@[simp] theorem State.attemptFails_book (s : State) :
    s.attemptFails.book = s.book := by
  unfold State.attemptFails; split <;> simp
@[simp] theorem State.attemptFails_contributors (s : State) :
    s.attemptFails.contributors = s.contributors := by
  unfold State.attemptFails; split <;> simp
@[simp] theorem State.attemptFails_subscriptions (s : State) :
    s.attemptFails.subscriptions = s.subscriptions := by
  unfold State.attemptFails; split <;> simp
@[simp] theorem State.attemptFails_link (s : State) :
    s.attemptFails.link = s.link := by
  unfold State.attemptFails; split <;> simp
@[simp] theorem State.attemptFails_requests (s : State) :
    s.attemptFails.requests = s.requests := by
  unfold State.attemptFails; split <;> simp
@[simp] theorem State.attemptFails_pending (s : State) :
    s.attemptFails.pending = s.pending := by
  unfold State.attemptFails; split <;> simp

/-! `tryBegin` -/

@[simp] theorem State.tryBegin_loader (s : State) (ch : Chan) (c : LinkChannel) :
    (s.tryBegin ch c).loader = s.loader := by
  unfold State.tryBegin; split; · split <;> simp
  simp
@[simp] theorem State.tryBegin_settings (s : State) (ch : Chan) (c : LinkChannel) :
    (s.tryBegin ch c).settings = s.settings := by
  unfold State.tryBegin; split; · split <;> simp
  simp
@[simp] theorem State.tryBegin_time (s : State) (ch : Chan) (c : LinkChannel) :
    (s.tryBegin ch c).time = s.time := by
  unfold State.tryBegin; split; · split <;> simp
  simp
@[simp] theorem State.tryBegin_inputs (s : State) (ch : Chan) (c : LinkChannel) :
    (s.tryBegin ch c).inputs = s.inputs := by
  unfold State.tryBegin; split; · split <;> simp
  simp
@[simp] theorem State.tryBegin_bank (s : State) (ch : Chan) (c : LinkChannel) :
    (s.tryBegin ch c).bank = s.bank := by
  unfold State.tryBegin; split; · split <;> simp
  simp
@[simp] theorem State.tryBegin_meter (s : State) (ch : Chan) (c : LinkChannel) :
    (s.tryBegin ch c).meter = s.meter := by
  unfold State.tryBegin; split; · split <;> simp
  simp
@[simp] theorem State.tryBegin_book (s : State) (ch : Chan) (c : LinkChannel) :
    (s.tryBegin ch c).book = s.book := by
  unfold State.tryBegin; split; · split <;> simp
  simp
@[simp] theorem State.tryBegin_contributors (s : State) (ch : Chan) (c : LinkChannel) :
    (s.tryBegin ch c).contributors = s.contributors := by
  unfold State.tryBegin; split; · split <;> simp
  simp
@[simp] theorem State.tryBegin_subscriptions (s : State) (ch : Chan) (c : LinkChannel) :
    (s.tryBegin ch c).subscriptions = s.subscriptions := by
  unfold State.tryBegin; split; · split <;> simp
  simp
@[simp] theorem State.tryBegin_requests (s : State) (ch : Chan) (c : LinkChannel) :
    (s.tryBegin ch c).requests = s.requests := by
  unfold State.tryBegin; split; · split <;> simp
  simp
@[simp] theorem State.tryBegin_alerts (s : State) (ch : Chan) (c : LinkChannel) :
    (s.tryBegin ch c).alerts = s.alerts := by
  unfold State.tryBegin; split; · split <;> simp
  simp
@[simp] theorem State.tryBegin_pending (s : State) (ch : Chan) (c : LinkChannel) :
    (s.tryBegin ch c).pending = s.pending := by
  unfold State.tryBegin; split; · split <;> simp
  simp

end Sys2Proof.Machine
end

