-- ==== Sys2Proof/Laws/Operations.lean ====
section
/-! SUPPORT. What each shared operation can do, said once: arithmetic, bytes, the open entry's flags, the book's entries, the
accumulator bank, the link controller's queue, a strike, a received frame and a query. -/

namespace Sys2Proof

/-! ### Bytes (R186) -/

@[simp] theorem toBytes_length (w n : Nat) : (toBytes w n).length = w := by
  induction w with
  | zero => rfl
  | succ w ih => simp [toBytes, ih]

theorem foldl_bytes (l : List Byte) (n : Nat) :
    l.foldl (fun n b => n * 256 + b.toNat) n = n * 256 ^ l.length + ofBytes l := by
  induction l generalizing n with
  | nil => simp [ofBytes]
  | cons b l ih =>
    simp only [ofBytes, List.foldl_cons, List.length_cons, zero_mul, zero_add]
    rw [ih, ih b.toNat]; ring

theorem ofBytes_cons (b : Byte) (l : List Byte) : ofBytes (b :: l) = b.toNat * 256 ^ l.length + ofBytes l := by
  have h := foldl_bytes l b.toNat
  simpa [ofBytes] using h

theorem ofBytes_append (l k : List Byte) : ofBytes (l ++ k) = ofBytes l * 256 ^ k.length + ofBytes k := by
  have h := foldl_bytes k (ofBytes l)
  simpa [ofBytes] using h

/-- Reading w bytes back gives the number modulo 256^w. -/
theorem ofBytes_toBytes (w n : Nat) : ofBytes (toBytes w n) = n % 256 ^ w := by
  induction w with
  | zero => simp [toBytes, ofBytes, Nat.mod_one]
  | succ w ih =>
    have hm : n % 256 ^ (w + 1) = n % 256 ^ w + 256 ^ w * (n / 256 ^ w % 256) := by rw [pow_succ, Nat.mod_mul]
    rw [toBytes, ofBytes_cons, toBytes_length, ih, BitVec.toNat_ofNat, hm, Nat.mul_comm, Nat.add_comm]

theorem ofBytes_toBytes_of_lt {w n : Nat} (h : n < 256 ^ w) : ofBytes (toBytes w n) = n := by
  rw [ofBytes_toBytes, Nat.mod_eq_of_lt h]

@[simp] theorem carrierItems_length (carriers : List (Machine.Carrier × Nat)) :
    (Machine.carrierItems carriers).length = 5 * carriers.length := by
  induction carriers with
  | nil => rfl
  | cons c cs ih =>
    simp only [Machine.carrierItems, List.flatMap_cons, List.length_append, List.length_cons, toBytes_length] at ih ⊢
    omega

/-! ### Bits and cells (R128, R129) -/

@[simp] theorem bitsOf_length (b : Byte) : (bitsOf b).length = 8 := rfl

/-- Bit k of a string of bytes is bit k % 8 of byte k / 8, the most significant first. -/
theorem getElem?_flatMap_bitsOf (bytes : List Byte) (k : Nat) (h : k < 8 * bytes.length) :
    (bytes.flatMap bitsOf)[k]? = some ((bytes.getD (k / 8) 0).getLsbD (7 - k % 8)) := by
  induction bytes generalizing k with
  | nil => simp at h
  | cons b bytes ih =>
    rw [List.flatMap_cons]
    by_cases hk : k < 8
    · rw [List.getElem?_append_left (by simpa using hk), Nat.div_eq_of_lt hk, Nat.mod_eq_of_lt hk]
      simp [bitsOf, hk]
    · obtain ⟨j, rfl⟩ := Nat.exists_eq_add_of_le' (Nat.not_lt.mp hk)
      rw [List.getElem?_append_right (by simp), bitsOf_length, Nat.add_sub_cancel, ih j (by simp at h; omega)]
      simp

@[simp] theorem Frame.bits_length (f : Frame) : f.bits.length = 8 * f.bytes.length := by
  simp [Frame.bits, List.length_flatMap, Nat.mul_comm]

@[simp] theorem cells_length (before : Level) (bits : List Bool) : (cells before bits).length = 2 * bits.length := by
  induction bits generalizing before with
  | nil => rfl
  | cons bit bits ih => simp [cells, ih]; omega

/-- Cell k changes the level at its start, and at its middle just when its bit is 1 (R128). -/
theorem cells_changes (before : Level) (bits : List Bool) (k : Nat) (h : k < bits.length) :
    (before :: cells before bits)[2 * k + 1]? ≠ (before :: cells before bits)[2 * k]?
      ∧ ((before :: cells before bits)[2 * k + 2]? ≠ (before :: cells before bits)[2 * k + 1]? ↔ bits[k]? = some true) := by
  induction bits generalizing before k with
  | nil => simp at h
  | cons bit bits ih =>
    cases k with
    | zero => cases before <;> cases bit <;> simp [cells, cellEnd, Level.opposite]
    | succ k => exact ih (cellEnd before bit) k (by simpa using h)

/-- The leader and the start pattern leave the pair at its rest level. -/
theorem Frame.wave_eq (rest : Level) (f : Frame) :
    f.wave rest = cells rest leader ++ startPattern rest ++ cells rest f.bits := by
  cases rest <;> rfl

end Sys2Proof

namespace Sys2Proof.Machine

open Sys2Proof

/-! ### Tables of fields (R186) -/

/-- The bytes of a table of fields, each row's value in its number of bytes. -/
def tableBytes (table : List (Nat × Nat)) : List Byte := table.flatMap fun row => toBytes row.1 row.2

@[simp] theorem toBytes_one (n : Nat) : toBytes 1 n = [byte n] := by simp [toBytes, byte]

@[simp] theorem tableBytes_nil : tableBytes [] = [] := rfl

@[simp] theorem tableBytes_cons (row : Nat × Nat) (table : List (Nat × Nat)) :
    tableBytes (row :: table) = toBytes row.1 row.2 ++ tableBytes table := rfl

@[simp] theorem tableBytes_append (t u : List (Nat × Nat)) : tableBytes (t ++ u) = tableBytes t ++ tableBytes u := by
  simp [tableBytes]

theorem tableBytes_flatMap {α : Type} (items : List α) (rows : α → List (Nat × Nat)) :
    tableBytes (items.flatMap rows) = items.flatMap fun i => tableBytes (rows i) := by
  simp [tableBytes, List.flatMap_assoc]

/-- A counted list of rows has the bytes of the counted list. -/
theorem tableBytes_countedRows {α : Type} (items : List α) {rows : α → List (Nat × Nat)} {encode : α → List Byte}
    (h : ∀ i, tableBytes (rows i) = encode i) : tableBytes (countedRows items rows) = counted encode items := by
  simp [countedRows, counted, tableBytes_flatMap, h]

@[simp] theorem tableBytes_carrierRows (carriers : List (Carrier × Nat)) :
    tableBytes (carrierRows carriers) = carrierItems carriers := by
  simp only [carrierRows, tableBytes_flatMap, carrierItems]
  congr 1
  funext c
  rcases c with ⟨k, n⟩
  cases k <;> simp [Carrier.code]

/-- The flags' number by their bits is the 2-byte field of the entry flags. -/
theorem flagsNumber_eq_bits (f : EntryFlags) : flagsNumber f = f.bits := by
  have bit (b : Bool) (n : Nat) : (if b then n else 0) = b.toNat * n := by cases b <;> simp
  simp only [flagsNumber, bitsNumber, EntryFlags.bits, List.zipIdx_cons, List.zipIdx_nil, List.map_cons, List.map_nil,
    List.sum_cons, List.sum_nil, bit]
  ring

/-- The rows of an entry's common fields have the bytes of the common fields. -/
@[simp] theorem tableBytes_entryRows (e : Entry) : tableBytes (entryRows e) = entryCommon e := by
  simp only [entryRows, tableBytes_append, tableBytes_carrierRows, tableBytes_cons, tableBytes_nil, toBytes_one, entryCommon,
    flagsNumber_eq_bits]
  cases e.kind <;> cases e.state <;> cases e.cause <;>
    simp [EntryKind.code, EntryState.code, Cause.code, Cause.station]

/-- The bytes of a table of fields are laid out as the table. -/
theorem laidOut_tableBytes (table : List (Nat × Nat)) : laidOut (tableBytes table) table := by
  induction table with
  | nil => exact ⟨rfl, rfl⟩
  | cons row table ih =>
    have h : tableBytes (row :: table) = toBytes row.1 row.2 ++ tableBytes table := rfl
    refine ⟨?_, ?_⟩
    · rw [h]
      simp only [List.map_cons, fieldsOf, ofBytes_toBytes, ih.1,
        List.take_left' (toBytes_length row.1 row.2), List.drop_left' (toBytes_length row.1 row.2)]
    · rw [h, List.length_append, toBytes_length, ih.2]; rfl

/-! ### Arithmetic -/

theorem hold_le (limit n : Nat) : hold limit n ≤ limit := Nat.min_le_left _ _

theorem grow_le (counter k : Nat) : grow counter k ≤ Config.counterLimit := hold_le _ _

theorem accumulate_le (held amount : Nat) : accumulate held amount ≤ Config.accumulatorLimit := hold_le _ _

theorem le_accumulate {held : Nat} (amount : Nat) (h : held ≤ Config.accumulatorLimit) : held ≤ accumulate held amount := by
  unfold accumulate hold; omega

/-! ### The open entry's flags -/

theorem flagOpenedIf_pos {test : Prop} [Decidable test] (h : test) (f : EntryFlags → EntryFlags) (es : List Entry) :
    flagOpenedIf test f es = flagOpened f es := by
  simp [flagOpenedIf, flagOpened, h]

theorem flagOpenedIf_neg {test : Prop} [Decidable test] (h : ¬test) (f : EntryFlags → EntryFlags) (es : List Entry) :
    flagOpenedIf test f es = es := by
  simp [flagOpenedIf, h]

/-- Two flaggings whose flags commute may be made in either order. -/
theorem flagOpenedIf_comm {f g : EntryFlags → EntryFlags} (h : ∀ x, f (g x) = g (f x)) (p q : Prop) [Decidable p]
    [Decidable q] (es : List Entry) : flagOpenedIf p f (flagOpenedIf q g es) = flagOpenedIf q g (flagOpenedIf p f es) := by
  simp only [flagOpenedIf, List.map_map]
  apply List.map_congr_left
  intro e _
  by_cases p <;> by_cases q <;> by_cases e.state = EntryState.opened <;> simp_all

/-- Flagging changes no entry's number. -/
@[simp] theorem flagOpened_number (f : EntryFlags → EntryFlags) (es : List Entry) :
    (flagOpened f es).map Entry.number = es.map Entry.number := by
  simp only [flagOpened, List.map_map]
  apply List.map_congr_left
  intro e _
  simp only [Function.comp]
  split <;> rfl

/-- An entry of a flagged book is an entry of the book, with its flags as they were or as f made them. -/
theorem mem_flagOpened {f : EntryFlags → EntryFlags} {es : List Entry} {x : Entry} (h : x ∈ flagOpened f es) :
    ∃ e ∈ es, x = e ∨ (e.state = .opened ∧ x = { e with flags := f e.flags }) := by
  simp only [flagOpened, List.mem_map] at h
  obtain ⟨e, he, rfl⟩ := h
  refine ⟨e, he, ?_⟩
  split
  · next h => exact .inr ⟨by simpa using h, rfl⟩
  · exact .inl rfl

theorem State.saturateIf_eq (s : State) (test : Bool) :
    s.saturateIf test
      = { s with book := { s.book with
          entries := flagOpenedIf (test = true) EntryFlags.withSaturated s.book.entries } } := by
  unfold State.saturateIf
  split
  · next h => rw [flagOpenedIf_pos h]; rfl
  · next h => rw [flagOpenedIf_neg h]

theorem State.takeAlarm_eq (s : State) (alarm : Bool) :
    s.takeAlarm alarm
      = { s with book := { s.book with
                   entries := flagOpenedIf (alarm = true) EntryFlags.withMeterFault s.book.entries },
                 meter := { s.meter with alarmSeen := s.meter.alarmSeen || alarm } } := by
  unfold State.takeAlarm
  cases alarm
  · simp [flagOpenedIf]
  · rw [flagOpenedIf_pos rfl]; simp [State.flagOpen]

/-! ### The accumulator bank -/

/-- An amount arrives at a channel: that channel is credited and the open entry flagged past the limit, nothing else (R31,
R32). -/
theorem State.creditChannel_eq (s : State) (i : Fin 8) (amount : Nat) :
    s.creditChannel i amount
      = { s with bank := { s.bank with channels := s.bank.channels.set i (s.bank.channels[i].credit amount) },
                 book := { s.book with
                   entries := flagOpenedIf (Config.accumulatorLimit < s.bank.channels[i].held + amount)
                     EntryFlags.withSaturated s.book.entries } } := by
  unfold State.creditChannel
  dsimp only
  split
  · next h => rw [flagOpenedIf_pos h]; rfl
  · next h => rw [flagOpenedIf_neg h]

/-- A delivery changes nothing, or credits the one channel of its source. -/
theorem State.deliver_cases (s : State) (c : Settings) (source : ChannelSource) (amount : Nat) :
    (c.channelOf source = none ∧ s.deliver c source amount = s)
      ∨ ∃ i, c.channelOf source = some i ∧ s.deliver c source amount = s.creditChannel i amount := by
  unfold State.deliver
  cases h : c.channelOf source with
  | none => exact .inl ⟨rfl, rfl⟩
  | some i => exact .inr ⟨i, rfl, rfl⟩

/-- A reading is delivered, or is a discontinuity (R53, R54). -/
theorem State.takeReading_cases (s : State) (c : Settings) (m : Fin 8) (setup : MeterSetup) (delta : Nat) :
    (delta ≤ setup.limit * s.meter.entries[m].rounds
        ∧ s.takeReading c m setup delta = s.deliver c (.meter m) (delta * setup.scale))
      ∨ (setup.limit * s.meter.entries[m].rounds < delta
        ∧ s.takeReading c m setup delta
          = { s.flagOpen EntryFlags.withDiscontinuity with
              meter := { s.meter with discontinuities := grow s.meter.discontinuities 1 } }) := by
  unfold State.takeReading
  split
  · next h => exact .inl ⟨h, rfl⟩
  · next h => exact .inr ⟨by omega, rfl⟩

/-! ### The entries of the book -/

/-- Putting an entry back changes no entry's number. -/
@[simp] theorem replaceEntry_number (e : Entry) (es : List Entry) :
    (replaceEntry e es).map Entry.number = es.map Entry.number := by
  simp only [replaceEntry, List.map_map]
  apply List.map_congr_left
  intro x _
  simp only [Function.comp]
  split
  · next h => exact (beq_iff_eq.mp h).symm
  · rfl

/-- An entry of a book with e put back is e or an entry of the book with another number. -/
theorem mem_replaceEntry {e x : Entry} {es : List Entry} (h : x ∈ replaceEntry e es) :
    x = e ∨ (x ∈ es ∧ x.number ≠ e.number) := by
  simp only [replaceEntry, List.mem_map] at h
  obtain ⟨y, hy, rfl⟩ := h
  split
  · exact .inl rfl
  · next hne => exact .inr ⟨hy, by simpa using hne⟩

@[simp] theorem State.putEntry_entries (s : State) (e : Entry) :
    (s.putEntry e).book.entries = replaceEntry e s.book.entries := rfl

/-- A held entry has the number it is held for, and is in the book. -/
theorem State.held_some {s : State} {n : Period} {e : Entry} (h : s.held n = some e) :
    e.number = some n ∧ e ∈ s.book.entries :=
  ⟨by simpa using List.find?_some h, List.mem_of_find?_eq_some h⟩

/-- The entry put back is the one held for its number. -/
theorem State.held_putEntry_same {s : State} {n : Period} {e old : Entry} (h : s.held n = some old)
    (hn : e.number = some n) : (s.putEntry e).held n = some e := by
  unfold State.held at h ⊢
  rw [State.putEntry_entries]
  generalize s.book.entries = es at h ⊢
  induction es with
  | nil => cases h
  | cons x xs ih =>
    rw [List.find?_cons] at h
    rw [replaceEntry, List.map_cons, List.find?_cons]
    by_cases hx : x.number = some n
    · simp only [hx, hn, beq_self_eq_true, if_true]
    · have hf : (x.number == some n) = false := by simpa using hx
      rw [hf] at h
      rw [hn, hf, if_neg Bool.false_ne_true, hf]
      simpa only [replaceEntry, hn] using ih h

/-- Another number's entry stays held as it was. -/
theorem State.held_putEntry_other (s : State) {n : Period} {e : Entry} (hn : e.number ≠ some n) :
    (s.putEntry e).held n = s.held n := by
  unfold State.held
  rw [State.putEntry_entries]
  generalize s.book.entries = es
  induction es with
  | nil => rfl
  | cons x xs ih =>
    rw [replaceEntry, List.map_cons, List.find?_cons, List.find?_cons]
    have ih' := ih
    rw [replaceEntry] at ih'
    by_cases hx : x.number = e.number
    · have hf : (e.number == some n) = false := by simpa using hn
      simp only [hx, beq_self_eq_true, if_true, hf, ih']
    · have hf : (x.number == e.number) = false := by simpa using hx
      simp only [hf, Bool.false_eq_true, if_false, ih']

/-- The open entry is OPEN and in the book. -/
theorem State.openEntry_some {s : State} {e : Entry} (h : s.openEntry = some e) :
    e.state = .opened ∧ e ∈ s.book.entries :=
  ⟨by simpa using List.find?_some h, List.mem_of_find?_eq_some h⟩

/-! ### The link controller: channels, debts and the count -/

@[simp] theorem Link.chan_setChan_same (l : Link) (ch : Chan) (c : LinkChannel) : (l.setChan ch c).chan ch = c := by
  cases ch <;> rfl

theorem Link.chan_setChan_other (l : Link) {ch other : Chan} (c : LinkChannel) (h : other ≠ ch) :
    (l.setChan ch c).chan other = l.chan other := by
  cases ch <;> cases other <;> first | rfl | exact absurd rfl h

@[simp] theorem Link.setChan_queue (l : Link) (ch : Chan) (c : LinkChannel) : (l.setChan ch c).queue = l.queue := by
  cases ch <;> rfl

@[simp] theorem Link.setChan_nextSeq (l : Link) (ch : Chan) (c : LinkChannel) : (l.setChan ch c).nextSeq = l.nextSeq := by
  cases ch <;> rfl

@[simp] theorem Link.setChan_recent (l : Link) (ch : Chan) (c : LinkChannel) : (l.setChan ch c).recent = l.recent := by
  cases ch <;> rfl

@[simp] theorem Link.setChan_formatErrors (l : Link) (ch : Chan) (c : LinkChannel) :
    (l.setChan ch c).formatErrors = l.formatErrors := by
  cases ch <;> rfl

@[simp] theorem Link.setChan_overflow (l : Link) (ch : Chan) (c : LinkChannel) : (l.setChan ch c).overflow = l.overflow := by
  cases ch <;> rfl

@[simp] theorem Link.setChan_unsent (l : Link) (ch : Chan) (c : LinkChannel) : (l.setChan ch c).unsent = l.unsent := by
  cases ch <;> rfl

@[simp] theorem Link.setChan_service (l : Link) (ch : Chan) (c : LinkChannel) : (l.setChan ch c).service = l.service := by
  cases ch <;> rfl

@[simp] theorem Link.setChan_rate (l : Link) (ch : Chan) (c : LinkChannel) : (l.setChan ch c).rate = l.rate := by
  cases ch <;> rfl

/-- A recount changes a channel's counted time and nothing else of it (R132). -/
theorem LinkChannel.recount_eq (c : LinkChannel) (before now : Bool) :
    c.recount before now = { c with counted := (c.recount before now).counted } := by
  unfold LinkChannel.recount
  split
  · rfl
  · split
    · rfl
    · split <;> rfl

@[simp] theorem LinkChannel.recount_state (c : LinkChannel) (before now : Bool) : (c.recount before now).state = c.state := by
  rw [LinkChannel.recount_eq]

@[simp] theorem LinkChannel.recount_echoFaults (c : LinkChannel) (before now : Bool) :
    (c.recount before now).echoFaults = c.echoFaults := by
  rw [LinkChannel.recount_eq]

@[simp] theorem LinkChannel.recount_probe (c : LinkChannel) (before now : Bool) : (c.recount before now).probe = c.probe := by
  rw [LinkChannel.recount_eq]

@[simp] theorem LinkChannel.recount_inFlight (c : LinkChannel) (before now : Bool) :
    (c.recount before now).inFlight = c.inFlight := by
  rw [LinkChannel.recount_eq]

@[simp] theorem LinkChannel.recount_errors (c : LinkChannel) (before now : Bool) :
    (c.recount before now).errors = c.errors := by
  rw [LinkChannel.recount_eq]

@[simp] theorem LinkChannel.recount_receiving (c : LinkChannel) (before now : Bool) :
    (c.recount before now).receiving = c.receiving := by
  rw [LinkChannel.recount_eq]

@[simp] theorem Link.chan_recount (old l : Link) (ch : Chan) :
    (Link.recount old l).chan ch = (l.chan ch).recount (old.owes ch) (l.owes ch) := by
  cases ch <;> rfl

@[simp] theorem Link.recount_queue (old l : Link) : (Link.recount old l).queue = l.queue := rfl
@[simp] theorem Link.recount_nextSeq (old l : Link) : (Link.recount old l).nextSeq = l.nextSeq := rfl
@[simp] theorem Link.recount_recent (old l : Link) : (Link.recount old l).recent = l.recent := rfl
@[simp] theorem Link.recount_overflow (old l : Link) : (Link.recount old l).overflow = l.overflow := rfl
@[simp] theorem Link.recount_unsent (old l : Link) : (Link.recount old l).unsent = l.unsent := rfl
@[simp] theorem Link.recount_service (old l : Link) : (Link.recount old l).service = l.service := rfl
@[simp] theorem Link.recount_formatErrors (old l : Link) : (Link.recount old l).formatErrors = l.formatErrors := rfl
@[simp] theorem Link.chan_purge (l : Link) (ch : Chan) : l.purge.chan ch = l.chan ch := by cases ch <;> rfl
@[simp] theorem Link.chan_release (l : Link) (ch other : Chan) (seq : Nat) : (l.release ch seq).chan other = l.chan other := by
  cases other <;> rfl
@[simp] theorem Link.chan_releaseAll (l : Link) (ch other : Chan) : (l.releaseAll ch).chan other = l.chan other := by
  cases other <;> rfl

/-- The record with its debt set is as it was but for that debt. -/
@[simp] theorem Queued.setOwed_seq (q : Queued) (ch : Chan) (b : Bool) : (q.setOwed ch b).seq = q.seq := by cases ch <;> rfl
@[simp] theorem Queued.setOwed_record (q : Queued) (ch : Chan) (b : Bool) : (q.setOwed ch b).record = q.record := by
  cases ch <;> rfl
@[simp] theorem Queued.owed_setOwed (q : Queued) (ch : Chan) (b : Bool) : (q.setOwed ch b).owed ch = b := by cases ch <;> rfl

/-- What a frame's end leaves in the queue (R141). -/
theorem Link.afterFrame_queue (l : Link) (ch : Chan) (c : LinkChannel) (released : Bool) (seq : Nat) :
    (l.afterFrame ch c released seq).queue
      = (l.queue.map fun q => if q.seq = seq ∧ released = true then q.setOwed ch false else q).filter
          (fun q => q.owedA || q.owedB) := by
  cases released <;> simp [Link.afterFrame, Link.purge, Link.release]

/-- A channel whose frame has ended counts from 0 when it is owed a record, and not otherwise (R132). -/
theorem LinkChannel.recount_endFrame (c : LinkChannel) (before now : Bool) :
    c.endFrame.recount before now
      = { c with inFlight := none, quietTime := 0, counted := if now then some 0 else none } := by
  cases now <;> simp [LinkChannel.recount, LinkChannel.endFrame, Config.quietBits]

/-- A record that ceases to be owed to one channel stays owed to the other. -/
theorem Link.owes_release_other (l : Link) {ch other : Chan} (h : other ≠ ch) (seq : Nat) :
    (l.release ch seq).owes other = l.owes other := by
  simp only [Link.owes, Link.release, List.any_map]
  congr 1; funext q
  simp only [Function.comp]
  split
  · cases ch <;> cases other <;> first | rfl | exact absurd rfl h
  · rfl

/-- What a frame's end leaves of the link besides the queue: nothing is driven on its channel, which is quiet from now and
counts when it is owed a record, and the other channel is counted again (R132, R134, R135). -/
theorem Link.afterFrame_eq (l : Link) (ch : Chan) (c : LinkChannel) (released : Bool) (seq : Nat) :
    let t := l.afterFrame ch c released seq
    t = { l with a := t.a, b := t.b, queue := t.queue }
      ∧ t.chan ch = { c with inFlight := none, quietTime := 0, counted := if t.owes ch then some 0 else none }
      ∧ ∀ other, other ≠ ch → t.chan other = (l.chan other).recount (l.owes other) (t.owes other) := by
  refine ⟨by cases released <;> cases ch <;> rfl, ?_, fun other ho => ?_⟩
  · have h : ∃ b, (l.afterFrame ch c released seq).chan ch
        = c.endFrame.recount b ((l.afterFrame ch c released seq).owes ch) := by
      cases released
      · exact ⟨(l.setChan ch c.endFrame).owes ch, by cases ch <;> rfl⟩
      · exact ⟨((l.setChan ch c.endFrame).release ch seq).owes ch, by cases ch <;> rfl⟩
    obtain ⟨b, hb⟩ := h
    rw [hb, LinkChannel.recount_endFrame]
  · simp only [Link.afterFrame, Link.chan_recount, Link.chan_purge]
    cases released
    · simp only [Bool.false_eq_true, if_false, Link.chan_setChan_other _ _ ho]
      congr 1
      cases ch <;> rfl
    · simp only [if_true, Link.chan_release, Link.chan_setChan_other _ _ ho, Link.owes_release_other _ ho]
      congr 1
      cases ch <;> rfl

/-- Whether a channel takes a record does not hang on how it counts (R140). -/
@[simp] theorem LinkChannel.recount_takes (c : LinkChannel) (before now : Bool) :
    (c.recount before now).takes = c.takes := by
  simp [LinkChannel.takes]

/-- A MARK that takes a new number changes of a channel only the frame that carries the old one (R143). -/
theorem LinkChannel.supersede_eq (c : LinkChannel) (mark : Queued → Bool) (queue : List Queued) :
    c.supersede mark queue = { c with inFlight := (c.supersede mark queue).inFlight } := by
  unfold LinkChannel.supersede
  split
  · rfl
  · split <;> rfl

/-- A MARK's withdrawal changes of a channel only the frame that carries it (R143). -/
theorem LinkChannel.withdraw_eq (c : LinkChannel) (queue : List Queued) :
    c.withdraw queue = { c with inFlight := (c.withdraw queue).inFlight } := by
  unfold LinkChannel.withdraw
  split
  · rfl
  · split <;> rfl

/-! ### Handing over (R140 to R144) -/

/-- What handing over a record can do to the link: the five ends of R140, R142, R143 and R144 and the condition of each. -/
theorem Link.handOver_cases (l : Link) (listenOnly : Bool) (r : Record) :
    ((listenOnly = true ∨ (¬(r.kind = .mark ∧ l.hasMark = true) ∧ l.a.takes = false ∧ l.b.takes = false))
        ∧ l.handOver listenOnly r = ({ l with unsent := grow l.unsent 1 }, .unsent))
    ∨ (listenOnly = false ∧ r.kind = .mark ∧ l.hasMark = true ∧ l.handOver listenOnly r = (l.replaceMark r, .replaced))
    ∨ (listenOnly = false ∧ ¬(r.kind = .mark ∧ l.hasMark = true) ∧ (l.a.takes || l.b.takes) = true
        ∧ l.queue.length < Config.queueSize ∧ l.handOver listenOnly r = (l.enter r, .entered))
    ∨ (listenOnly = false ∧ ¬(r.kind = .mark ∧ l.hasMark = true) ∧ (l.a.takes || l.b.takes) = true
        ∧ Config.queueSize ≤ l.queue.length ∧ (r.kind ≠ .mark ∨ l.displaceable = none)
        ∧ l.handOver listenOnly r = ({ l with overflow := grow l.overflow 1 }, .overflowed))
    ∨ ∃ q, listenOnly = false ∧ r.kind = .mark ∧ l.hasMark = false ∧ (l.a.takes || l.b.takes) = true
        ∧ Config.queueSize ≤ l.queue.length ∧ l.displaceable = some q
        ∧ l.handOver listenOnly r
          = ((Link.remove { l with overflow := grow l.overflow 1 } q.seq).enter r, .displaced) := by
  unfold Link.handOver
  cases listenOnly
  case true => simp
  simp only [Bool.false_eq_true, if_false, false_or, true_and]
  by_cases hm : r.kind = .mark ∧ l.hasMark = true
  · simp [hm.1, hm.2]
  · have hb : ¬((r.kind == RecordKind.mark && l.hasMark) = true) := by simpa using hm
    rw [if_neg hb]
    by_cases ht : (l.a.takes || l.b.takes) = true
    · rw [if_neg (by simp [ht])]
      by_cases hq : l.queue.length < Config.queueSize
      · rw [if_pos hq]; simp [hm, ht, hq]
      · rw [if_neg hq]
        by_cases hk : r.kind = .mark
        · have hno : l.hasMark = false := by simpa [hk] using hm
          cases hd : l.displaceable with
          | none => simp [hk, hno, ht]; omega
          | some q => simp [hk, hno, ht]; omega
        · simp [hk, ht]; omega
    · rw [if_pos (by simpa using ht)]
      have ht' : l.a.takes = false ∧ l.b.takes = false := by simpa using ht
      simp [hm, ht'.1, ht'.2]

/-- Handing over changes the link and, by the SERVICE condition, the alert lines. -/
theorem State.handOver_eq (s : State) (r : Record) :
    s.handOver r = { s with link := (s.handOver r).link, alerts := (s.handOver r).alerts } := by
  unfold State.handOver
  dsimp only
  split <;> rfl

/-- A record that enters stands at the end of the queue, owed to each channel that takes it, and the probe marks clear. -/
theorem Link.enter_eq (l : Link) (r : Record) :
    (l.enter r).queue = l.queue ++ [{ seq := l.nextSeq, record := r, owedA := l.a.takes, owedB := l.b.takes }]
      ∧ (l.enter r).nextSeq = l.nextSeq + 1 ∧ (l.enter r).a.probe = false ∧ (l.enter r).b.probe = false := by
  refine ⟨rfl, rfl, ?_, ?_⟩ <;> simp [Link.enter, Link.recount]

/-! ### Strikes (R71, R72) -/

/-- A strike does nothing to a STRUCK entry, and else is the strike of the entry's role and number. -/
theorem State.strike_cases (s : State) (e : Entry) :
    (e.state = .struck ∧ s.strike e = s)
    ∨ (e.state ≠ .struck ∧ ∃ p, e.part = .line p ∧ s.strike e = s.strikeLine e p)
    ∨ (e.state ≠ .struck ∧ ∃ p, e.part = .apportioning p ∧ e.number = none ∧ s.strike e = s.strikeLeadIn e p)
    ∨ (e.state ≠ .struck ∧ ∃ p n, e.part = .apportioning p ∧ e.number = some n
        ∧ s.strike e = s.strikeAllot (s.role.getD .pool) n e p) := by
  unfold State.strike
  by_cases h : e.state = .struck
  · simp [h]
  · cases hp : e.part <;> cases hn : e.number <;> simp [h]

@[simp] theorem Entry.withShares_number (e : Entry) (p : LinePart) (shares : List ShareItem) :
    (e.withShares p shares).number = e.number := rfl
@[simp] theorem Entry.withItems_number (e : Entry) (p : AllotPart) (role : Role) (items : List ContributorItem) :
    (e.withItems p role items).number = e.number := rfl
@[simp] theorem Entry.struckNow_number (e : Entry) : e.struckNow.number = e.number := rfl
@[simp] theorem Entry.struckNow_state (e : Entry) : e.struckNow.state = .struck := rfl
@[simp] theorem Entry.revised_number (e : Entry) : e.revised.number = e.number := rfl

/-- A strike changes no entry's number. -/
@[simp] theorem State.strike_numbers (s : State) (e : Entry) :
    (s.strike e).book.entries.map Entry.number = s.book.entries.map Entry.number := by
  rcases s.strike_cases e with ⟨-, h⟩ | ⟨-, p, -, h⟩ | ⟨-, p, -, -, h⟩ | ⟨-, p, n, -, -, h⟩ <;> rw [h]
  · simp [State.strikeLine, State.afterStrike, State.refreshAlerts]
  · simp [State.strikeLeadIn, State.afterStrike, State.refreshAlerts]
  · simp [State.strikeAllot, State.afterStrike, State.refreshAlerts]

/-! ### Time -/

/-- With nothing overdue, nothing is discharged. -/
theorem State.discharge_of_nothingDue {s : State} (h : s.nothingDue) : s.discharge = s := by
  obtain ⟨h1, h2, h3, h4⟩ := h
  simp [State.discharge, h1, h2, h3, h4]

/-- With nothing overdue, a base tick is its count. -/
theorem State.overdue_of_nothingDue {s : State} (h : s.nothingDue) : s.overdue = s := by
  unfold State.overdue
  split
  · exact State.discharge_of_nothingDue h
  · rfl

/-! ### Received frames and queries (R145 to R148, R161) -/

/-- What a received frame can do: nothing, an error, a duplicate's passing, an identity remembered, or a delivery. -/
theorem State.receive_cases (s : State) (row : FrameRow) (ch : Chan) (f : Frame) (k : State → State) :
    s.receive row ch f k = s ∨ s.receive row ch f k = s.receiveError ch
      ∨ s.receive row ch f k = (s.hearFrame ch).formatError ∨ s.receive row ch f k = s.hearFrame ch
      ∨ (s.receive row ch f k = s.heard ch f ∧ s.isHeard row ch f ∧ s.accepts f = false)
      ∨ (s.receive row ch f k = k (s.heard ch f) ∧ s.delivers row ch f) := by
  unfold State.receive
  split; · simp
  split; · simp
  split; · simp
  split; · simp
  split; · simp
  dsimp only
  split
  · refine .inr (.inr (.inr (.inr (.inr ⟨rfl, ⟨?_, ?_, ?_, ?_, ?_⟩, ?_⟩)))) <;> simp_all
  · refine .inr (.inr (.inr (.inr (.inl ⟨rfl, ⟨?_, ?_, ?_, ?_, ?_⟩, ?_⟩)))) <;> simp_all

/-- A frame that is delivered reaches its block. -/
theorem State.receive_of_delivers {s : State} {row : FrameRow} {ch : Chan} {f : Frame} (h : s.delivers row ch f)
    (k : State → State) : s.receive row ch f k = k (s.heard ch f) := by
  obtain ⟨⟨h1, h2, h3, h4, h5⟩, h6⟩ := h
  have hlen : ¬Config.maxPayload < f.payload.length := by omega
  simp [State.receive, h1, hlen, h3, h4, h5, h6, State.heard]

/-- A query is counted, and then handled or found NOT-READY. -/
theorem State.query_cases (s : State) (f : Frame) (k : State → State) :
    (s.time.accounting = .unconfigured ∧ s.query f k = s.countQuery.countUnknown f .notReady)
      ∨ (s.time.accounting ≠ .unconfigured ∧ s.query f k = k s.countQuery) := by
  unfold State.query
  by_cases h : s.time.accounting = .unconfigured
  · exact .inl ⟨h, by simp [State.isUnconfigured, h]⟩
  · exact .inr ⟨h, by simp [State.isUnconfigured, h]⟩

/-- Every way a taken record can go: late for a period newer than the open one, else taken after its evidence (R18, R73). -/
theorem State.takeRecord_cases (s : State) (n : Period) (station : Nat) (take : State → State) :
    (s.isAhead n = true ∧ s.takeRecord n station take = (s.evidence n station).dropLate)
      ∨ (s.isAhead n = false ∧ s.takeRecord n station take = take (s.evidence n station)) := by
  cases h : s.isAhead n <;> simp [State.takeRecord, h]

/-- When a period is ahead: the state is ACCOUNTING and the number lies 1 to 32,767 after the open one (R1, R18). -/
theorem State.isAhead_iff (s : State) (n : Period) :
    s.isAhead n = true ↔ s.time.accounting = .accounting
      ∧ ∃ p, s.openNumber = some p ∧ 1 ≤ (n - p).toNat ∧ (n - p).toNat ≤ 32767 := by
  have newer (p : Period) : isNewer n p = true ↔ 1 ≤ (n - p).toNat ∧ (n - p).toNat ≤ 32767 := decide_eq_true_iff
  unfold State.isAhead
  cases s.time.accounting <;> cases s.openNumber <;> simp [newer, -BitVec.toNat_sub]

/-- What hearing a frame to its end changes: the channel's times and the recent-frame list. -/
theorem State.heard_eq (s : State) (ch : Chan) (f : Frame) :
    s.heard ch f
      = { s with link := { s.link.setChan ch (s.link.chan ch).hearFrame with
          recent := addRecent f.identity s.link.recent } } := by
  cases ch <;> rfl

end Sys2Proof.Machine
end

