-- ==== Sys2Proof/WellFormed.lean ====
section
/-! DEFINITION. Which commands are well formed: the operands that the event of a row can bring. -/

namespace Sys2Proof

/-- A frame that a command of the given row can bring: at most 120 payload bytes (R129), and, when the header and the payload
pass the format test, a frame of that row (R145, R154, R162). A frame that fails the format test belongs to no row and may
come under any of them. -/
def Frame.fits (f : Frame) (row : FrameRow) : Bool :=
  decide (f.payload.length ≤ Config.maxPayload) && (!f.formatOk || f.row == row)

/-- The operands are ones that the event of the row can bring. -/
def Instr.wellFormed : Instr → Bool
  | .hardwareReset => true
  | .resetRelease _ _ _ _ => true
  | .imageReadAttempt memory _ => decide (154 ≤ memory.length)
  | .retryWaitEnd => true
  | .internalSecond => true
  | .secondPulse _ => true
  | .lossWatchExpiry => true
  | .periodExpiry => true
  | .soloWaitEnd => true
  | .sampleTick => true
  | .waitTimerExpiry _ => true
  | .alertPulseEnd _ => true
  | .energyPulse _ => true
  | .cutPulse _ => true
  | .rejectPulse _ => true
  | .runningLevelChange _ _ => true
  | .faultLevelChange _ _ => true
  | .debouncedEdge _ _ _ => true
  | .meterLineQuiet _ => true
  | .quietWaitTimeout => true
  | .requestSent => true
  | .replyReceived _ => true
  | .replyWindowClose window => decide (window.received < 8) && (window.received == 0 || window.sinceStart.isSome)
  | .strayMeterByte _ => true
  | .frameBegin _ _ => true
  | .defer _ => true
  | .frameGoneOutWhole _ => true
  | .echoMismatch _ => true
  | .inhibitActive _ => true
  | .inhibitReleased _ => true
  | .receiveError _ raw => raw.isError
  | .bitRateFixed _ _ => true
  | .mark _ f => f.fits .mark
  | .tally _ f => f.fits .tally
  | .allotment _ f => f.fits .allotment
  | .answerHeard _ f => f.fits .answer
  | .queryResult _ f => f.fits .queryResult
  | .queryLatest _ f => f.fits .queryLatest
  | .queryCampaign _ f => f.fits .queryCampaign
  | .queryCondition _ f => f.fits .queryCondition
  | .queryChannels _ f => f.fits .queryChannels
  | .unknownRequest _ f => f.fits .unknown
  | .orderZero _ f => f.fits .orderZero
  | .orderJob _ f => f.fits .orderJob
  | .receiverStart _ => true
  | .inhibitedFrameEnd _ => true

end Sys2Proof
end

