-- ==== Sys2Proof/Laws/PerInstr.lean ====
section
/-! SUPPORT. What well-formedness says of each command, by constructor: a well-formed command that brings a frame brings one of
at most 120 payload bytes, and one that passes the format test comes under the command of its own row. -/

namespace Sys2Proof.Laws.WellFormedFrames

open Sys2Proof Sys2Proof.Machine

/-- The channel and the frame that a command brings. -/
def carried : Instr → Option (Chan × Frame)
  | .mark ch f | .tally ch f | .allotment ch f | .answerHeard ch f | .queryResult ch f | .queryLatest ch f
  | .queryCampaign ch f | .queryCondition ch f | .queryChannels ch f | .unknownRequest ch f | .orderZero ch f
  | .orderJob ch f => some (ch, f)
  | _ => none

/-- The statement about one command. -/
def Statement (i : Instr) : Prop :=
  ∀ ch f, carried i = some (ch, f) → i.wellFormed = true →
    f.payload.length ≤ Config.maxPayload ∧ (f.formatOk = true → frameCommand f.row ch f = i)

/-- A command that brings no frame. -/
theorem of_none {i : Instr} (h : carried i = none) : Statement i := fun _ _ hc _ => nomatch h.symm.trans hc

/-- A command of a row that brings a frame. -/
theorem of_row {i : Instr} {row : FrameRow} {ch : Chan} {f : Frame} (hc : carried i = some (ch, f))
    (hw : i.wellFormed = f.fits row) (hi : frameCommand row ch f = i) : Statement i := by
  intro ch' f' h hwf
  obtain ⟨rfl, rfl⟩ := Prod.mk.inj (Option.some.inj (hc.symm.trans h))
  rw [hw] at hwf
  simp only [Frame.fits, Bool.and_eq_true, decide_eq_true_eq, Bool.or_eq_true, Bool.not_eq_true', beq_iff_eq] at hwf
  refine ⟨hwf.1, fun hok => ?_⟩
  rcases hwf.2 with hbad | hrow
  · rw [hok] at hbad; cases hbad
  · rw [hrow, hi]

theorem hardwareReset : Statement .hardwareReset := of_none rfl
theorem resetRelease (straps : Straps) (levels : Vector Level 8) (inhibitA inhibitB : Bool) : Statement (.resetRelease straps levels inhibitA inhibitB) := of_none rfl
theorem imageReadAttempt (memory : List Byte) (now : Nat) : Statement (.imageReadAttempt memory now) := of_none rfl
theorem retryWaitEnd : Statement .retryWaitEnd := of_none rfl
theorem internalSecond : Statement .internalSecond := of_none rfl
theorem secondPulse (line : Fin 8) : Statement (.secondPulse line) := of_none rfl
theorem lossWatchExpiry : Statement .lossWatchExpiry := of_none rfl
theorem periodExpiry : Statement .periodExpiry := of_none rfl
theorem soloWaitEnd : Statement .soloWaitEnd := of_none rfl
theorem sampleTick : Statement .sampleTick := of_none rfl
theorem waitTimerExpiry (number : Period) : Statement (.waitTimerExpiry number) := of_none rfl
theorem alertPulseEnd (alert : AlertNo) : Statement (.alertPulseEnd alert) := of_none rfl
theorem energyPulse (line : Fin 8) : Statement (.energyPulse line) := of_none rfl
theorem cutPulse (line : Fin 8) : Statement (.cutPulse line) := of_none rfl
theorem rejectPulse (line : Fin 8) : Statement (.rejectPulse line) := of_none rfl
theorem runningLevelChange (line : Fin 8) (edge : Edge) : Statement (.runningLevelChange line edge) := of_none rfl
theorem faultLevelChange (line : Fin 8) (edge : Edge) : Statement (.faultLevelChange line edge) := of_none rfl
theorem debouncedEdge (line : Fin 8) (edge : Edge) (time : Nat) : Statement (.debouncedEdge line edge time) := of_none rfl
theorem meterLineQuiet (elapsed : Nat) : Statement (.meterLineQuiet elapsed) := of_none rfl
theorem quietWaitTimeout : Statement .quietWaitTimeout := of_none rfl
theorem requestSent : Statement .requestSent := of_none rfl
theorem replyReceived (reply : MeterReply) : Statement (.replyReceived reply) := of_none rfl
theorem replyWindowClose (window : WindowEnd) : Statement (.replyWindowClose window) := of_none rfl
theorem strayMeterByte (byte : Option Byte) : Statement (.strayMeterByte byte) := of_none rfl
theorem frameBegin (ch : Chan) (elapsed : Nat) : Statement (.frameBegin ch elapsed) := of_none rfl
theorem defer (ch : Chan) : Statement (.defer ch) := of_none rfl
theorem frameGoneOutWhole (ch : Chan) : Statement (.frameGoneOutWhole ch) := of_none rfl
theorem echoMismatch (ch : Chan) : Statement (.echoMismatch ch) := of_none rfl
theorem inhibitActive (ch : Chan) : Statement (.inhibitActive ch) := of_none rfl
theorem inhibitReleased (ch : Chan) : Statement (.inhibitReleased ch) := of_none rfl
theorem receiveError (ch : Chan) (raw : RawFrame) : Statement (.receiveError ch raw) := of_none rfl
theorem bitRateFixed (ch : Chan) (rate : BitRate) : Statement (.bitRateFixed ch rate) := of_none rfl
theorem mark (ch : Chan) (frame : Frame) : Statement (.mark ch frame) := of_row (row := .mark) rfl rfl rfl
theorem tally (ch : Chan) (frame : Frame) : Statement (.tally ch frame) := of_row (row := .tally) rfl rfl rfl
theorem allotment (ch : Chan) (frame : Frame) : Statement (.allotment ch frame) := of_row (row := .allotment) rfl rfl rfl
theorem answerHeard (ch : Chan) (frame : Frame) : Statement (.answerHeard ch frame) := of_row (row := .answer) rfl rfl rfl
theorem queryResult (ch : Chan) (frame : Frame) : Statement (.queryResult ch frame) := of_row (row := .queryResult) rfl rfl rfl
theorem queryLatest (ch : Chan) (frame : Frame) : Statement (.queryLatest ch frame) := of_row (row := .queryLatest) rfl rfl rfl
theorem queryCampaign (ch : Chan) (frame : Frame) : Statement (.queryCampaign ch frame) := of_row (row := .queryCampaign) rfl rfl rfl
theorem queryCondition (ch : Chan) (frame : Frame) : Statement (.queryCondition ch frame) := of_row (row := .queryCondition) rfl rfl rfl
theorem queryChannels (ch : Chan) (frame : Frame) : Statement (.queryChannels ch frame) := of_row (row := .queryChannels) rfl rfl rfl
theorem unknownRequest (ch : Chan) (frame : Frame) : Statement (.unknownRequest ch frame) := of_row (row := .unknown) rfl rfl rfl
theorem orderZero (ch : Chan) (frame : Frame) : Statement (.orderZero ch frame) := of_row (row := .orderZero) rfl rfl rfl
theorem orderJob (ch : Chan) (frame : Frame) : Statement (.orderJob ch frame) := of_row (row := .orderJob) rfl rfl rfl
theorem receiverStart (ch : Chan) : Statement (.receiverStart ch) := of_none rfl
theorem inhibitedFrameEnd (ch : Chan) : Statement (.inhibitedFrameEnd ch) := of_none rfl

end Sys2Proof.Laws.WellFormedFrames
end

