-- ==== Sys2Proof/Tests/Slice0.lean ====
section
/-! SUPPORT. The model's own tests: small steps of the stations of 11_worked_sequences.md with the figures of that chapter or
figures worked by hand from the rules, and the smoke test of well-formedness. -/

set_option Elab.async false

namespace Sys2Proof.Tests

open Sys2Proof Sys2Proof.Machine

/-! ### The stations of the worked sequences -/

/-- The state after a command; the state itself if there were none. -/
def after (c : Instr) (s : State) : State :=
  match exec c s with
  | .next t => t
  | _ => s

/-- The lines of line 5: two ENERGY lines, CUT, REJECT, RUNNING, FAULT, SECOND, UNUSED, all rising or active HIGH. -/
def lines : Vector LineSetup 8 :=
  #v[⟨.energy, .risingHigh, .ms1⟩, ⟨.energy, .risingHigh, .ms1⟩, ⟨.cut, .risingHigh, .ms1⟩, ⟨.reject, .risingHigh, .ms1⟩,
     ⟨.running, .risingHigh, .ms1⟩, ⟨.fault, .risingHigh, .ms1⟩, ⟨.second, .risingHigh, .ms1⟩, ⟨.unused, .risingHigh, .ms1⟩]

/-- Meter entry 1 of line 5: address 21, modulus 10^8, 1,600 sixteenths per count, 12 counts per round, channel 3. -/
def meter : MeterSetup := ⟨21, 0, 10 ^ 8, 1600, 12, some 2⟩

/-- A configuration of the given role and table, set as line 5 is. -/
def config (role : Role) (table : List Nat) : Settings :=
  { source := .straps, role := role, rate := .r125, periodLength := 900, interval := 5, t1 := 30, t2 := 60, external := true,
    authorization := 4711, tag := [76, 73, 78, 69, 48, 53], alert1 := ⟨.level, 1⟩, alert2 := ⟨.pulse, 1⟩, lines := lines,
    baud := .b9600, meters := #v[some meter, none, none, none, none, none, none, none],
    channels := #v[some ⟨.line 0, .gas, 1680⟩, some ⟨.line 1, .gas, 1123⟩, some ⟨.meter 0, .electric, 0⟩, none, none, none,
      none, none],
    basis := .mass, table := table, job := ⟨420, 2⟩ }

/-- A link with both receivers started and every channel ACTIVE. -/
def link : Link :=
  { Link.atReset with a := { LinkChannel.atReset with receiving := true, quietTime := 8 },
                      b := { LinkChannel.atReset with receiving := true, quietTime := 8 }, rate := some .r125 }

/-- A configured station in ACCOUNTING with the given number, configuration, book and tables. -/
def station (own : Nat) (c : Settings) (entries : List Entry) (contributors subscriptions : List Peer) : State :=
  { State.reset with
      loader := { Loader.atReset with phase := .ended, own := some own }
      settings := some c
      time := { TimeBase.atReset with accounting := .accounting, source := .external, seconds := 10, lossWatch := true }
      bank := { Bank.atReset with job := ⟨420, 2⟩ }
      book := { Book.atReset with entries := entries, line := LineTotals.zero (subscriptions.map Peer.station) }
      contributors := contributors
      subscriptions := subscriptions
      link := link
      alerts := { Alerts.atReset with one := AlertLine.configure ⟨.level, 1⟩, two := AlertLine.configure ⟨.pulse, 1⟩ } }

/-- An entry of the given number, state and part. -/
def entry (number : Option Period) (state : EntryState) (timer : Option Nat) (part : RolePart) : Entry :=
  { number := number, kind := if number.isSome then .regular else .leadIn, state := state, cause := .mark 2, duration := 900,
    flags := EntryFlags.none, carriers := [], revisions := 0, timer := timer, part := part }

/-- The part of an open LINE entry. -/
def openLine : RolePart := .line ⟨0, 0, 0, 0, 0, [], none⟩

/-- The part of an open FURNACE or POOL entry. -/
def openAllot : RolePart := .apportioning ⟨0, .mass, [], 0, 0, none, none⟩

/-- Line 5's own figures of period 4,940 with the given share list (sequence 1). -/
def linePart (shares : List ShareItem) : LinePart := ⟨3780000, 226800, 3553200, 900, 4500, shares, none⟩

/-- A share item as the close makes it. -/
def absent (station : Nat) : ShareItem := ⟨station, .absent, 0, none⟩

/-- A RECEIVED share item of revision 0. -/
def received (station share : Nat) : ShareItem := ⟨station, .received, share, some ⟨0, 0, 0, .mass, some (0, false)⟩⟩

/-- Line 5's entry 4,940, SETTLING, with its carrier totals. -/
def line4940 (shares : List ShareItem) (timer : Nat) : Entry :=
  { entry (some 4940) .settling (some timer) (.line (linePart shares)) with carriers := [(.gas, 452300), (.electric, 128500)] }

/-- Line 5 with 4,941 open and 4,940 SETTLING. -/
def line5 (shares : List ShareItem) (timer : Nat) : State :=
  station 5 (config .line [2, 9]) [line4940 shares timer, entry (some 4941) .opened none openLine] [] [⟨2, some 7⟩, ⟨9, none⟩]

/-- The part of furnace 2's entry 4,940 at its close (sequence 1). -/
def allotPart (items : List ContributorItem) : AllotPart := ⟨6480007, .mass, items, basisTotal items, 0, none, none⟩

/-- Furnace 2's entry 4,940 in the given state. -/
def furnace4940 (items : List ContributorItem) (timer : Nat) : Entry :=
  entry (some 4940) .settling (some timer) (.apportioning (allotPart items))

/-- Furnace 2 with 4,941 open and 4,940 SETTLING; its last basis for line 6 is 1,404,000 g. -/
def furnace2 (items : List ContributorItem) (timer : Nat) : State :=
  station 2 (config .furnace [5, 6]) [furnace4940 items timer, entry (some 4941) .opened none openAllot]
    [⟨5, none⟩, ⟨6, some 1404000⟩] []

/-- A station just out of loading, its lead-in open. -/
def starting : State :=
  { station 5 (config .line [2, 9]) [entry none .opened none openLine] [] [⟨2, none⟩, ⟨9, none⟩] with
      time := { TimeBase.atReset with accounting := .starting, source := .external, seconds := 10, lossWatch := true } }

/-- An UNCONFIGURED station whose receivers work. -/
def unconfigured : State :=
  { State.reset with
      loader := { Loader.atReset with phase := .ended, own := some 5 }
      time := { TimeBase.atReset with accounting := .unconfigured }
      link := link
      alerts := { Alerts.atReset with one := AlertLine.configure ⟨.level, 64⟩, two := AlertLine.configure ⟨.level, 0⟩ } }

/-- A MARK of a period from a station. -/
def markFrame (n : Period) (source : Byte) : Frame := ⟨1, 0, source, 31, n, 0, 0, []⟩

/-- A TALLY of a period from a station with the given pull, good and run seconds and no carrier item. -/
def tallyFrame (n : Period) (source : Byte) (pull good run : Nat) : Frame :=
  ⟨2, 0, source, 31, n, 0, 0, [2, 0, 0, 3, 132] ++ toBytes 4 pull ++ toBytes 4 0 ++ toBytes 4 good ++ toBytes 2 run
    ++ toBytes 4 0 ++ [0]⟩

/-- An ALLOTMENT of a period from a station: E, B, and the items as station byte and basis value. -/
def allotFrame (n : Period) (source : Byte) (revision : Nibble) (e b : Nat) (items : List (Byte × Nat)) : Frame :=
  ⟨3, revision, source, 31, n, 0, 0, toBytes 4 e ++ [1] ++ toBytes 6 b ++ [byte items.length]
    ++ items.flatMap fun i => i.1 :: toBytes 4 i.2⟩

/-- A QUERY from station 30 to station `dest` with an item code and a part. -/
def queryFrame (dest : Byte) (item : Byte) (part : Nibble) (n : Period) : Frame := ⟨4, part, 30, dest, n, 0, 3, [item]⟩

/-- An ORDER from station 30 with a code, an authorization number and a job. -/
def orderFrame (dest : Byte) (code : Byte) (authorization gob : Nat) (perCut : Byte) : Frame :=
  ⟨5, 0, 30, dest, 0, 0, 3, [code] ++ toBytes 2 authorization ++ toBytes 2 gob ++ [perCut]⟩

/-- The first 152 bytes of an image of the given role code: period length code 3, interval code 2, waits 30 and 60, table 2
and 9, job 420 g by 2, every other field 0. -/
def imageBody (role : Byte) : List Byte :=
  [0xA6#8, 0x31, 0, 154, 0, 0, role, 1, 3, 2, 30, 60] ++ List.replicate 121 0 ++ [2, 9] ++ List.replicate 14 0 ++ [1, 164, 2]

/-- The check word may be worked out 19 bytes at a time. -/
theorem foldl_crc_chunk (r : CheckWord) (l : List Byte) :
    l.foldl crcByte r = (l.drop 19).foldl crcByte ((l.take 19).foldl crcByte r) := by
  rw [← List.foldl_append, List.take_append_drop]

theorem crc_imageBody_1 : crc (imageBody 1) = 51901 := by
  unfold crc
  rw [foldl_crc_chunk,
    show ((imageBody 1).take 19).foldl crcByte 0xFFFF#16 = 48912#16 from by decide +kernel,
    foldl_crc_chunk,
    show (((imageBody 1).drop 19).take 19).foldl crcByte 48912#16 = 39664#16 from by decide +kernel,
    foldl_crc_chunk,
    show ((((imageBody 1).drop 19).drop 19).take 19).foldl crcByte 39664#16 = 34069#16 from by decide +kernel,
    foldl_crc_chunk,
    show (((((imageBody 1).drop 19).drop 19).drop 19).take 19).foldl crcByte 34069#16 = 63136#16 from by decide +kernel,
    foldl_crc_chunk,
    show ((((((imageBody 1).drop 19).drop 19).drop 19).drop 19).take 19).foldl crcByte 63136#16 = 62874#16 from by decide +kernel,
    foldl_crc_chunk,
    show (((((((imageBody 1).drop 19).drop 19).drop 19).drop 19).drop 19).take 19).foldl crcByte 62874#16 = 33174#16 from by decide +kernel,
    foldl_crc_chunk,
    show ((((((((imageBody 1).drop 19).drop 19).drop 19).drop 19).drop 19).drop 19).take 19).foldl crcByte 33174#16 = 22994#16 from by decide +kernel,
    foldl_crc_chunk,
    show (((((((((imageBody 1).drop 19).drop 19).drop 19).drop 19).drop 19).drop 19).drop 19).take 19).foldl crcByte 22994#16 = 51901#16 from by decide +kernel]
  decide +kernel

theorem crc_imageBody_4 : crc (imageBody 4) = 57692 := by
  unfold crc
  rw [foldl_crc_chunk,
    show ((imageBody 4).take 19).foldl crcByte 0xFFFF#16 = 65502#16 from by decide +kernel,
    foldl_crc_chunk,
    show (((imageBody 4).drop 19).take 19).foldl crcByte 65502#16 = 46735#16 from by decide +kernel,
    foldl_crc_chunk,
    show ((((imageBody 4).drop 19).drop 19).take 19).foldl crcByte 46735#16 = 49291#16 from by decide +kernel,
    foldl_crc_chunk,
    show (((((imageBody 4).drop 19).drop 19).drop 19).take 19).foldl crcByte 49291#16 = 17855#16 from by decide +kernel,
    foldl_crc_chunk,
    show ((((((imageBody 4).drop 19).drop 19).drop 19).drop 19).take 19).foldl crcByte 17855#16 = 46833#16 from by decide +kernel,
    foldl_crc_chunk,
    show (((((((imageBody 4).drop 19).drop 19).drop 19).drop 19).drop 19).take 19).foldl crcByte 46833#16 = 52671#16 from by decide +kernel,
    foldl_crc_chunk,
    show ((((((((imageBody 4).drop 19).drop 19).drop 19).drop 19).drop 19).drop 19).take 19).foldl crcByte 52671#16 = 46086#16 from by decide +kernel,
    foldl_crc_chunk,
    show (((((((((imageBody 4).drop 19).drop 19).drop 19).drop 19).drop 19).drop 19).drop 19).take 19).foldl crcByte 46086#16 = 57692#16 from by decide +kernel]
  decide +kernel

/-- The first 152 bytes of the image of a LINE with the EXTERNAL source and role SECOND on IN1. -/
def secondBody : List Byte :=
  [0xA6#8, 0x31, 0, 154, 0, 0, 1, 1, 3, 2, 30, 60, 1] ++ List.replicate 14 0 ++ [6] ++ List.replicate 105 0 ++ [2, 9]
    ++ List.replicate 14 0 ++ [1, 164, 2]

theorem crc_secondBody : crc secondBody = 35310 := by
  unfold crc
  rw [foldl_crc_chunk,
    show (secondBody.take 19).foldl crcByte 0xFFFF#16 = 1905#16 from by decide +kernel,
    foldl_crc_chunk,
    show ((secondBody.drop 19).take 19).foldl crcByte 1905#16 = 51045#16 from by decide +kernel,
    foldl_crc_chunk,
    show (((secondBody.drop 19).drop 19).take 19).foldl crcByte 51045#16 = 26484#16 from by decide +kernel,
    foldl_crc_chunk,
    show ((((secondBody.drop 19).drop 19).drop 19).take 19).foldl crcByte 26484#16 = 38857#16 from by decide +kernel,
    foldl_crc_chunk,
    show (((((secondBody.drop 19).drop 19).drop 19).drop 19).take 19).foldl crcByte 38857#16 = 34133#16 from by decide +kernel,
    foldl_crc_chunk,
    show ((((((secondBody.drop 19).drop 19).drop 19).drop 19).drop 19).take 19).foldl crcByte 34133#16 = 3391#16 from by decide +kernel,
    foldl_crc_chunk,
    show (((((((secondBody.drop 19).drop 19).drop 19).drop 19).drop 19).drop 19).take 19).foldl crcByte 3391#16 = 164#16 from by decide +kernel,
    foldl_crc_chunk,
    show ((((((((secondBody.drop 19).drop 19).drop 19).drop 19).drop 19).drop 19).drop 19).take 19).foldl crcByte 164#16 = 35310#16 from by decide +kernel]
  decide +kernel

/-- The image of a LINE, and one whose role code names no role, each with its check word. -/
def lineImage : List Byte := imageBody 1 ++ [202, 189]

/-- An image whose role code names no role. -/
def rolelessImage : List Byte := imageBody 4 ++ [225, 92]

theorem lineImage_reads : imageReads lineImage = true := by
  have hc : clockedIn lineImage = lineImage := by decide +kernel
  have h : lineImage.take 152 = imageBody 1 := by decide +kernel
  have hw : imageField lineImage 152 2 = 51901 := by decide +kernel
  unfold imageReads
  rw [hc, h, crc_imageBody_1, hw]
  decide +kernel

/-- The image of a LINE with a second pulse. -/
def secondImage : List Byte := secondBody ++ [137, 238]

theorem secondImage_reads : imageReads secondImage = true := by
  have hc : clockedIn secondImage = secondImage := by decide +kernel
  have h : secondImage.take 152 = secondBody := by decide +kernel
  have hw : imageField secondImage 152 2 = 35310 := by decide +kernel
  unfold imageReads
  rw [hc, h, crc_secondBody, hw]
  decide +kernel

theorem rolelessImage_reads : imageReads rolelessImage = true := by
  have hc : clockedIn rolelessImage = rolelessImage := by decide +kernel
  have h : rolelessImage.take 152 = imageBody 4 := by decide +kernel
  have hw : imageField rolelessImage 152 2 = 57692 := by decide +kernel
  unfold imageReads
  rw [hc, h, crc_imageBody_4, hw]
  decide +kernel

/-- The straps of station 5: ST0, ST2 and STP high, an odd number of inputs. -/
def straps5 : Straps := ⟨true, false, true, false, false, true⟩

/-- A station that reads its image for the given time. -/
def reading (attempt : Nat) : State :=
  { State.reset with loader := { Loader.atReset.begin attempt with straps := straps5 } }

/-! ### Well-formedness: each check refuses a term -/

theorem test_wellFormed_refuses_a_short_memory : (Instr.imageReadAttempt [0xA6] 0).wellFormed = false := by decide
theorem test_wellFormed_refuses_a_full_window : (Instr.replyWindowClose ⟨8, some 10⟩).wellFormed = false := by decide
theorem test_wellFormed_refuses_a_byte_that_never_started : (Instr.replyWindowClose ⟨1, none⟩).wellFormed = false := by decide
theorem test_wellFormed_refuses_a_raw_frame_without_error :
    (Instr.receiveError .a (markFrame 7 2).received).wellFormed = false := by decide +kernel
theorem test_wellFormed_refuses_a_long_payload :
    (Instr.mark .a { markFrame 7 2 with payload := List.replicate 121 0 }).wellFormed = false := by decide +kernel
theorem test_wellFormed_refuses_a_frame_of_another_row :
    (Instr.tally .a (markFrame 7 2)).wellFormed = false := by decide +kernel
theorem test_wellFormed_admits_a_mark : (Instr.mark .a (markFrame 7 2)).wellFormed = true := by decide +kernel
theorem test_wellFormed_admits_a_malformed_frame :
    (Instr.mark .a { markFrame 7 2 with payload := [1] }).wellFormed = true := by decide +kernel

/-! ### Start-up -/

theorem test_hardwareReset_forgets_the_book :
    (after .hardwareReset (line5 [] 0)).book.entries = [] ∧ (after .hardwareReset (line5 [] 0)).phaseCode = (true, false) := by
  decide +kernel

theorem test_resetRelease_reads_inhibit_B :
    (after (.resetRelease straps5 (Vector.replicate 8 .high) false true) State.reset).link.b.state = .inhibited
      ∧ (after (.resetRelease straps5 (Vector.replicate 8 .high) false true) State.reset).inputs[3].level = .high := by
  decide +kernel

/-- R169: ST0 and ST2 carry 1 and 4. -/
theorem test_straps_give_station_5 : strapOwn straps5 = some 5 := by decide

/-- Line 5 once its image is loaded. -/
def loaded : State := (reading 1).loadSucceeds lineImage .line 0

theorem test_imageRead_loads_a_line : exec (.imageReadAttempt lineImage 0) (reading 1) = .next loaded := by
  have hr : imageRole lineImage = some .line := by decide +kernel
  have ht : lineImage.take imageLength = lineImage := by decide +kernel
  have hp : (reading 1).loader.phase = .reading := rfl
  simp only [exec, execImageReadAttempt, hp, lineImage_reads, hr, ht, if_true]
  rfl

theorem test_loaded_line :
    loaded.time.accounting = .starting ∧ loaded.subscriptions = [⟨2, none⟩, ⟨9, none⟩] ∧ loaded.bank.job = ⟨420, 2⟩
      ∧ loaded.loader.clamped = false ∧ loaded.loader.own = some 5 := by decide +kernel

theorem test_imageRead_fails_at_the_fourth_attempt :
    (after (.imageReadAttempt [] 0) (reading 3)).loader.phase = .retryWait
      ∧ (after (.imageReadAttempt [] 0) (reading 4)).time.accounting = .unconfigured := by decide +kernel

/-- R171: the first bits on SDO are those of the read instruction, 3: six LOW and two HIGH. -/
theorem test_resetRelease_sends_the_read_instruction :
    let l := (after (.resetRelease straps5 (Vector.replicate 8 .high) false false) State.reset).loader
    l.selectsMemory = true ∧ l.clockAtRest = none ∧ l.serialWave.length = 48
      ∧ (l.serialWave.map Prod.snd).take 16 = List.replicate 12 .low ++ List.replicate 4 .high := by decide +kernel

theorem test_retryWaitEnd_reads_again :
    (after .retryWaitEnd (after (.imageReadAttempt [] 0) (reading 1))).loader.attempt = 2 := by decide +kernel

/-- The example of R175: at 60 s, T1 above its range. -/
theorem test_waits_of_a_short_period : clampWaits 60 150 50 = (57, 59) := by decide

/-! ### Time -/

theorem test_internalSecond_counts_in_fallback :
    (after .internalSecond { line5 [] 0 with time := { (line5 [] 0).time with source := .fallback } }).time.seconds = 11 := by
  decide +kernel

theorem test_secondPulse_returns_from_fallback :
    let t := after (.secondPulse 6) { line5 [] 0 with time := { (line5 [] 0).time with source := .fallback } }
    t.time.source = .external ∧ t.time.seconds = 11 ∧ t.inputs[6].level = .high := by decide +kernel

theorem test_lossWatchExpiry_falls_back :
    let t := after .lossWatchExpiry (line5 [] 0)
    t.time.source = .fallback ∧ t.time.timebase = true ∧ (t.openEntry.map fun e => e.flags.timebase) = some true := by
  decide +kernel

/-- Line 5 at its last second of the period. -/
def lateLine : State := { line5 [] 0 with time := { (line5 [] 0).time with seconds := 900 } }

theorem test_periodExpiry_opens_the_next_period :
    (after .periodExpiry lateLine).openNumber = some 4942 ∧ (after .periodExpiry lateLine).link.queue.map Queued.record
      = [⟨.tally, 0, 31, 4941, 0, [2, 0, 0, 3, 132] ++ List.replicate 18 0 ++ [2, 1, 0, 0, 0, 0, 2, 0, 0, 0, 0], false⟩,
         markRecord 4942] := by decide +kernel

theorem test_soloWaitEnd_opens_period_1 :
    let t := after .soloWaitEnd { starting with time := { starting.time with seconds := 1800 } }
    t.openNumber = some 1 ∧ t.time.accounting = .accounting ∧ t.book.line.struck = 0 ∧ t.book.entries.length = 2 := by
  decide +kernel

theorem test_sampleTick_starts_a_round :
    (after .sampleTick { line5 [] 0 with time := { (line5 [] 0).time with sampleDue := true } }).meter.poll
      = some ⟨0, .waitQuiet⟩ := by decide +kernel

/-- Sequence 2: item 6 is ESTIMATED at T1 with its last basis; here with the figures of sequence 1. -/
theorem test_waitTimerExpiry_strikes_the_furnace :
    let t := after (.waitTimerExpiry 4940) (furnace2 [⟨5, .received, 3780000⟩] 30)
    t.book.allot.measured = 6480007 ∧ t.book.allot.undistributed = 1 ∧ t.alerts.estimatedStrike = true
      ∧ t.link.queue.map (fun q => q.record.kind) = [.allotment] := by decide +kernel

theorem test_waitTimerExpiry_waits_for_T2 :
    after (.waitTimerExpiry 4940) (line5 [received 2 4725005, absent 9] 59) = line5 [received 2 4725005, absent 9] 59 := by
  decide +kernel

theorem test_alertPulseEnd_releases_the_line :
    let s := { line5 [] 0 with alerts := { (line5 [] 0).alerts with two := ⟨some .pulse, 1, true, true⟩ } }
    s.alerts.two.active = true ∧ (after (.alertPulseEnd .two) s).alerts.two.active = false := by decide +kernel

/-! ### Input lines -/

/-- Sequence 1: IN2 gives 1,123 sixteenths per pulse. -/
theorem test_energyPulse_adds_its_value :
    (after (.energyPulse 1) (line5 [] 0)).bank.channels[1].held = 1123
      ∧ (after (.energyPulse 1) (line5 [] 0)).bank.channels[0].held = 0 := by decide +kernel

/-- A channel 1 one sixteenth below its limit. -/
def fullLine : State :=
  { line5 [] 0 with bank := { (line5 [] 0).bank with
      channels := (line5 [] 0).bank.channels.set 0 ⟨2 ^ 40 - 2, BitVec.ofNat 64 (2 ^ 40 - 2), 0⟩ } }

theorem test_energyPulse_holds_at_the_limit :
    (after (.energyPulse 0) fullLine).bank.channels[0].held = 2 ^ 40 - 1
      ∧ (after (.energyPulse 0) fullLine).bank.channels[0].counted = BitVec.ofNat 64 (2 ^ 40 - 1)
      ∧ ((after (.energyPulse 0) fullLine).openEntry.map fun e => e.flags.saturated) = some true := by decide +kernel

theorem test_cutPulse_weighs_two_gobs :
    (after (.cutPulse 2) (line5 [] 0)).bank.pull = 840 ∧ (after (.cutPulse 2) (line5 [] 0)).bank.cuts = 1 := by decide +kernel

theorem test_rejectPulse_weighs_one_gob : (after (.rejectPulse 3) (line5 [] 0)).bank.reject = 420 := by decide +kernel

theorem test_runningLevel_makes_run_seconds :
    (after .internalSecond { after (.runningLevelChange 4 .rising) (line5 [] 0) with
        time := { (line5 [] 0).time with source := .fallback } }).bank.runSeconds = 1 := by decide +kernel

theorem test_faultLevel_sets_METER :
    let t := after (.faultLevelChange 5 .rising) (line5 [] 0)
    t.meterCondition = true ∧ (t.openEntry.map fun e => e.flags.meterFault) = some true ∧ t.alerts.one.active = true := by
  decide +kernel

theorem test_debouncedEdge_is_remembered_during_loading :
    (after (.debouncedEdge 6 .rising 41) (reading 1)).inputs[6] = ⟨.high, some 41, none⟩ := by decide +kernel

/-! ### The meter port -/

/-- Line 5 with a poll of meter entry 1 in a phase, its runtime state given. -/
def polling (phase : PollPhase) (e : MeterEntry) : State :=
  { line5 [] 0 with meter := { MeterPort.atReset with
      entries := #v[e, .atReset, .atReset, .atReset, .atReset, .atReset, .atReset, .atReset], poll := some ⟨0, phase⟩ } }

/-- The request to address 21, counter select 0: the check byte is 255 - 21. -/
def request21 : MeterRequest := ⟨21, 0, 234⟩

/-- A reply of address 21 with a value below 256 and no alarm. -/
def reply21 (value : Byte) : MeterReply :=
  ⟨some 21, some 0, some 0, some 0, some 0, some value, some 0, some (234 - value)⟩

/-- Meter entry 1 before the wrap of sequence 3. -/
def beforeWrap : MeterEntry := ⟨.active, 0, 1, some 99999996, false⟩

/-- The check byte of address 11, counter select 0 (R44). -/
theorem test_request_check_byte : (MeterSetup.request { meter with address := 11 }).check = 244 := by decide

theorem test_meterLineQuiet_sends_at_30_bits :
    (after (.meterLineQuiet 29) (polling .waitQuiet beforeWrap)).meter.poll = some ⟨0, .waitQuiet⟩
      ∧ (after (.meterLineQuiet 30) (polling .waitQuiet beforeWrap)).meter.poll = some ⟨0, .sending request21⟩ := by
  decide +kernel

/-- R43: the first byte sent, 21 = 15 hex, has the data bits 1, 0, 1, 0, 1, 0, 0, 0 from the least significant on. -/
theorem test_request_is_sent_on_MTX :
    let m := (polling (.sending request21) beforeWrap).meter
    m.serialWave.take 10 = [.low, .high, .low, .high, .low, .high, .low, .low, .low, .high] ∧ m.serialWave.length = 30
      ∧ m.lineAtRest = none ∧ (line5 [] 0).meter.serialWave = [] ∧ MeterPort.atReset.lineAtRest = some .high := by
  decide +kernel

theorem test_quietWaitTimeout_fails_the_poll :
    (after .quietWaitTimeout (polling .waitQuiet beforeWrap)).meter.entries[0] = ⟨.active, 1, 2, some 99999996, false⟩ := by
  decide +kernel

theorem test_requestSent_opens_the_window :
    (after .requestSent (polling (.sending request21) beforeWrap)).meter.poll = some ⟨0, .window request21⟩ := by
  decide +kernel

/-- Sequence 3, the wrap: reply 4 after 99,999,996 gives 8 counts, 12,800 sixteenths. -/
theorem test_replyReceived_wraps :
    let t := after (.replyReceived (reply21 4)) (polling (.window request21) beforeWrap)
    t.bank.channels[2].held = 12800 ∧ t.meter.entries[0] = ⟨.active, 0, 1, some 4, false⟩ ∧ t.meter.poll = none := by
  decide +kernel

/-- Sequence 3, the exchange: 46 after 22,410 at 97 rounds is a discontinuity, with CATCH-UP. -/
theorem test_replyReceived_refuses_the_new_meter :
    let t := after (.replyReceived (reply21 46)) (polling (.window request21) ⟨.failed, 3, 97, some 22410, false⟩)
    t.bank.channels[2].held = 0 ∧ t.meter.discontinuities = 1
      ∧ (t.openEntry.map fun e => (e.flags.catchUp, e.flags.discontinuity)) = some (true, true) := by decide +kernel

/-- Sequence 3, the third miss: FAILED, METER set, rounds-since-good 4. -/
theorem test_replyWindowClose_third_miss :
    let t := after (.replyWindowClose ⟨0, none⟩) (polling (.window request21) ⟨.active, 2, 3, some 1040, false⟩)
    t.meter.entries[0] = ⟨.failed, 3, 4, some 1040, false⟩ ∧ t.meterCondition = true
      ∧ (t.openEntry.map fun e => e.flags.meterFault) = some true := by decide +kernel

/-- R50: a byte that started 7 bit times before the window closes leaves 7 of quiet. -/
theorem test_replyWindowClose_keeps_the_quiet :
    (after (.replyWindowClose ⟨1, some 7⟩) (polling (.window request21) beforeWrap)).meter.quietTime = 7 := by decide +kernel

theorem test_strayMeterByte_ends_the_quiet :
    (after (.strayMeterByte (some 7)) { line5 [] 0 with meter := { MeterPort.atReset with quietTime := 25 } }).meter.quietTime
      = 10 := by decide +kernel

/-! ### The plant link: sending -/

/-- Line 5 with its MARK(4,942) queued and owed to both channels, which count from their quiet time of 8. -/
def owing : State := (line5 [] 0).handOver (markRecord 4942)

/-- The wait of station 5's MARK is 26 bit times; the channel counts from 0 as it was quiet and owed nothing. -/
theorem test_frameBegin_waits_26_bits :
    ((after (.frameBegin .a 25) owing).link.a.inFlight.isNone) = true
      ∧ ((after (.frameBegin .a 26) owing).link.a.inFlight.map fun f => f.frame.period) = some 4942 := by decide +kernel

theorem test_defer_counts_again : (after (.defer .a) (after (.frameBegin .a 20) owing)).link.a.counted = some 0 := by
  decide +kernel

/-- Line 5 driving its MARK on channel A. -/
def driving : State := after (.frameBegin .a 26) owing

/-- R129: a MARK lasts 91 bit times, 728 µs at 125 kbit/s. After the leader's last cell, a 0, and the start pattern comes the
first header byte, 10 hex: the cells of 0, 0, 0 and 1. -/
theorem test_mark_drives_its_frame :
    let l : Level := .low
    let h : Level := .high
    ((driving.link.a.drives .low).map List.length) = some 182 ∧ driving.link.b.drives .low = none
      ∧ (driving.link.a.inFlight.map fun f => f.frame.bitTimes * BitRate.r125.cellTime) = some 728
      ∧ ((driving.link.a.drives .low).map fun w => (w.drop 12).take 18)
        = some [l, h, l, l, h, h, h, l, l, l, h, h, l, l, h, h, l, h] := by decide +kernel

theorem test_frameGoneOutWhole_leaves_channel_B_owed :
    (after (.frameGoneOutWhole .a) driving).link.queue.map (fun q => (q.owedA, q.owedB)) = [(false, true)] := by decide +kernel

/-- Line 5 driving on channel A with seven echo faults behind it. -/
def worn : State := { driving with link := { driving.link with a := { driving.link.a with echoFaults := 7 } } }

theorem test_echoMismatch_eighth_fault_fails_the_channel :
    (after (.echoMismatch .a) worn).link.a.state = .failed ∧ (after (.echoMismatch .a) worn).link.a.echoFaults = 8
      ∧ (after (.echoMismatch .a) worn).channelCondition = true := by decide +kernel

theorem test_echoMismatch_keeps_the_record :
    (after (.echoMismatch .a) driving).link.queue.map (fun q => (q.owedA, q.owedB)) = [(true, true)] := by decide +kernel

theorem test_inhibitActive_releases_channel_B :
    (after (.inhibitActive .b) driving).link.b.state = .inhibited
      ∧ (after (.inhibitActive .b) driving).link.queue.map (fun q => (q.owedA, q.owedB)) = [(true, false)] := by decide +kernel

theorem test_inhibitReleased_activates :
    (after (.inhibitReleased .b) (after (.inhibitActive .b) driving)).link.b.state = .active := by decide +kernel

theorem test_inhibitedFrameEnd_ends_the_frame :
    (after (.inhibitedFrameEnd .a) (after (.inhibitActive .a) driving)).link.a.inFlight = none
      ∧ (after (.inhibitedFrameEnd .a) (after (.inhibitActive .a) driving)).link.queue.map
          (fun q => (q.owedA, q.owedB)) = [(false, true)] := by decide +kernel

/-! ### The plant link: receiving -/

theorem test_receiveError_counts :
    (after (.receiveError .b ⟨[1, 2], 0, false⟩) (line5 [] 0)).link.b.errors = 1 := by decide +kernel

theorem test_bitRateFixed_in_an_unconfigured_station :
    (after (.bitRateFixed .a .r62) { unconfigured with link := Link.atReset }).link.rate = some .r62
      ∧ (after (.bitRateFixed .a .r62) (line5 [] 0)).link.rate = some .r125 := by decide +kernel

theorem test_receiverStart_starts :
    (after (.receiverStart .a) { line5 [] 0 with link := Link.atReset }).link.a.receiving = true := by decide +kernel

/-- R132: a channel that counts from 3 bit times of quiet has counted 8 when its receiver starts. -/
theorem test_receiverStart_counts_the_quiet :
    let c : LinkChannel := { LinkChannel.atReset with quietTime := 3, counted := some 3 }
    (after (.receiverStart .a) { line5 [] 0 with link := { Link.atReset with a := c } }).link.a.counted = some 8 := by
  decide +kernel

theorem test_mark_opens_the_next_period :
    let t := after (.mark .a (markFrame 4942 2)) (line5 [] 0)
    t.openNumber = some 4942 ∧ t.anySettling = true ∧ t.link.queue.map (fun q => q.record.kind) = [.tally] := by
  decide +kernel

/-- A mark 3 past the open period passes 2 periods over and sets GAP (R15). -/
theorem test_mark_jumps :
    let t := after (.mark .a (markFrame 4944 2)) (line5 [] 0)
    t.openNumber = some 4944 ∧ t.time.skipped = 2 ∧ t.time.gap = true ∧ t.book.line.skipped = 2 := by decide +kernel

theorem test_duplicate_mark_is_dropped :
    let t := after (.mark .a (markFrame 4939 2)) (line5 [] 0)
    t.time.stale = 1 ∧ (after (.mark .b (markFrame 4939 2)) t).time.stale = 1 := by decide +kernel

/-- R68's book: a furnace with 40,000 open that still holds 0 and 20,000 from before two jumps. -/
def jumpedFurnace : State :=
  station 2 (config .furnace [5, 6])
    [entry (some 0) .settling (some 7) (.apportioning (allotPart [])),
      entry (some 20000) .settling (some 5) (.apportioning (allotPart [])), entry (some 40000) .opened none openAllot]
    [⟨5, none⟩, ⟨6, some 1404000⟩] []

/-- R18: a tally for a period newer than the open one makes the jump and is late, though an old entry still has its number. -/
theorem test_tally_for_a_newer_period_is_late :
    let t := after (.tally .a (tallyFrame 0 6 1398600 0 0)) jumpedFurnace
    t.book.late = 1 ∧ t.link.service = true ∧ t.openNumber = some 1 ∧ t.contributors = jumpedFurnace.contributors
      ∧ t.held 0 = jumpedFurnace.held 0 := by decide +kernel

/-- Sequence 1: line 6's tally completes the furnace's entry; residue 1 Wh, SEC 12,500. -/
theorem test_tally_completes_the_furnace :
    let t := after (.tally .a (tallyFrame 4940 6 1404000 1350000 810)) (furnace2 [⟨5, .received, 3780000⟩] 0)
    ((t.held 4940).map fun e => e.state) = some .struck
      ∧ ((t.held 4940).map fun e => e.part) = some (.apportioning
          ⟨6480007, .mass, [⟨5, .received, 3780000⟩, ⟨6, .received, 1404000⟩], 5184000, 0, some 1, some 12500⟩)
      ∧ t.book.allot.allotted = 6480006 := by decide +kernel

/-- The furnace after it has struck with line 6 ESTIMATED. -/
def struckFurnace : State := after (.waitTimerExpiry 4940) (furnace2 [⟨5, .received, 3780000⟩] 30)

theorem test_tally_revises_a_struck_entry :
    let t := after (.tally .a (tallyFrame 4940 6 1398600 0 0)) struckFurnace
    ((t.held 4940).map fun e => (e.revisions, e.flags.revised, e.flags.estimated)) = some (1, true, false)
      ∧ t.link.service = true ∧ t.book.allot.struck = 1 ∧ t.book.allot.basis = 5178600 := by decide +kernel

/-- Sequence 1: the pool's allotment completes line 5's entry; E_line 5,355,805 Wh, SECs 15,073 and 14,169. -/
theorem test_allotment_completes_the_line :
    let t := after (.allotment .a (allotFrame 4940 9 0 95000 1710 [(5, 900), (6, 810)])) (line5 [received 2 4725005, absent 9] 0)
    ((t.held 4940).bind fun e => match e.part with
      | .line p => p.result
      | _ => none) = some ⟨5355805, some 15073, some 14169⟩ ∧ t.book.line.eLine = 5355805 ∧ t.book.line.struck = 1 := by
  decide +kernel

/-- Sequence 1: line 5's share of the furnace's allotment is 4,725,005 Wh, of 6,480,007 by 3,780,000 in 5,184,000. -/
theorem test_allotment_share :
    ((takenShare (some 5) (allotFrame 4940 2 0 6480007 5184000 [(5, 3780000), (6, 1404000)])).map TakenShare.share)
      = some 4725005 := by decide +kernel

theorem test_answerHeard_is_remembered :
    (after (.answerHeard .a ⟨6, 0, 9, 30, 0, 0, 0, [1, 1]⟩) (line5 [] 0)).link.recent = [⟨6, 9, 30, 0, 0, 0⟩] := by
  decide +kernel

/-! ### Requests -/

theorem test_queryResult_of_a_settling_entry_is_PENDING :
    (after (.queryResult .a (queryFrame 5 1 0 4940)) (line5 [] 0)).link.queue.map (fun q => q.record.payload)
      = [[3, 1, 2]] := by decide +kernel

theorem test_queryLatest_without_a_struck_entry_is_NOT_HELD :
    (after (.queryLatest .a (queryFrame 5 2 0 0)) (line5 [] 0)).link.queue.map (fun q => q.record.payload) = [[2, 2]] := by
  decide +kernel

theorem test_queryCampaign_answers_its_bytes :
    (after (.queryCampaign .a (queryFrame 5 3 0 0)) (line5 [] 0)).link.queue.map (fun q => q.record.payload.length)
      = [2 + 98] := by decide +kernel

theorem test_queryCondition_clears_SERVICE :
    (after (.queryCondition .a (queryFrame 5 4 0 0)) (line5 [] 0).setService).link.service = false := by decide +kernel

theorem test_queryChannels_answers_four_channels :
    (after (.queryChannels .a (queryFrame 5 5 1 0)) (line5 [] 0)).link.queue.map (fun q => q.record.payload)
      = [[1, 5] ++ List.replicate 92 0] := by decide +kernel

theorem test_unknownRequest_is_counted :
    (after (.unknownRequest .a (queryFrame 5 9 0 0)) (line5 [] 0)).requests.unknown = 1
      ∧ (after (.unknownRequest .a (queryFrame 5 1 3 0)) (line5 [] 0)).link.queue.map (fun q => q.record.payload)
        = [[5, 1]] := by decide +kernel

theorem test_orderZero_sets_zero_pending :
    (after (.orderZero .a (orderFrame 5 1 4711 0 0)) (line5 [] 0)).book.zeroPending = true
      ∧ (after (.orderZero .a (orderFrame 5 1 4712 0 0)) (line5 [] 0)).requests.refused = 1 := by decide +kernel

theorem test_orderJob_replaces_the_job :
    (after (.orderJob .a (orderFrame 31 2 4711 180 3)) (line5 [] 0)).bank.job = ⟨180, 3⟩
      ∧ (after (.orderJob .a (orderFrame 31 2 4711 180 3)) (line5 [] 0)).link.queue = []
      ∧ (after (.orderJob .a (orderFrame 5 2 4711 180 5)) (line5 [] 0)).link.queue.map (fun q => q.record.payload)
        = [[9, 2]] := by decide +kernel

/-! ### Step -/

theorem test_step_takes_the_front_command :
    (match step { line5 [] 0 with pending := [.cutPulse 2, .hardwareReset] } with
      | .next t => (t.bank.pull, t.pending)
      | _ => (0, [])) = (840, [.hardwareReset]) := by decide +kernel

/-! ### Witnesses: states and operands that meet the hypotheses of each statement, with the boundary values of its clauses -/

/-- The test of `State.delivers`, as a Bool. -/
def delivered (s : State) (row : FrameRow) (ch : Chan) (f : Frame) : Bool :=
  s.canReceive ch && decide (f.payload.length ≤ Config.maxPayload) && f.formatOk && f.row == row
    && decide (f.identity ∉ s.link.recent) && s.accepts f

theorem delivers_iff (s : State) (row : FrameRow) (ch : Chan) (f : Frame) :
    s.delivers row ch f ↔ delivered s row ch f = true := by
  simp only [State.delivers, State.isHeard, delivered, Bool.and_eq_true, decide_eq_true_eq, beq_iff_eq]
  tauto

theorem witness_ResetReleaseAndRetryBeginAReadAttempt :
    State.reset.loader.phase = .held ∧ (reading 1).loader.phase ≠ .held
      ∧ (after (.imageReadAttempt [] 0) (reading 3)).loader.phase = .retryWait ∧ (reading 1).loader.phase ≠ .retryWait
      ∧ (reading 1).loader.sent = [3, 0, 0] := by decide +kernel

theorem witness_FailedLoadsEndUnconfigured :
    (reading 3).loader.phase = .reading ∧ imageReads [] = false ∧ (reading 3).loader.attempt < 4
      ∧ (reading 4).loader.phase = .reading ∧ 4 ≤ (reading 4).loader.attempt ∧ (reading 4).settings = none
      ∧ imageReads rolelessImage = true ∧ imageRole rolelessImage = none := by
  refine ⟨rfl, by decide +kernel, by decide, rfl, by decide, rfl, rolelessImage_reads, by decide +kernel⟩

theorem witness_SuccessfulLoadOpensTheLeadIn :
    (reading 1).loader.phase = .reading ∧ imageReads lineImage = true ∧ imageRole lineImage = some .line
      ∧ (reading 1).book.entries = [] ∧ (reading 1).book.zeroPending = false
      ∧ (settingsOf lineImage .line (some 5)).external = false
      ∧ (imageReads secondImage = true ∧ imageRole secondImage = some .line
        ∧ (settingsOf secondImage .line (some 5)).external = true
        ∧ (settingsOf secondImage .line (some 5)).lines[0] = ⟨.second, .risingHigh, .ms1⟩
        ∧ (after (.debouncedEdge 0 .rising 41) (reading 1)).inputs[0].lastRise = some 41
        ∧ (after (.debouncedEdge 0 .rising 41) (reading 1)).loader.phase = .reading ∧ 3041 ≤ 41 + 3000 ∧ 41 + 3000 < 3042) :=
  ⟨rfl, lineImage_reads, by decide +kernel, rfl, rfl, by decide +kernel, secondImage_reads, by decide +kernel⟩

/-- An image that says nothing but a period length code and the two waits. -/
def waitsImage (code t1 t2 : Byte) : List Byte := List.replicate 8 0 ++ [code, 0, t1, t2]

theorem witness_SettlingWaitsAreClampedIntoRange :
    (max 2 (min 120 (imageByte (waitsImage 0 57 80) 10)) + 2 ≤ min 240 ((takePeriodLength (waitsImage 0 57 80)).1 - 1)
        ∧ min 240 ((takePeriodLength (waitsImage 0 57 80)).1 - 1) < imageByte (waitsImage 0 57 80) 11)
      ∧ min 240 ((takePeriodLength (waitsImage 0 58 80)).1 - 1) < max 2 (min 120 (imageByte (waitsImage 0 58 80) 10)) + 2
      ∧ (settingsOf (waitsImage 0 58 80) .line none).t1 ≠ imageByte (waitsImage 0 58 80) 10
      ∧ (settingsOf (waitsImage 5 120 240) .pool none).t2 = imageByte (waitsImage 5 120 240) 11 ∧ Role.pool ≠ .line := by
  decide +kernel

/-- The image of a LINE in which every kind of clamp is called for. -/
def clampImage : List Byte :=
  [0xA6#8, 0x31, 0, 154, 2, 0, 1, 3, 6, 4, 30, 60, 2] ++ List.replicate 8 0 ++ [2, 1, 1, 1, 0, 128]
    ++ [6, 6, 1, 1, 7, 5, 2, 0x31] ++ [3] ++ [5, 3, 7, 0, 0, 0, 0, 9] ++ [5, 0x13, 0, 0, 1, 0, 1, 0] ++ [200, 0, 0, 0, 0, 0, 0, 0]
    ++ List.replicate 40 0 ++ [3, 0, 0, 0] ++ [3, 6, 0, 1] ++ [9, 6, 0, 0] ++ [17, 1, 0, 1] ++ List.replicate 16 0
    ++ [0] ++ [2, 0, 5, 2, 31, 9, 10, 11, 12, 40, 0, 0, 0, 0, 0, 0] ++ [0, 0, 5, 0, 0]

theorem witness_ImageFieldsAreTakenAndClamped :
    let c := settingsOf clampImage .line (some 5)
    clampImage.length = 154 ∧ c.table = [2, 9, 10, 11] ∧ (takeTable clampImage .pool (some 5)).1 = [2, 9, 10, 11, 12]
      ∧ c.lines[0].role = .second ∧ c.lines[1].role = .unused ∧ c.lines[2].role = .energy ∧ c.lines[3].role = .unused
      ∧ c.lines[6].role = .cut ∧ (settingsOf clampImage .pool none).lines[6].role = .unused
      ∧ c.channels[0] = some ⟨.line 2, .gas, 1⟩ ∧ c.channels[1] = none ∧ c.channels[2] = some ⟨.meter 0, .other, 0⟩
      ∧ c.meters[0] = some ⟨5, 3, 2 ^ 32, 1, 1, some 2⟩ ∧ c.meters[1] = none ∧ c.meters[2] = none
      ∧ c.job = ⟨1, 4⟩ ∧ c.periodLength = 900 ∧ c.interval = 10 ∧ c.source = .straps ∧ c.external = false
      ∧ imageClamped clampImage .line (some 5) = true := by decide +kernel

/-- A LINE's image whose fields are all in range: lines of every role, channels from IN1 and from meter entry 1, two meters. -/
def rangeImage : List Byte :=
  [0xA6#8, 0x31, 0, 154, 0, 0, 1, 1, 3, 2, 30, 60] ++ List.replicate 15 0 ++ [1, 6, 2, 3, 4, 5, 0, 16] ++ [1]
    ++ [5, 3, 1, 0, 7, 0, 9, 2] ++ [5, 4, 6, 0, 7, 0, 9, 0] ++ List.replicate 48 0 ++ [1, 1, 0, 9] ++ [9, 5, 0, 0]
    ++ List.replicate 24 0 ++ [0] ++ [2, 9] ++ List.replicate 14 0 ++ [1, 164, 2, 0, 0]

theorem witness_ImageFieldsInRangeLeaveClampedClear :
    let c := settingsOf rangeImage .line (some 5)
    rangeImage.length = 154 ∧ c.t1 = imageByte rangeImage 10 ∧ c.t2 = imageByte rangeImage 11
      ∧ c.table = ((List.range 16).map fun i => imageByte rangeImage (133 + i)).filter (fun n => n != 0)
      ∧ c.lines.toList.map LineSetup.role = [.energy, .second, .cut, .reject, .running, .fault, .unused, .unused]
      ∧ c.channels.toList = [some ⟨.line 0, .gas, 9⟩, some ⟨.meter 0, .other, 0⟩] ++ List.replicate 6 none
      ∧ c.meters.toList = [some ⟨5, 3, 10 ^ 5, 7, 9, some 1⟩, some ⟨5, 4, 2 ^ 32, 7, 9, none⟩] ++ List.replicate 6 none
      ∧ imageClamped rangeImage .line (some 5) = false := by decide +kernel

/-- Line 5 with its base-source state replaced. -/
def sourced (source : BaseSource) : State := { line5 [] 0 with time := { (line5 [] 0).time with source := source } }

theorem witness_SecondsAndTheirLossDriveTheTimeBase :
    (line5 [] 0).pulsePossible 7 .second = false
      ∧ ((sourced .internal).pulsePossible 6 .second = true ∧ (sourced .internal).time.source = .internal)
      ∧ ((sourced .fallback).pulsePossible 6 .second = true ∧ (sourced .fallback).time.source ≠ .internal
        ∧ (sourced .fallback).nothingDue)
      ∧ ((line5 [] 0).time.lossWatch = true ∧ (line5 [] 0).time.source = .external)
      ∧ ¬((sourced .fallback).time.lossWatch = true ∧ (sourced .fallback).time.source = .external) := by
  unfold State.nothingDue; decide +kernel

/-- An expiry that a FALLBACK tick made due comes before the return to EXTERNAL: its entry gets TIMEBASE (log entry 5). -/
theorem test_secondPulse_finds_the_expiry_overdue :
    let t := after (.secondPulse 6) { sourced .fallback with
      time := { (sourced .fallback).time with seconds := 900, timebase := true } }
    (t.openEntry.map fun e => (e.number, e.flags.timebase)) = some (some 4942, true)
      ∧ t.time.source = .external ∧ t.time.timebase = true ∧ t.time.seconds = 1 := by decide +kernel

theorem witness_ExpiryAndSoloWaitMakeTheirBoundary :
    lateLine.settings = some (config .line [2, 9]) ∧ lateLine.time.accounting = .accounting
      ∧ lateLine.openNumber = some 4941 ∧ (config .line [2, 9]).periodLength ≤ lateLine.time.seconds
      ∧ starting.settings = some (config .line [2, 9]) ∧ starting.time.accounting = .starting
      ∧ 2 * (config .line [2, 9]).periodLength ≤ ({ starting.time with seconds := 1800 } : TimeBase).seconds
      ∧ ({ starting.time with seconds := 1799 } : TimeBase).seconds < 2 * (config .line [2, 9]).periodLength
      ∧ (line5 [] 0).time.seconds < (config .line [2, 9]).periodLength := by decide +kernel

theorem line5_formed (shares : List ShareItem) (timer : Nat) : (line5 shares timer).book.formed := by
  refine ⟨by simp [line5, station, Config.bookSize], by simp [line5, station, line4940, entry], ?_, ?_, ?_, ?_⟩ <;>
    simp [line5, station, line4940, entry, Entry.revisionsAgree, openLine]

theorem witness_BaseTickCountsOneSecond :
    (State.reset.time.accounting = .loading ∧ (line5 [] 0).settings = some (config .line [2, 9])
        ∧ (line5 [] 0).time.accounting = .accounting ∧ starting.time.accounting = .starting)
      ∧ (line5 [] 0).nothingDue
      ∧ ((line5 [] 60).book.formed ∧ 1 ≤ (config .line [2, 9]).t2 ∧ 1 ≤ (config .line [2, 9]).periodLength
        ∧ (line5 [] 60).waitsOver = [line4940 [] 60] ∧ (line4940 [] 60).number = some 4940)
      ∧ (lateLine.waitsOver = [] ∧ lateLine.expiryDue = true)
      ∧ { starting with time := { starting.time with seconds := 1800 } }.soloDue = true
      ∧ { line5 [] 0 with time := { (line5 [] 0).time with sampleDue := true } }.time.sampleDue = true := by
  refine ⟨by decide +kernel, ?_, ⟨line5_formed _ _, ?_⟩, ?_⟩
  · unfold State.nothingDue; decide +kernel
  · decide +kernel
  · decide +kernel

/-- A furnace's book of 12 entries, the oldest SETTLING. -/
def fullFurnace : State :=
  station 2 (config .furnace [5, 6])
    ([entry (some 4930) .settling (some 7) openAllot]
      ++ (List.range 10).map (fun k => entry (some (4931 + BitVec.ofNat 16 k)) .struck none openAllot)
      ++ [entry (some 4941) .opened none openAllot]) [⟨5, none⟩, ⟨6, some 1404000⟩] []

/-- R67: the oldest of 12 entries is struck and leaves; its ALLOTMENT is queued. -/
theorem test_eviction_strikes_the_oldest :
    let t := fullFurnace.boundary none 4942 (.mark 5)
    t.book.entries.length = 12 ∧ t.held 4930 = none ∧ t.book.allot.struck = 1
      ∧ t.link.queue.map (fun q => (q.record.kind, q.record.period)) = [(.allotment, 4930)] := by decide +kernel

theorem witness_BoundaryClosesAndOpens :
    ((line5 [] 0).settings = some (config .line [2, 9]) ∧ (line5 [] 0).book.formed
        ∧ (line5 [] 0).openEntry = some (entry (some 4941) .opened none openLine)
        ∧ (entry (some 4941) .opened none openLine).number ≠ some 4942 ∧ (line5 [] 0).measuring = true)
      ∧ (starting.settings = some (config .line [2, 9]) ∧ starting.book.formed
        ∧ starting.openEntry = some (entry none .opened none openLine) ∧ starting.measuring = true)
      ∧ (fullFurnace.settings = some (config .furnace [5, 6]) ∧ (config .furnace [5, 6]).role ≠ .line ∧ fullFurnace.book.formed
        ∧ fullFurnace.openEntry = some (entry (some 4941) .opened none openAllot) ∧ fullFurnace.measuring = true) := by
  refine ⟨⟨rfl, line5_formed _ _, by decide +kernel, by decide +kernel, by decide +kernel⟩,
    ⟨rfl, ?_, by decide +kernel, by decide +kernel⟩, rfl, by decide, ?_, by decide +kernel, by decide +kernel⟩
  · refine ⟨by decide, by decide, ?_, ?_, ?_, ?_⟩ <;> simp [starting, station, entry, Entry.revisionsAgree, openLine]
  · refine ⟨by decide +kernel, by decide +kernel, by decide +kernel, by decide +kernel, by decide +kernel, ?_⟩
    intro e he
    simp only [fullFurnace, station, List.mem_append, List.mem_singleton, List.mem_map] at he
    rcases he with (rfl | ⟨k, -, rfl⟩) | rfl <;> simp [entry, Entry.revisionsAgree, openAllot]

theorem witness_EnergyPulseIsCounted :
    fullLine.settings = some (config .line [2, 9]) ∧ fullLine.pulsePossible 0 .energy = true
      ∧ (config .line [2, 9]).channelOf (.line 0) = some 0
      ∧ (config .line [2, 9]).channels[0] = some ⟨.line 0, .gas, 1680⟩
      ∧ 2 ^ 40 - 1 < fullLine.bank.channels[0].held + 1680 ∧ ¬2 ^ 40 - 1 < (line5 [] 0).bank.channels[0].held + 1680 := by
  decide +kernel

/-- Line 5 with its masses at their limit. -/
def heavyLine : State :=
  { line5 [] 0 with bank := { (line5 [] 0).bank with pull := 4294967295, reject := 4294967295, cuts := 4294967295 } }

theorem witness_CutAndRejectPulsesWeighGlass :
    heavyLine.pulsePossible 2 .cut = true ∧ 4294967295 < heavyLine.bank.cuts + 1 ∧ heavyLine.pulsePossible 3 .reject = true
      ∧ 4294967295 < heavyLine.bank.reject + heavyLine.bank.job.gob
      ∧ ¬4294967295 < (line5 [] 0).bank.pull + (line5 [] 0).bank.job.gob * (line5 [] 0).bank.job.perCut := by decide +kernel

theorem witness_LevelChangesAndEdgesMoveTheLine :
    ((line5 [] 0).edgePossible 4 .rising = true ∧ (line5 [] 0).lineHasRole 4 .running = true)
      ∧ ((line5 [] 0).edgePossible 5 .rising = true ∧ (line5 [] 0).lineHasRole 5 .fault = true
        ∧ Edge.rising.endLevel = (line5 [] 0).activeLevel 5)
      ∧ ((reading 1).loader.phase ≠ .held ∧ (reading 1).edgePossible 6 .rising = true
        ∧ (reading 1).deliversNothing 6 .rising = true)
      ∧ ((line5 [] 0).loader.phase ≠ .held ∧ (line5 [] 0).edgePossible 7 .rising = true
        ∧ (line5 [] 0).deliversNothing 7 .rising = true) := by decide +kernel

theorem line5_alertsFollow : (line5 [] 0).alertsFollow := by
  refine ⟨fun _ => ?_, fun _ => ?_, fun h => absurd rfl h⟩ <;> decide +kernel

/-- Line 5 with its FAULT line about to become active: a rise for the PULSE line ALERT-2. -/
def failing : State := { line5 [] 0 with pending := [.faultLevelChange 5 .rising] }

theorem witness_AlertLinesFollowTheirGroups :
    (line5 [] 0).alertsFollow ∧ failing.alertsFollow ∧ (∃ t, step failing = .next t
        ∧ t.alerts.one.mode = some .level ∧ t.alerts.two.mode = some .pulse ∧ t.groupOr t.alerts.two.group = true)
      ∧ failing.alerts.two.lastOr = false ∧ failing.loader.phase = .ended
      ∧ failing.pending.head? ≠ some .hardwareReset ∧ failing.pending.head? ≠ some (.alertPulseEnd .two)
      ∧ (after (.faultLevelChange 5 .rising) (line5 [] 0)).alerts.two.pulse = true
      ∧ unconfigured.alerts.two.mode = some .level
      ∧ (unconfigured.time.accounting = .unconfigured ∧ starting.time.accounting = .starting
        ∧ (line5 [] 0).time.accounting = .accounting ∧ (line5 [] 0).book.entries.map Entry.state = [.settling, .opened]
        ∧ ∀ e ∈ { line5 [] 0 with book := Book.atReset }.book.entries, e.state ≠ .settling) := by
  refine ⟨line5_alertsFollow, line5_alertsFollow, ⟨_, rfl, ?_⟩, ?_⟩ <;> decide +kernel

/-- Line 5 with a sample tick due and the given meter table and poll. -/
def sampled (meters : Vector (Option MeterSetup) 8) (poll : Option Poll) : State :=
  { line5 [] 0 with settings := some { config .line [2, 9] with meters := meters },
                    time := { (line5 [] 0).time with sampleDue := true }, meter := { MeterPort.atReset with poll := poll } }

theorem witness_SampleTickStartsARoundOrOverruns :
    ((sampled (Vector.replicate 8 none) none).time.sampleDue = true
        ∧ (sampled (Vector.replicate 8 none) none).meter.poll = none
        ∧ ∀ m : Fin 8, (Vector.replicate 8 (none : Option MeterSetup))[m] = none)
      ∧ ((sampled #v[none, none, none, none, none, none, none, some meter] none).time.sampleDue = true
        ∧ (#v[none, none, none, none, none, none, none, some meter] : Vector (Option MeterSetup) 8)[(7 : Fin 8)].isSome = true
        ∧ ∀ k : Fin 8, k < 7 →
            (#v[none, none, none, none, none, none, none, some meter] : Vector (Option MeterSetup) 8)[k] = none)
      ∧ (sampled (config .line []).meters (some ⟨0, .waitQuiet⟩)).time.sampleDue = true
      ∧ (sampled (config .line []).meters (some ⟨0, .waitQuiet⟩)).meter.poll.isSome = true := by decide +kernel

theorem witness_RequestGoesOutAndOpensItsWindow :
    ((polling .waitQuiet beforeWrap).loader.phase ≠ .held
        ∧ (polling .waitQuiet beforeWrap).settings = some (config .line [2, 9])
        ∧ (config .line [2, 9]).meters[(0 : Fin 8)] = some meter
        ∧ (polling .waitQuiet beforeWrap).meter.poll = some ⟨0, .waitQuiet⟩
        ∧ ¬30 ≤ (polling .waitQuiet beforeWrap).meter.quietTime + 29
        ∧ 30 ≤ (polling .waitQuiet beforeWrap).meter.quietTime + 30)
      ∧ (polling (.sending request21) beforeWrap).meter.poll = some ⟨0, .sending request21⟩
      ∧ ((line5 [] 0).loader.phase ≠ .held ∧ (line5 [] 0).meter.poll = none ∧ (line5 [] 0).meter.transmitting = false
        ∧ (line5 [] 0).meter.inWindow = false) := by decide +kernel

theorem witness_ValidReplyMeetsEveryTest :
    validReading meter request21 (reply21 4) = some (4, false)
      ∧ validReading { meter with modulus := 4 } request21 (reply21 4) = none
      ∧ validReading { meter with modulus := 5 } request21 (reply21 4) = some (4, false) := by decide +kernel

/-- A state of line 5 whose meter table has the entries 1, 3 and 8 configured. -/
def spaced (s : State) : State :=
  { s with settings := some { config .line [2, 9] with
      meters := #v[some meter, none, some meter, none, none, none, none, some meter] } }

/-- The next poll skips the empty entry 2 (R49). -/
theorem test_next_poll_is_the_next_configured_entry :
    (after (.replyReceived (reply21 8)) (spaced (polling (.window request21) beforeWrap))).meter.poll = some ⟨2, .waitQuiet⟩
      ∧ (after .quietWaitTimeout (spaced (polling .waitQuiet beforeWrap))).meter.poll = some ⟨2, .waitQuiet⟩ := by
  decide +kernel

/-- Above entry 1 the lowest configured entry is entry 3; above entry 8 there is none. -/
theorem witness_next_poll : ∃ c, (spaced (polling .waitQuiet beforeWrap)).settings = some c
    ∧ c.meters[(2 : Fin 8)].isSome = true ∧ (∀ j : Fin 8, 0 < j → j < 2 → c.meters[j] = none)
    ∧ ∀ k : Fin 8, 7 < k → c.meters[k] = none :=
  ⟨_, rfl, by decide +kernel⟩

theorem witness_ValidReplyIsCreditedOrRefused :
    (polling (.window request21) beforeWrap).settings = some (config .line [2, 9])
      ∧ (config .line [2, 9]).meters[(0 : Fin 8)] = some meter
      ∧ (polling (.window request21) beforeWrap).meter.poll = some ⟨0, .window request21⟩
      ∧ validReading meter request21 (reply21 8) = some (8, false) ∧ validReading meter request21 (reply21 9) = some (9, false)
      ∧ (8 + meter.modulus - (beforeWrap.reference.getD 0)) % meter.modulus = meter.limit * beforeWrap.rounds
      ∧ meter.limit * beforeWrap.rounds < (9 + meter.modulus - (beforeWrap.reference.getD 0)) % meter.modulus := by
  decide +kernel

theorem witness_DeliveryCreditsItsChannelOnly :
    (config .line [2, 9]).channelOf (.meter 5) = none ∧ (config .line [2, 9]).channelOf (.meter 0) = some 2
      ∧ 2 ^ 40 - 1 < fullLine.bank.channels[0].held + 2 ∧ ¬2 ^ 40 - 1 < fullLine.bank.channels[0].held + 1 := by
  decide +kernel

theorem witness_FailedPollCountsAMiss :
    (polling .waitQuiet beforeWrap).settings = some (config .line [2, 9])
      ∧ (config .line [2, 9]).meters[(0 : Fin 8)] = some meter
      ∧ (polling .waitQuiet beforeWrap).meter.poll = some ⟨0, .waitQuiet⟩ ∧ (polling .waitQuiet beforeWrap).meter.quietTime < 30
      ∧ (polling (.window request21) ⟨.active, 2, 3, some 1040, false⟩).meter.poll = some ⟨0, .window request21⟩
      ∧ validReading meter request21 { reply21 4 with status := none } = none ∧ 7 < 8
      ∧ (polling (.window request21) ⟨.active, 2, 3, some 1040, false⟩).meter.entries[0].state ≠ .failed := by decide +kernel

theorem witness_PickAndWaitFollowTheDeferenceClasses :
    (1 ≤ 30 ∧ 30 ≤ 30 ∧ 1 ≤ 1 ∧ 1 ≤ 30 ∧ RecordKind.mark.deferenceClass < RecordKind.allotment.deferenceClass)
      ∧ owing.link.queueFormed ∧ (owing.link.pick .a).isSome = true ∧ (line5 [] 0).link.pick .a = none := by
  unfold Link.queueFormed; decide +kernel

/-- The queued MARK of `owing`. -/
def queuedMark : Queued := ⟨0, markRecord 4942, true, true⟩

theorem witness_FrameBeginsWhenItsWaitEnds :
    owing.loader.phase ≠ .held ∧ (owing.link.chan .a).inFlight = none ∧ owing.link.pick .a = some queuedMark
      ∧ owing.loader.own = some 5 ∧ owing.listenOnly = false ∧ (owing.link.chan .a).counted = some 0
      ∧ waitOf queuedMark.record.kind 5 = 26 ∧ 8 ≤ (owing.link.chan .a).quietTime + 0
      ∧ ¬(owing.link.a.state = .inhibited ∧ owing.link.b.state = .inhibited)
      ∧ ((line5 [] 0).loader.phase ≠ .held ∧ ((line5 [] 0).link.chan .a).inFlight = none ∧ (line5 [] 0).link.pick .a = none)
      ∧ driving.link.a.inFlight.isSome = true := by decide +kernel

theorem witness_WholeFrameIsOwedNoLonger :
    ((driving.link.chan .a).inFlight.map fun f => (f.seq, f.unchecked, f.superseded)) = some (0, false, false) := by
  decide +kernel

/-- Line 5 driving a probe on channel A, FAILED. -/
def probing : State :=
  { driving with link := { driving.link with a := { driving.link.a with state := .failed, echoFaults := 8 } } }

theorem witness_EchoMismatchCountsAFault :
    ((driving.link.chan .a).inFlight.map InFlight.unchecked) = some false ∧ (driving.link.chan .a).formed
      ∧ (worn.link.chan .a).formed ∧ (probing.link.chan .a).formed ∧ (worn.link.chan .a).state = .active
      ∧ (probing.link.chan .a).state = .failed := by
  refine ⟨by decide +kernel, ?_, ?_, ?_, by decide +kernel, by decide +kernel⟩
  · show 0 < 8; decide
  · show 7 < 8; decide
  · show 8 = 8; rfl

theorem witness_InhibitTakesTheChannelOutAndBack :
    (driving.loader.phase ≠ .held ∧ (driving.link.chan .a).state ≠ .inhibited)
      ∧ ((after (.inhibitActive .a) driving).link.chan .a).state = .inhibited
      ∧ (((after (.inhibitActive .a) driving).link.chan .a).inFlight.map fun f => (f.unchecked, f.superseded))
        = some (true, false) := by decide +kernel

/-- Line 5 with channel A INHIBITED while it drives the MARK, and channel B FAILED and not owed it. -/
def stranded : State :=
  let s := after (.inhibitActive .a) driving
  { s with link := { s.link with b := { s.link.b with state := .failed, echoFaults := 8 },
                                 queue := s.link.queue.map fun q => q.setOwed .b false } }

/-- Line 5 with its MARK of 4,942 queued and in flight on channel A. -/
def markInFlight : State := after (.frameBegin .a 300) ((line5 [] 0).handOver (markRecord 4942))

theorem witness_WithdrawalKeepsOnlyTheFlyingMark :
    let t := markInFlight.withdrawMark
    (markInFlight.link.a.inFlight.map InFlight.withdrawn) = some false
      ∧ (t.link.a.inFlight.map fun f => (f.withdrawn, f.superseded)) = some (true, false)
      ∧ t.link.queue.map (fun q => (q.owedA, q.owedB)) = [(true, false)]
      ∧ (after (.echoMismatch .a) t).link.queue = [] := by decide +kernel

/-- Line 5 with a queue full of ANSWERs. -/
def fullQueue : State :=
  (List.range 8).foldl (fun s n => s.handOver ⟨.answer, 0, 30, 0, byte n, [1, 3], false⟩) (line5 [] 0)

theorem witness_HandedOverRecordEntersOrIsCounted :
    ((∀ q ∈ (line5 [] 0).link.queue, q.record.kind ≠ .mark) ∧ (line5 [] 0).loader.own ≠ none
        ∧ { line5 [] 0 with loader := { (line5 [] 0).loader with own := none } }.loader.own = none)
      ∧ ((line5 [] 0).link.a.state = .active ∧ (line5 [] 0).link.queue.length < 8)
      ∧ (fullQueue.loader.own ≠ none ∧ fullQueue.link.a.state = .active ∧ 8 ≤ fullQueue.link.queue.length
        ∧ (∀ q ∈ fullQueue.link.queue, q.record.kind = .answer) ∧ fullQueue.link.queue.map Queued.seq = [0, 1, 2, 3, 4, 5, 6] ++ [7]
        ∧ fullQueue.link.a.inFlight = none ∧ fullQueue.link.b.inFlight = none)
      ∧ (driving.loader.own ≠ none ∧ driving.link.a.state = .active ∧ (markRecord 4943).kind = .mark
        ∧ ∃ q ∈ driving.link.queue, q.record.kind = .mark)
      ∧ (stranded.loader.own ≠ none ∧ stranded.link.queue.map Queued.isMark = [true]
        ∧ stranded.link.a.state = .inhibited ∧ stranded.link.b.state = .failed
        ∧ stranded.link.queue.map (fun q => q.owed .b) = [false]) := by decide +kernel

/-- R143: the new number of `stranded` is owed to no channel and counted unsent, the old one runs on; on an ACTIVE channel the
new number stays owed after the old frame. -/
theorem test_newMark_owed_to_no_channel_is_unsent :
    (stranded.handOver (markRecord 4943)).link.unsent = 1 ∧ (stranded.handOver (markRecord 4943)).link.queue = []
      ∧ ((stranded.handOver (markRecord 4943)).link.a.inFlight.map fun f => f.frame.period) = some 4942
      ∧ (after (.frameGoneOutWhole .a) (driving.handOver (markRecord 4943))).link.queue.map
          (fun q => (q.record.period, q.owedA)) = [(4943, true)] := by decide +kernel

theorem witness_ReceiversStartAfterLoading :
    ((loaded.settings.isSome = true) ∧ (loaded.link.chan .a).receiving = false)
      ∧ ({ unconfigured with link := Link.atReset }.time.accounting = .unconfigured
        ∧ { unconfigured with link := Link.atReset }.link.rate = none)
      ∧ (line5 [] 0).link.rate ≠ none := by decide +kernel

theorem witness_FramesThatReachNoBlock :
    driving.canReceive .a = false
      ∧ ((line5 [] 0).canReceive .a = true ∧ 120 < (List.replicate 121 (0 : Byte)).length)
      ∧ { markFrame 7 2 with payload := List.replicate 120 0 }.formatOk = false
      ∧ (after (.mark .a (markFrame 4939 2)) (line5 [] 0)).canReceive .b = true
      ∧ (markFrame 4939 2).identity ∈ (after (.mark .a (markFrame 4939 2)) (line5 [] 0)).link.recent
      ∧ (line5 [] 0).isHeard .tally .a (tallyFrame 4940 6 0 0 0) ∧ (line5 [] 0).accepts (tallyFrame 4940 6 0 0 0) = false
      ∧ (⟨[1, 2], 0, false⟩ : RawFrame).isError = true
      ∧ (line5 [] 0).isHeard .answer .a ⟨6, 0, 9, 30, 0, 0, 0, [1, 1]⟩
      ∧ (queryFrame 5 5 1 0).formatOk = true ∧ (queryFrame 5 5 1 0).row = .queryChannels
      ∧ (queryFrame 5 5 2 0).formatOk = true ∧ (queryFrame 5 5 2 0).row = .unknown := by
  unfold State.isHeard; decide +kernel

theorem witness_ComposedFrameIsNoReceiveError :
    { markFrame 7 2 with payload := List.replicate 120 0 }.payload.length ≤ 120 ∧ Level.high ≠ Level.low
      ∧ 0 < 8 * (markFrame 7 2).bytes.length ∧ 79 < 8 * (markFrame 7 2).bytes.length
      ∧ ¬80 < 8 * (markFrame 7 2).bytes.length := by decide +kernel

theorem witness_EventsThatCannotOccurChangeNothing :
    (line5 [] 0).pulsePossible 1 .cut = false ∧ (line5 [] 0).pulsePossible 3 .energy = false
      ∧ (line5 [] 0).pulsePossible 2 .reject = false ∧ (line5 [] 0).edgePossible 5 .falling = false
      ∧ (line5 [] 0).lineHasRole 5 .running = false ∧ (line5 [] 0).lineHasRole 4 .fault = false
      ∧ (line5 [] 0).meter.poll = none ∧ (line5 [] 0).time.sampleDue = false ∧ ((line5 [] 0).link.chan .a).inFlight = none
      ∧ ((after (.inhibitActive .a) driving).link.chan .a).state = .inhibited
      ∧ ((line5 [] 0).link.chan .a).state ≠ .inhibited ∧ (line5 [] 0).held 1 = none
      ∧ (line5 [] 59).held 4940 = some (line4940 [] 59) ∧ (line4940 [] 59).waitOver (config .line [2, 9]).wait = false
      ∧ (line5 [] 0).loader.phase ≠ .reading ∧ (line5 [] 0).loader.phase ≠ .held
      ∧ (polling (.sending request21) beforeWrap).meter.poll = some ⟨0, .sending request21⟩
      ∧ (polling .waitQuiet beforeWrap).meter.poll = some ⟨0, .waitQuiet⟩
      ∧ (polling (.window request21) beforeWrap).meter.poll = some ⟨0, .window request21⟩
      ∧ (((after (.inhibitActive .a) driving).link.chan .a).inFlight.map InFlight.unchecked) = some true
      ∧ ((driving.link.chan .a).inFlight.map InFlight.unchecked) = some false
      ∧ ((line5 [] 0).link.chan .a).receiving = true ∧ (markFrame 7 2).received.isError = false := by decide +kernel

theorem witness_HeardMarkIsComparedWithTheOpenPeriod :
    starting.delivers .mark .a (markFrame 7 2) ∧ starting.time.accounting = .starting
      ∧ unconfigured.delivers .mark .a (markFrame 7 2) ∧ unconfigured.time.accounting = .unconfigured
      ∧ (line5 [] 0).delivers .mark .a (markFrame 4941 2) ∧ (line5 [] 0).delivers .mark .a (markFrame 4942 2)
      ∧ (line5 [] 0).delivers .mark .a (markFrame 4943 2) ∧ (line5 [] 0).delivers .mark .a (markFrame (4941 + 32767) 2)
      ∧ (line5 [] 0).delivers .mark .a (markFrame (4941 + 32768) 2)
      ∧ (line5 [] 0).time.accounting = .accounting ∧ (line5 [] 0).openNumber = some 4941
      ∧ ((4943 : Period) - 4941).toNat = 2 ∧ ((4941 + 32767 : Period) - 4941).toNat = 32767
      ∧ ((4941 + 32768 : Period) - 4941).toNat = 32768 := by
  simp only [delivers_iff]; decide +kernel

theorem witness_EvidenceMakesTheBoundary :
    starting.time.accounting = .starting ∧ (line5 [] 0).time.accounting = .accounting
      ∧ (line5 [] 0).openNumber = some 4941 ∧ ((4942 : Period) - 4941).toNat = 1
      ∧ ((4941 + 32766 : Period) - 4941).toNat = 32766 ∧ ((4941 + 32767 : Period) - 4941).toNat = 32767 := by decide +kernel

/-- The furnace whose struck entry 4,940 has revision r and an ESTIMATED item 6. -/
def revisedFurnace (r : Nat) : State :=
  station 2 (config .furnace [5, 6])
    [entry (some 4940) .struck none (.apportioning
        ⟨6480007, .mass, [⟨5, .received, 3780000⟩, ⟨6, .estimated, 1404000⟩], 5184000, r, some 1, some 12500⟩),
      entry (some 4941) .opened none openAllot] [⟨5, none⟩, ⟨6, some 1404000⟩] []

theorem witness_TallyIsTakenAgainstItsEntry :
    (∀ s ∈ [furnace2 [⟨5, .received, 3780000⟩] 0, furnace2 [] 0, revisedFurnace 2, revisedFurnace 3],
        s.delivers .tally .a (tallyFrame 4940 6 1404000 0 0) ∧ s.settings = some (config .furnace [5, 6])
          ∧ (s.heard .a (tallyFrame 4940 6 1404000 0 0)).evidence 4940 6 = s.heard .a (tallyFrame 4940 6 1404000 0 0))
      ∧ (furnace2 [] 0).held 4930 = none ∧ (furnace2 [] 0).delivers .tally .a (tallyFrame 4930 6 0 0 0)
      ∧ (jumpedFurnace.delivers .tally .a (tallyFrame 0 6 0 0 0) ∧ jumpedFurnace.openNumber = some 40000
        ∧ ((0 : Period) - 40000).toNat = 25536 ∧ jumpedFurnace.isAhead (40000 + 32767) = true
        ∧ jumpedFurnace.isAhead (40000 + 32768) = false ∧ (furnace2 [] 0).isAhead 4940 = false
        ∧ (jumpedFurnace.held 0).isSome = true)
      ∧ (furnace2 [⟨5, .received, 3780000⟩] 0).held 4940 = some (furnace4940 [⟨5, .received, 3780000⟩] 0)
      ∧ (((revisedFurnace 3).held 4940).map Entry.state) = some .struck
      ∧ allReceived [⟨5, none⟩, ⟨6, none⟩] (insertItem [⟨5, none⟩, ⟨6, none⟩] 6 1404000 [⟨5, .received, 3780000⟩]) = true
      ∧ allReceived [⟨5, none⟩, ⟨6, none⟩] (insertItem [⟨5, none⟩, ⟨6, none⟩] 6 1404000 []) = false := by
  simp only [delivers_iff]; decide +kernel

theorem witness_LineShareFollowsTheListedBasis :
    (allotFrame 4940 2 0 100 10 [(6, 10)]).listed = [(6, 10, false)] ∧ (∀ i ∈ [((6 : Nat), 10, false)], i.1 ≠ 5)
      ∧ (allotFrame 4940 2 0 100 10 [(6, 4), (5, 10), (5, 3)]).listed
        = [(6, 4, false)] ++ (5, 10, false) :: [(5, 3, false)]
      ∧ (allotFrame 4940 2 0 100 10 [(6, 4), (5, 10), (5, 3)]).field 5 6 = 10
      ∧ (allotFrame 4940 2 0 100 9 [(6, 4), (5, 10), (5, 3)]).field 5 6 < 10
      ∧ (allotFrame 4940 2 0 100 9 [(6, 4), (5, 10), (5, 3)]).payload.length = 12 + 5 * 3 := by decide +kernel

/-- A furnace's allotment of 4,940 to lines 5 and 6 of the given revision. -/
def allot (revision : Nibble) : Frame := allotFrame 4940 2 revision 6480007 5184000 [(5, 3780000), (6, 1404000)]

/-- Line 5 with a struck entry 4,940 of the given share list. -/
def struckLine (shares : List ShareItem) : State :=
  station 5 (config .line [2, 9])
    [entry (some 4940) .struck none (.line { linePart shares with
        result := some (lineResult [] (linePart shares)) }), entry (some 4941) .opened none openLine]
    [] [⟨2, some 7⟩, ⟨9, none⟩]

/-- Line 5 with 40,000 open that still holds 0 from before two jumps. -/
def jumpedLine : State :=
  station 5 (config .line [2, 9])
    [entry (some 0) .settling (some 7) (.line (linePart [absent 2, absent 9])), entry (some 40000) .opened none openLine] []
    [⟨2, some 7⟩, ⟨9, none⟩]

theorem witness_AllotmentIsTakenAgainstItsItem :
    (∀ s ∈ [line5 [absent 2, received 9 50000] 0, line5 [absent 2, absent 9] 0, line5 [received 2 1, absent 9] 0,
          struckLine [absent 2, absent 9], struckLine [received 2 1, absent 9]],
        s.delivers .allotment .a (allot 0) ∧ s.delivers .allotment .a (allot 1)
          ∧ (s.heard .a (allot 1)).evidence 4940 2 = s.heard .a (allot 1))
      ∧ (line5 [] 0).held 4930 = none ∧ (line5 [] 0).isAhead 4940 = false
      ∧ (jumpedLine.delivers .allotment .a (allotFrame 0 2 0 100 10 [(5, 10)]) ∧ jumpedLine.isAhead 0 = true
        ∧ (jumpedLine.held 0).isSome = true)
      ∧ takenShare (some 5) (allotFrame 4940 2 0 100 9 [(5, 10)]) = none
      ∧ (takenShare (some 5) (allot 0)).isSome = true
      ∧ (received 2 1).below 0 = false ∧ (received 2 1).below 1 = true
      ∧ (((struckLine [received 2 1, absent 9]).held 4940).map Entry.state) = some .struck := by
  simp only [delivers_iff]; decide +kernel

theorem witness_LineStrikesWhenItsWaitEnds :
    (line5 [received 2 4725005, absent 9] 60).settings = some (config .line [2, 9])
      ∧ (line5 [received 2 4725005, absent 9] 60).held 4940 = some (line4940 [received 2 4725005, absent 9] 60)
      ∧ (line4940 [received 2 4725005, absent 9] 60).state = .settling ∧ (config .line [2, 9]).t2 ≤ 60
      ∧ (line4940 [] 60).carriers = (.gas, 452300) :: [(.electric, 128500)] ∧ (line4940 [] 60).flags.preZero = false
      ∧ (line4940 [] 60).number ≠ some 4941 ∧ (entry none .settling (some 0) openLine).number = none
      ∧ (entry none .settling (some 0) openLine).carriers = [] := by decide +kernel

/-- R122: the lead-in's strike adds its energy and no struck entry. -/
theorem test_leadIn_strikes_without_a_count :
    let t := (line5 [] 0).strike { entry none .settling (some 0) openLine with carriers := [(.gas, 7)] }
    t.book.line.energy.gas = 7 ∧ t.book.line.eLine = 7 ∧ t.book.line.struck = 0 := by decide +kernel

theorem witness_ApportioningEntryStrikesWhenItsWaitEnds :
    (furnace2 [⟨5, .received, 3780000⟩] 30).settings = some (config .furnace [5, 6]) ∧ (config .furnace [5, 6]).role ≠ .line
      ∧ (furnace2 [⟨5, .received, 3780000⟩] 30).held 4940 = some (furnace4940 [⟨5, .received, 3780000⟩] 30)
      ∧ (furnace4940 [⟨5, .received, 3780000⟩] 30).state = .settling ∧ (config .furnace [5, 6]).t1 ≤ 30
      ∧ (entry none .settling (some 0) openAllot).number = none ∧ (entry none .settling (some 0) openAllot).state ≠ .struck
      ∧ (entry none .settling (some 0) openAllot).flags.estimated = false := by decide +kernel

theorem witness_BookQueriesAreAnswered :
    (line5 [] 0).delivers .queryResult .a (queryFrame 5 1 0 1) ∧ (line5 [] 0).delivers .queryResult .a (queryFrame 5 1 0 4940)
      ∧ (line5 [] 0).delivers .queryResult .a (queryFrame 5 1 0 4941)
      ∧ (struckLine []).delivers .queryResult .a (queryFrame 5 1 2 4940)
      ∧ (line5 [] 0).delivers .queryLatest .a (queryFrame 5 2 0 0) ∧ (∀ e ∈ (line5 [] 0).book.entries, e.state ≠ .struck)
      ∧ (struckLine []).delivers .queryLatest .a (queryFrame 5 2 2 0)
      ∧ ((struckLine []).book.entries.map Entry.state) = [] ++ .struck :: [.opened]
      ∧ (line5 [] 0).time.accounting ≠ .unconfigured ∧ (line5 [] 0).held 1 = none
      ∧ (((line5 [] 0).held 4940).map Entry.state) = some .settling
      ∧ (((line5 [] 0).held 4941).map Entry.state) = some .opened
      ∧ (line4940 [] 0).part = .line (linePart []) ∧ (furnace4940 [] 0).part = .apportioning (allotPart []) := by
  simp only [delivers_iff]; decide +kernel

/-- A share item in the bytes of a RESULT answer's part 1 (R189). -/
theorem test_shareItem_bytes :
    entryBody (line4940 [received 2 300] 0) 1
      = [1, 2, 3, 3, 0, 0, 0, 1, 44, 0, 0, 0, 0, 0, 0, 0, 0, 0, 0, 1, 0, 0, 0, 0] := by decide +kernel

theorem witness_StationQueriesAreAnswered :
    (line5 [] 0).delivers .queryCampaign .a (queryFrame 5 3 0 0) ∧ (line5 [] 0).delivers .queryChannels .a (queryFrame 5 5 1 0)
      ∧ (line5 [] 0).delivers .queryCondition .a (queryFrame 5 4 3 0)
      ∧ fullQueue.setService.delivers .queryCondition .a (queryFrame 5 4 3 0)
      ∧ (after (.queryCondition .a (queryFrame 5 4 3 0)) fullQueue.setService).link.queue = fullQueue.setService.link.queue
      ∧ (after (.queryCondition .a (queryFrame 5 4 3 0)) (line5 [] 0)).link.queue.length = 0 + 1
      ∧ (line5 [] 0).settings = some (config .line [2, 9]) ∧ (config .line [2, 9]).role = .line
      ∧ (furnace2 [] 0).settings = some (config .furnace [5, 6]) ∧ (config .furnace [5, 6]).role ≠ .line := by
  simp only [delivers_iff]; decide +kernel

theorem witness_UnanswerableRequestsAreRecorded :
    (line5 [] 0).delivers .unknown .a (queryFrame 5 9 0 0) ∧ (line5 [] 0).delivers .unknown .a (orderFrame 5 3 0 0 0)
      ∧ (line5 [] 0).delivers .unknown .a (orderFrame 31 3 0 0 0)
      ∧ unconfigured.delivers .queryResult .a (queryFrame 5 1 0 0) ∧ unconfigured.delivers .queryLatest .a (queryFrame 5 2 0 0)
      ∧ unconfigured.delivers .queryCampaign .a (queryFrame 5 3 0 0)
      ∧ unconfigured.delivers .queryChannels .a (queryFrame 5 5 0 0) ∧ unconfigured.delivers .unknown .a (queryFrame 5 9 0 0)
      ∧ unconfigured.delivers .unknown .a (orderFrame 5 3 0 0 0) ∧ unconfigured.delivers .orderZero .a (orderFrame 5 1 0 0 0)
      ∧ unconfigured.delivers .orderJob .a (orderFrame 5 2 0 0 0) ∧ unconfigured.settings = none
      ∧ unconfigured.time.accounting = .unconfigured := by
  simp only [delivers_iff]; decide +kernel

theorem witness_ZeroOrderIsHeldForTheNextOpen :
    (line5 [] 0).delivers .orderZero .a (orderFrame 5 1 4711 0 0) ∧ (line5 [] 0).settings = some (config .line [2, 9])
      ∧ (orderFrame 5 1 4711 0 0).field 1 2 = (config .line [2, 9]).authorization
      ∧ (line5 [] 0).delivers .orderZero .a (orderFrame 31 1 4712 0 0)
      ∧ (orderFrame 31 1 4712 0 0).field 1 2 ≠ (config .line [2, 9]).authorization
      ∧ (after (.orderZero .a (orderFrame 5 1 4711 0 0)) (line5 [] 0)).settings = some (config .line [2, 9])
      ∧ (after (.orderZero .a (orderFrame 5 1 4711 0 0)) (line5 [] 0)).book.zeroPending = true := by
  simp only [delivers_iff]; decide +kernel

theorem witness_JobOrderReplacesTheJob :
    (line5 [] 0).delivers .orderJob .a (orderFrame 5 2 4711 1 4) ∧ (line5 [] 0).settings = some (config .line [2, 9])
      ∧ (orderFrame 5 2 4711 1 4).field 1 2 = (config .line [2, 9]).authorization ∧ (config .line [2, 9]).role = .line
      ∧ ((orderFrame 5 2 4711 1 4).field 3 2 = 1 ∧ ((orderFrame 5 2 4711 1 4).payload.getD 5 0).toNat = 4)
      ∧ (line5 [] 0).delivers .orderJob .a (orderFrame 31 2 4711 0 4) ∧ (orderFrame 31 2 4711 0 4).field 3 2 = 0
      ∧ (line5 [] 0).delivers .orderJob .a (orderFrame 31 2 4711 1 5)
      ∧ (furnace2 [] 0).delivers .orderJob .a (orderFrame 2 2 4711 1 4)
      ∧ (furnace2 [] 0).settings = some (config .furnace [5, 6]) := by
  simp only [delivers_iff]; decide +kernel

/-- Sequence 1: the furnace's division leaves 1 Wh; with no basis nothing is distributed. -/
theorem witness_SharesFallShortByLessThanTheirNumber :
    0 < basisTotal [⟨5, .received, 3780000⟩, ⟨6, .received, 1404000⟩]
      ∧ distributed 6480007 [⟨5, .received, 3780000⟩, ⟨6, .received, 1404000⟩] = 6480006
      ∧ basisTotal [⟨5, .received, 0⟩, ⟨6, .excluded, 0⟩] = 0 := by decide +kernel

/-- Sequence 1: the SECs of line 6, one rounded up. -/
theorem witness_SpecificEnergyIsRoundedHalfUp :
    specificEnergy 2155001 1350000 = some 15963 ∧ specificEnergy 2155001 1404000 = some 15349
      ∧ specificEnergy 2155001 0 = none ∧ 0 < 20000 ∧ 131071 * 20000 ≤ 20000 * 131071 := by decide +kernel

theorem witness_CloseConservesGlass : 5 + (2 ^ 64 - 1) ≤ 5 + (2 ^ 64 - 1) ∧ nextCarry 5 5 (2 ^ 64 - 1) = 2 ^ 64 - 1 := by
  decide +kernel

/-- The part of the furnace's struck entry of sequence 1. -/
def struckPart : AllotPart :=
  ⟨6480007, .mass, [⟨5, .received, 3780000⟩, ⟨6, .estimated, 1404000⟩], 5184000, 0, some 1, some 12500⟩

theorem witness_LineShareEqualsTheCountedShare :
    (∀ x ∈ struckPart.items, x.station ≤ 30) ∧ struckPart.e < 2 ^ 32 ∧ struckPart.b = basisTotal struckPart.items ∧ struckPart.items.length ≤ 16
      ∧ (∀ x ∈ struckPart.items, 1 ≤ x.station ∧ x.station ≤ 30 ∧ x.basis < 2 ^ 32)
      ∧ (struckPart.items.map ContributorItem.station).Nodup
      ∧ ({ markFrame 0 2 with payload := allotmentPayload struckPart } : Frame).payload = allotmentPayload struckPart
      ∧ (⟨6, .estimated, 1404000⟩ : ContributorItem) ∈ struckPart.items ∧ ItemState.estimated ≠ .excluded := by decide +kernel

/-- A TALLY frame of line 5's entry 4,940. -/
def tally4940 : Frame := ⟨2, 0, 5, 31, 4940, 0, 0, tallyPayload (line4940 [] 0) (linePart [])⟩

theorem witness_TallyBytesCarryTheFigures :
    tally4940.kind = 2 ∧ tally4940.revision = 0 ∧ tally4940.destination = 31 ∧ 1 ≤ tally4940.source.toNat
      ∧ tally4940.source.toNat ≤ 30 ∧ (line4940 [] 0).kind ≠ .leadIn ∧ (line4940 [] 0).carriers.length ≤ 5
      ∧ (linePart []).pull < 2 ^ 32 ∧ (linePart []).good < 2 ^ 32 ∧ (linePart []).runSeconds < 2 ^ 16 := by decide +kernel

theorem witness_TallyAndTimerOrderLeavesTheSameTotals :
    let s := furnace2 [⟨5, .received, 3780000⟩] 0
    let f := tallyFrame 4940 6 1398600 0 0
    s.settings = some (config .furnace [5, 6]) ∧ (config .furnace [5, 6]).role ≠ .line
      ∧ s.held f.period = some (furnace4940 [⟨5, .received, 3780000⟩] 0)
      ∧ (furnace4940 [⟨5, .received, 3780000⟩] 0).state = .settling
      ∧ (allotPart [⟨5, .received, 3780000⟩]).revision < 3 ∧ f.source.toNat ∈ s.contributors.map Peer.station
      ∧ (∀ i ∈ (allotPart [⟨5, .received, 3780000⟩]).items, i.station ≠ f.source.toNat ∧ i.state = .received)
      ∧ ∀ peer ∈ s.contributors, peer.station ≠ f.source.toNat →
          ∃ i ∈ (allotPart [⟨5, .received, 3780000⟩]).items, i.station = peer.station := by decide +kernel

theorem witness_AllotmentAndTimerOrderLeavesTheSameTotals :
    let s := line5 [absent 2, received 9 50000] 0
    s.held (allot 0).period = some (line4940 [absent 2, received 9 50000] 0)
      ∧ (line4940 [absent 2, received 9 50000] 0).state = .settling
      ∧ ((linePart [absent 2, received 9 50000]).shares.map ShareItem.station).Nodup
      ∧ (takenShare s.loader.own (allot 0)).isSome = true ∧ absent 2 ∈ (linePart [absent 2, received 9 50000]).shares
      ∧ (absent 2).station = (allot 0).source.toNat ∧ (absent 2).state ≠ .received
      ∧ ∀ x ∈ (linePart [absent 2, received 9 50000]).shares, x.station ≠ (absent 2).station → x.state = .received := by
  decide +kernel

/-! Invariants: line 5 and furnace 2 meet them, and their next step answers a next state. -/

/-- Line 5 and its next command: the tick that starts a round. -/
def ticking : State := { line5 [] 0 with pending := [.internalSecond, .cutPulse 2] }

theorem witness_StepKeepsTheChannelRelation : fullLine.channelsBalance ∧ step fullLine = .next fullLine := by
  refine ⟨?_, rfl⟩
  unfold State.channelsBalance ChannelState.balanced; decide +kernel

theorem witness_StepKeepsMeasuredEqualAllottedPlusUndistributed :
    struckFurnace.allotBalance ∧ step struckFurnace = .next struckFurnace := by
  refine ⟨⟨by decide +kernel, ?_⟩, rfl⟩
  have h : ∀ e ∈ struckFurnace.book.entries, (match e.part with
      | .apportioning p => decide (p.residue.getD 0 ≤ p.e)
      | _ => true) = true := by decide +kernel
  intro e he p hp
  have := h e he
  rw [hp] at this
  simpa [AllotPart.residueWithin] using this

theorem witness_StepKeepsTheLineTotalRelation : (line5 [absent 2, absent 9] 0).lineBalance ∧ ∃ t, step ticking = .next t := by
  refine ⟨⟨by decide +kernel, by decide +kernel, by decide +kernel, fun h => absurd rfl h, ?_, ?_⟩, ⟨_, rfl⟩⟩
  · intro c hc _; cases hc; rfl
  · simp [line5, station, Entry.lineFits, line4940, entry, linePart, absent, openLine]

theorem witness_StepKeepsTheBookFormed : (line5 [] 0).bookFormed ∧ ∃ t, step ticking = .next t :=
  ⟨⟨line5_formed _ _, rfl, rfl, _, rfl, rfl, by simp [entry]⟩, ⟨_, rfl⟩⟩

theorem witness_StepKeepsTheLinkFormed : owing.link.formed ∧ step owing = .next owing := by
  refine ⟨⟨?_, ?_, ?_, by decide +kernel, by decide +kernel⟩, rfl⟩
  · show 0 < 8; decide
  · show 0 < 8; decide
  · unfold Link.queueFormed; decide +kernel

theorem witness_StepKeepsTheMetersFormed :
    (polling (.window request21) beforeWrap).metersFormed ∧ ∃ t, step ticking = .next t := by
  refine ⟨⟨?_, fun h => absurd rfl h, fun h => by cases h⟩, ⟨_, rfl⟩⟩
  intro m
  have h : ∀ m : Fin 8, (polling (.window request21) beforeWrap).meter.entries[m]
      = if m = 0 then beforeWrap else MeterEntry.atReset := by decide +kernel
  rw [h m]
  by_cases hm : m = 0
  · subst hm
    refine ⟨by decide, by decide, by decide, by decide, by decide, by decide, ?_⟩
    intro r hr
    exact ⟨meter, rfl, by cases hr; decide⟩
  · rw [if_neg hm]
    refine ⟨by decide, by decide, by decide, by decide, by decide, by decide, ?_⟩
    intro r hr; cases hr

theorem witness_StepKeepsTheCountersWithinRange :
    { line5 [] 0 with requests := { (line5 [] 0).requests with queries := 65535 } }.countersHold
      ∧ ∃ t, step { ticking with requests := { (line5 [] 0).requests with queries := 65535 } } = .next t := by
  refine ⟨?_, ⟨_, rfl⟩⟩
  unfold State.countersHold; decide +kernel

end Sys2Proof.Tests
end

section
/-! SUPPORT. What a strike, a close and a boundary make of the book's entries. -/

namespace Sys2Proof.Machine

open Sys2Proof

/-! ### The entry that a strike leaves (R72, R93, R117) -/

/-- What a strike makes of an entry that is not yet STRUCK: the shares completed in a LINE, the residue in the lead-in of an
apportioning station, the items completed in any other entry. -/
def State.struckEntry (s : State) (e : Entry) : Entry :=
  match e.part, e.number with
  | .line p, _ => (e.withShares p (p.shares.map (completeShare s.subscriptions))).struckNow
  | .apportioning p, none => { e.struckNow with part := .apportioning { p with residue := some p.e } }
  | .apportioning p, some _ =>
    (e.withItems p (s.role.getD .pool) (s.contributors.map (completeItem p.items))).struckNow

/-- A strike leaves what identifies an entry, its closing figures and its revision count. -/
theorem State.struckEntry_fields (s : State) (e : Entry) :
    (s.struckEntry e).number = e.number ∧ (s.struckEntry e).kind = e.kind ∧ (s.struckEntry e).cause = e.cause
      ∧ (s.struckEntry e).duration = e.duration ∧ (s.struckEntry e).carriers = e.carriers
      ∧ (s.struckEntry e).revisions = e.revisions ∧ (s.struckEntry e).state = .struck := by
  cases hp : e.part <;> cases hn : e.number <;> simp only [State.struckEntry, hp, hn] <;>
    exact ⟨hn, rfl, rfl, rfl, rfl, rfl, rfl⟩

@[simp] theorem State.struckEntry_number (s : State) (e : Entry) : (s.struckEntry e).number = e.number :=
  (s.struckEntry_fields e).1
@[simp] theorem State.struckEntry_kind (s : State) (e : Entry) : (s.struckEntry e).kind = e.kind :=
  (s.struckEntry_fields e).2.1
@[simp] theorem State.struckEntry_state (s : State) (e : Entry) : (s.struckEntry e).state = .struck := by
  simp [s.struckEntry_fields e]

/-- A strike leaves the revision count and the allotment revision in agreement (R88). -/
theorem State.struckEntry_revisionsAgree (s : State) {e : Entry} (h : e.revisionsAgree) :
    (s.struckEntry e).revisionsAgree := by
  refine ⟨fun ho => by simp at ho, fun p hp => ?_⟩
  rw [(s.struckEntry_fields e).2.2.2.2.2.1]
  cases hpart : e.part with
  | line q => simp [State.struckEntry, hpart, Entry.withShares, Entry.struckNow] at hp
  | apportioning q =>
    have hq := h.2 q hpart
    cases hn : e.number <;> simp [State.struckEntry, hpart, hn, Entry.withItems, Entry.struckNow, AllotPart.withItems] at hp <;>
      subst hp <;> exact hq

/-- The entries after a strike: the struck entry stands where the entry stood. -/
theorem State.strike_entries (s : State) (e : Entry) :
    (s.strike e).book.entries
      = if e.state = .struck then s.book.entries else replaceEntry (s.struckEntry e) s.book.entries := by
  rcases s.strike_cases e with ⟨hs, h⟩ | ⟨hs, p, hp, h⟩ | ⟨hs, p, hp, hn, h⟩ | ⟨hs, p, n, hp, hn, h⟩
  · rw [h, if_pos hs]
  · rw [h, if_neg hs, State.struckEntry, hp]; rfl
  · rw [h, if_neg hs, State.struckEntry, hp, hn]; rfl
  · rw [h, if_neg hs, State.struckEntry, hp, hn]
    simp [State.strikeAllot, State.afterStrike]

/-- A strike leaves the accounting state, the base source and every count of the time base; it can end the STARTING condition
(R23). -/
theorem State.strike_time (s : State) (e : Entry) : ∃ b, (s.strike e).time = { s.time with starting := b } := by
  rcases s.strike_cases e with ⟨-, h⟩ | ⟨-, p, -, h⟩ | ⟨-, p, -, -, h⟩ | ⟨-, p, n, -, -, h⟩ <;> rw [h]
  · exact ⟨_, rfl⟩
  · exact ⟨_, rfl⟩
  · exact ⟨_, rfl⟩
  · simp only [State.strikeAllot, State.handOver_time]; exact ⟨_, rfl⟩

@[simp] theorem State.strike_accounting (s : State) (e : Entry) : (s.strike e).time.accounting = s.time.accounting := by
  obtain ⟨b, h⟩ := s.strike_time e; rw [h]

@[simp] theorem State.strike_role (s : State) (e : Entry) : (s.strike e).role = s.role := by simp [State.role]

/-- A strike leaves the pending zero and the late counter. -/
theorem State.strike_book (s : State) (e : Entry) :
    (s.strike e).book = { s.book with entries := (s.strike e).book.entries, line := (s.strike e).book.line,
                                      allot := (s.strike e).book.allot } := by
  rcases s.strike_cases e with ⟨-, h⟩ | ⟨-, p, -, h⟩ | ⟨-, p, -, -, h⟩ | ⟨-, p, n, -, -, h⟩ <;> rw [h]
  · rfl
  · rfl
  · simp only [State.strikeAllot, State.handOver_book]; rfl

/-- Putting two entries of one number back, the second stands. -/
theorem replaceEntry_replaceEntry {e f : Entry} (h : f.number = e.number) (es : List Entry) :
    replaceEntry f (replaceEntry e es) = replaceEntry f es := by
  simp only [replaceEntry, List.map_map]
  apply List.map_congr_left
  intro x _
  by_cases hx : x.number = e.number <;> simp [hx, h]

@[simp] theorem replaceEntry_length (e : Entry) (es : List Entry) : (replaceEntry e es).length = es.length := by
  simp [replaceEntry]

/-! ### The close (R69) -/

/-- The closing entry keeps its number and cause and waits with timer 0. -/
theorem closedEntry_fields (s : State) (c : Settings) (kind : EntryKind) (e : Entry) :
    (closedEntry s c kind e).number = e.number ∧ (closedEntry s c kind e).state = .settling
      ∧ (closedEntry s c kind e).timer = some 0
      ∧ (closedEntry s c kind e).kind = if e.number.isSome then kind else .leadIn := ⟨rfl, rfl, rfl, rfl⟩

/-- The entry as the close leaves it: struck where it strikes at once. -/
def State.closedForm (s : State) (c : Settings) (kind : EntryKind) (e : Entry) : Entry :=
  if strikesAtClose c e then s.struckEntry (closedEntry s c kind e) else closedEntry s c kind e

@[simp] theorem State.closedForm_number (s : State) (c : Settings) (kind : EntryKind) (e : Entry) :
    (s.closedForm c kind e).number = e.number := by
  unfold State.closedForm; split <;> simp [closedEntry_fields]

/-- The station between the fixing of the figures and the strike at once. -/
theorem State.closeOpen_some {s : State} {c : Settings} {e : Entry} (hc : s.settings = some c) (he : s.openEntry = some e)
    (kind : EntryKind) :
    s.closeOpen kind =
      let closed := closedEntry s c kind e
      let told := (s.fixFigures c closed).queueTally closed
      if strikesAtClose c e then told.strike closed else told := by
  simp only [State.closeOpen, hc, he]

theorem State.closeOpen_none {s : State} (h : s.settings = none ∨ s.openEntry = none) (kind : EntryKind) :
    s.closeOpen kind = s := by
  unfold State.closeOpen
  rcases h with h | h <;> rw [h]
  cases s.settings <;> rfl

/-- The struck form hangs on the tables and the role alone. -/
theorem State.struckEntry_congr {s t : State} (hc : t.contributors = s.contributors)
    (hs : t.subscriptions = s.subscriptions) (hr : t.settings = s.settings) : t.struckEntry = s.struckEntry := by
  funext e
  simp only [State.struckEntry, State.role, hc, hs, hr]

/-- The entries after a close. -/
theorem State.closeOpen_entries {s : State} {c : Settings} {e : Entry} (hc : s.settings = some c)
    (he : s.openEntry = some e) (kind : EntryKind) :
    (s.closeOpen kind).book.entries = replaceEntry (s.closedForm c kind e) s.book.entries := by
  have hform : ((s.fixFigures c (closedEntry s c kind e)).queueTally (closedEntry s c kind e)).struckEntry = s.struckEntry :=
    State.struckEntry_congr (by simp) (by simp) (by simp)
  rw [State.closeOpen_some hc he, State.closedForm]
  dsimp only
  split
  · rw [State.strike_entries, hform, if_neg (by simp [closedEntry_fields])]
    simp [State.fixFigures, State.putEntry, replaceEntry_replaceEntry]
  · simp [State.fixFigures, State.putEntry]

end Sys2Proof.Machine
end

section
/-! SUPPORT. The form of the book (R2, R61, R62): what keeps it, and that a boundary makes it anew. -/

namespace Sys2Proof.Machine

open Sys2Proof

/-! ### Entries that stand for entries -/

/-- The entry y may stand where x stood in a well-formed book: it has x's number and kind, is OPEN exactly when x is, and its
revision counts agree when x's do. -/
structure Entry.StandsFor (y x : Entry) : Prop where
  number : y.number = x.number
  kind : y.kind = x.kind
  opened : y.state = .opened ↔ x.state = .opened
  revisions : x.revisionsAgree → y.revisionsAgree

theorem Entry.StandsFor.refl (x : Entry) : x.StandsFor x := ⟨rfl, rfl, .rfl, id⟩

theorem Entry.StandsFor.trans {x y z : Entry} (h : z.StandsFor y) (k : y.StandsFor x) : z.StandsFor x :=
  ⟨h.number.trans k.number, h.kind.trans k.kind, h.opened.trans k.opened, h.revisions ∘ k.revisions⟩

theorem State.struckEntry_standsFor (s : State) {e : Entry} (h : e.state ≠ .opened) : (s.struckEntry e).StandsFor e :=
  ⟨by simp, by simp, by simp [h], s.struckEntry_revisionsAgree⟩

/-- Entries with other flags stand for the entries. -/
theorem Entry.standsFor_flags (e : Entry) (f : EntryFlags) : ({ e with flags := f } : Entry).StandsFor e :=
  ⟨rfl, rfl, .rfl, id⟩

theorem Entry.tick_standsFor (e : Entry) : e.tick.StandsFor e := by
  unfold Entry.tick; split <;> exact ⟨rfl, rfl, .rfl, id⟩

/-- The entries of a well-formed book, each replaced by one that may stand for it, form a well-formed book. -/
theorem Book.formed_of_map {b b' : Book} {g : Entry → Entry} (hb : b.formed) (he : b'.entries = b.entries.map g)
    (hg : ∀ e ∈ b.entries, (g e).StandsFor e) : b'.formed := by
  obtain ⟨hlen, hnodup, hopen, hnone, hkind, hrev⟩ := hb
  have hnum : b'.entries.map Entry.number = b.entries.map Entry.number := by
    rw [he, List.map_map]; exact List.map_congr_left fun e h => (hg e h).number
  refine ⟨by simpa [he] using hlen, by rwa [hnum], ?_, ?_, ?_, ?_⟩
  · rw [he, ← List.map_dropLast, List.forall_mem_map]
    exact fun e h => fun ho => hopen e h ((hg e (List.mem_of_mem_dropLast h)).opened.mp ho)
  · rw [he, ← List.map_drop, List.forall_mem_map]
    exact fun e h => by rw [(hg e (List.mem_of_mem_drop h)).number]; exact hnone e h
  · rw [he, List.forall_mem_map]
    exact fun e h => by rw [(hg e h).kind, (hg e h).number]; exact hkind e h
  · rw [he, List.forall_mem_map]
    exact fun e h => (hg e h).revisions (hrev e h)

/-- In a well-formed book the number tells the entry. -/
theorem Book.formed.eq_of_number {b : Book} (hb : b.formed) {x y : Entry} (hx : x ∈ b.entries) (hy : y ∈ b.entries)
    (h : x.number = y.number) : x = y := by
  obtain ⟨-, hnodup, -⟩ := hb
  exact List.inj_on_of_nodup_map hnodup hx hy h

/-- Putting back an entry that may stand for one of a well-formed book replaces each entry by one that may stand for it. -/
theorem Book.formed.replaceEntry_standsFor {b : Book} (hb : b.formed) {e y : Entry} (he : e ∈ b.entries)
    (h : y.StandsFor e) : ∀ x ∈ b.entries, (if x.number == y.number then y else x).StandsFor x := by
  intro x hx
  split
  · next hn =>
    have : x = e := hb.eq_of_number hx he ((beq_iff_eq.mp hn).trans h.number)
    exact this ▸ h
  · exact .refl x

/-! ### Steps that keep the form of the book -/

/-- The step from s to t keeps what the form of the book is made of: the loader's phase, the configuration, the accounting state,
and entries that may stand where the entries stood. -/
structure State.KeepsForm (s t : State) : Prop where
  phase : t.loader.phase = s.loader.phase
  settings : t.settings = s.settings
  accounting : t.time.accounting = s.time.accounting
  entries : ∃ g, t.book.entries = s.book.entries.map g ∧ ∀ e ∈ s.book.entries, (g e).StandsFor e

/-- A step that leaves the entries, the accounting state, the loader and the configuration keeps the form. -/
theorem State.KeepsForm.of_eq {s t : State} (hl : t.loader = s.loader) (hc : t.settings = s.settings)
    (ha : t.time.accounting = s.time.accounting) (he : t.book.entries = s.book.entries) : s.KeepsForm t :=
  ⟨by rw [hl], hc, ha, id, by simpa using he, fun e _ => .refl e⟩

theorem State.KeepsForm.refl (s : State) : s.KeepsForm s := .of_eq rfl rfl rfl rfl

theorem State.KeepsForm.trans {s t u : State} (h : s.KeepsForm t) (k : t.KeepsForm u) : s.KeepsForm u := by
  obtain ⟨g, hg, hge⟩ := h.entries
  obtain ⟨f, hf, hfe⟩ := k.entries
  refine ⟨k.phase.trans h.phase, k.settings.trans h.settings, k.accounting.trans h.accounting, f ∘ g, by simp [hf, hg],
    fun e he => ?_⟩
  exact (hfe (g e) (hg ▸ List.mem_map_of_mem he)).trans (hge e he)

/-- A step that keeps the form keeps the book formed. -/
theorem State.KeepsForm.formed {s t : State} (h : s.KeepsForm t) (hs : s.book.formed) : t.book.formed := by
  obtain ⟨g, hg, hge⟩ := h.entries
  exact Book.formed_of_map hs hg hge

/-- A step that keeps the form keeps the book's fit to the accounting state. -/
theorem State.KeepsForm.phaseFits {s t : State} (h : s.KeepsForm t) (hs : s.phaseFits) : t.phaseFits := by
  obtain ⟨g, hg, hge⟩ := h.entries
  unfold State.phaseFits at hs ⊢
  rw [h.accounting, h.phase, h.settings, hg]
  generalize s.time.accounting = phase at hs ⊢
  cases phase with
  | loading => simpa using hs
  | unconfigured => simpa using hs
  | starting =>
    obtain ⟨hp, hc, e, he, ho, hn⟩ := hs
    have hs := hge e (by simp [he])
    exact ⟨hp, hc, g e, by simp [he], hs.opened.mpr ho, hs.number.trans hn⟩
  | accounting =>
    obtain ⟨hp, hc, e, he, ho, hn⟩ := hs
    have hs := hge e (List.mem_of_getLast? he)
    exact ⟨hp, hc, g e, by simp [he], hs.opened.mpr ho, hs.number ▸ hn⟩

theorem State.KeepsForm.bookFormed {s t : State} (h : s.KeepsForm t) (hs : s.bookFormed) : t.bookFormed :=
  ⟨h.formed hs.1, h.phaseFits hs.2⟩

/-! ### The operations that keep the form -/

theorem State.flagOpen_keepsForm (s : State) (f : EntryFlags → EntryFlags) : s.KeepsForm (s.flagOpen f) := by
  refine ⟨rfl, rfl, rfl, _, rfl, fun e _ => ?_⟩
  split
  · exact e.standsFor_flags _
  · exact .refl e

/-- An entry that may stand for one in the book is put back. -/
theorem State.putEntry_keepsForm {s : State} (hs : s.book.formed) {e y : Entry} (he : e ∈ s.book.entries)
    (h : y.StandsFor e) : s.KeepsForm (s.putEntry y) :=
  ⟨rfl, rfl, rfl, _, rfl, hs.replaceEntry_standsFor he h⟩

/-- A strike of an entry of the book that is not OPEN. -/
theorem State.strike_keepsForm {s : State} (hs : s.book.formed) {e : Entry} (he : e ∈ s.book.entries)
    (ho : e.state ≠ .opened) : s.KeepsForm (s.strike e) := by
  refine ⟨by simp, by simp, by simp, ?_⟩
  rw [State.strike_entries]
  split
  · exact ⟨id, by simp, fun e _ => .refl e⟩
  · exact ⟨_, rfl, hs.replaceEntry_standsFor he (s.struckEntry_standsFor ho)⟩

theorem State.handOver_keepsForm (s : State) (r : Record) : s.KeepsForm (s.handOver r) :=
  .of_eq (by simp) (by simp) (by simp) (by simp)

/-! ### A boundary forms the book anew -/

/-- A well-formed book in which no entry is OPEN. -/
def Book.closed (b : Book) : Prop := b.formed ∧ ∀ e ∈ b.entries, e.state ≠ .opened

/-- Entries taken out of a closed book leave a closed book. -/
theorem Book.closed.sublist {b b' : Book} (h : b.closed) (hs : b'.entries.Sublist b.entries) : b'.closed := by
  obtain ⟨⟨hlen, hnodup, -, hnone, hkind, hrev⟩, hopen⟩ := h
  have hopen' : ∀ e ∈ b'.entries, e.state ≠ .opened := fun e he => hopen e (hs.subset he)
  refine ⟨⟨hs.length_le.trans hlen, (hs.map _).nodup hnodup, fun e he => hopen' e (List.mem_of_mem_dropLast he),
    fun e he => ?_, fun e he => hkind e (hs.subset he), fun e he => hrev e (hs.subset he)⟩, hopen'⟩
  rw [List.drop_one] at hnone he
  exact hnone e (hs.tail.subset he)

/-- A step that keeps the form leaves a closed book closed. -/
theorem State.KeepsForm.closed {s t : State} (h : s.KeepsForm t) (hs : s.book.closed) : t.book.closed := by
  refine ⟨h.formed hs.1, ?_⟩
  obtain ⟨g, hg, hge⟩ := h.entries
  rw [hg, List.forall_mem_map]
  exact fun e he ho => hs.2 e he ((hge e he).opened.mp ho)

/-- The entries of a well-formed book are the closed ones and the newest. -/
theorem Book.formed.eq_getLast {b : Book} (hb : b.formed) {e : Entry} (he : e ∈ b.entries) (ho : e.state = .opened) :
    b.entries.getLast? = some e := by
  obtain ⟨-, -, hopen, -⟩ := hb
  have hne : b.entries ≠ [] := List.ne_nil_of_mem he
  rw [← List.dropLast_append_getLast hne, List.mem_append, List.mem_singleton] at he
  rcases he with he | rfl
  · exact absurd ho (hopen e he)
  · exact List.getLast?_eq_some_getLast hne

/-- A well-formed book holds at most one OPEN entry. -/
theorem Book.formed.opened_unique {b : Book} (hb : b.formed) {x y : Entry} (hx : x ∈ b.entries) (hy : y ∈ b.entries)
    (hxo : x.state = .opened) (hyo : y.state = .opened) : x = y := by
  have h := (hb.eq_getLast hx hxo).symm.trans (hb.eq_getLast hy hyo)
  exact Option.some.inj h

/-- A close leaves the kind of a numbered entry REGULAR or IRREGULAR and has no revision yet. -/
theorem closedEntry_revisionsAgree (s : State) (c : Settings) (kind : EntryKind) {e : Entry} (h : e.revisionsAgree)
    (ho : e.state = .opened) : (closedEntry s c kind e).revisionsAgree := by
  refine ⟨fun hx => by simp [closedEntry_fields] at hx, fun p hp => ?_⟩
  have hzero : (closedEntry s c kind e).revisions = 0 := h.1 ho
  have hpart : (closedEntry s c kind e).part = closingPart c s.bank e.number.isSome := rfl
  rw [hzero]
  rw [hpart] at hp
  unfold closingPart at hp
  cases hr : c.role <;> simp [hr] at hp <;> simp [← hp]

theorem State.closedForm_state_ne (s : State) (c : Settings) (kind : EntryKind) (e : Entry) :
    (s.closedForm c kind e).state ≠ .opened := by
  unfold State.closedForm
  split <;> simp [closedEntry_fields]

theorem State.closedForm_kind (s : State) (c : Settings) (kind : EntryKind) (e : Entry) :
    (s.closedForm c kind e).kind = if e.number.isSome then kind else .leadIn := by
  unfold State.closedForm
  split <;> simp [closedEntry_fields]

theorem State.closedForm_revisionsAgree (s : State) (c : Settings) (kind : EntryKind) {e : Entry} (h : e.revisionsAgree)
    (ho : e.state = .opened) : (s.closedForm c kind e).revisionsAgree := by
  unfold State.closedForm
  split
  · exact s.struckEntry_revisionsAgree (closedEntry_revisionsAgree s c kind h ho)
  · exact closedEntry_revisionsAgree s c kind h ho

/-- The close of a well-formed book leaves it closed (R69). -/
theorem State.closeOpen_closed {s : State} {c : Settings} (hs : s.book.formed) (hc : s.settings = some c) {kind : EntryKind}
    (hk : kind ≠ .leadIn) : (s.closeOpen kind).book.closed := by
  cases he : s.openEntry with
  | none =>
    rw [State.closeOpen_none (.inr he)]
    exact ⟨hs, fun e h => by simpa using List.find?_eq_none.mp he e h⟩
  | some e =>
    obtain ⟨ho, hm⟩ := State.openEntry_some he
    obtain ⟨hlen, hnodup, hopen, hnone, hkind, hrev⟩ := hs
    have hent := State.closeOpen_entries hc he kind
    have hother : ∀ x ∈ (s.closeOpen kind).book.entries, x.state ≠ .opened := by
      intro x hx ho'
      rw [hent] at hx
      rcases mem_replaceEntry hx with rfl | ⟨hx, hne⟩
      · exact s.closedForm_state_ne c kind e ho'
      · rw [State.closedForm_number] at hne
        exact hne (by rw [Book.formed.opened_unique ⟨hlen, hnodup, hopen, hnone, hkind, hrev⟩ hx hm ho' ho])
    have hnum : ((s.closeOpen kind).book.entries).map Entry.number = s.book.entries.map Entry.number := by simp [hent]
    refine ⟨⟨by simpa [hent] using hlen, by rwa [hnum], fun x hx => hother x (List.mem_of_mem_dropLast hx), fun x hx => ?_,
      fun x hx => ?_, fun x hx => ?_⟩, hother⟩
    · have hx : x.number ∈ ((s.closeOpen kind).book.entries.map Entry.number).drop 1 := by
        rw [← List.map_drop]; exact List.mem_map_of_mem hx
      rw [hnum, ← List.map_drop, List.mem_map] at hx
      obtain ⟨y, hy, hyx⟩ := hx
      exact hyx ▸ hnone y hy
    · rw [hent] at hx
      rcases mem_replaceEntry hx with rfl | ⟨hx, -⟩
      · rw [State.closedForm_kind, State.closedForm_number]
        cases e.number <;> simp [hk]
      · exact hkind x hx
    · rw [hent] at hx
      rcases mem_replaceEntry hx with rfl | ⟨hx, -⟩
      · exact s.closedForm_revisionsAgree c kind (hrev e hm) ho
      · exact hrev x hx

/-- Eviction leaves room in a closed book, and leaves it closed (R67). -/
theorem State.evict_closed {s : State} (hs : s.book.closed) :
    s.evict.book.closed ∧ s.evict.book.entries.length < Config.bookSize := by
  unfold State.evict
  split
  · next h => exact ⟨hs, h⟩
  · next h =>
    split
    · next he => exact absurd (by simp [he, Config.bookSize]) h
    · next e rest he =>
      have hm : e ∈ s.book.entries := by simp [he]
      have hkeep : s.KeepsForm (if e.state = .settling then s.strike e else s) := by
        split
        · exact State.strike_keepsForm hs.1 hm (hs.2 e hm)
        · exact .refl s
      have hclosed := hkeep.closed hs
      refine ⟨hclosed.sublist (List.drop_sublist _ _), ?_⟩
      have hlen := hclosed.1.1
      simp only [List.length_drop]
      simp only [Config.bookSize] at hlen ⊢
      omega

/-- The removal of a number leaves a closed book closed, without the number (R68). -/
theorem State.removeNumber_closed {s : State} (hs : s.book.closed) (number : Option Period) :
    (s.removeNumber number).book.closed
      ∧ (s.removeNumber number).book.entries.length ≤ s.book.entries.length
      ∧ (number ≠ none → number ∉ (s.removeNumber number).book.entries.map Entry.number) := by
  unfold State.removeNumber
  cases number with
  | none => exact ⟨hs, le_rfl, by simp⟩
  | some n =>
    dsimp only
    cases he : s.held n with
    | none =>
      refine ⟨hs, le_rfl, fun _ hm => ?_⟩
      obtain ⟨x, hx, hxn⟩ := List.mem_map.mp hm
      exact absurd hxn (by simpa using List.find?_eq_none.mp he x hx)
    | some e =>
      have hm := (State.held_some he).2
      have hclosed := (State.strike_keepsForm hs.1 hm (hs.2 e hm)).closed hs
      have hlen : (s.strike e).book.entries.length = s.book.entries.length := by
        have h := congrArg List.length (s.strike_numbers e)
        rwa [List.length_map, List.length_map] at h
      refine ⟨hclosed.sublist List.filter_sublist, hlen ▸ List.length_filter_le _ _, fun _ => ?_⟩
      simp

theorem State.zeroBoundary_closed {s : State} (hs : s.book.closed) : s.zeroBoundary.book.closed := by
  have hflag : ∀ e : Entry, e.withPreZero.StandsFor e := fun e => e.standsFor_flags _
  refine ⟨Book.formed_of_map hs.1 rfl fun e _ => hflag e, ?_⟩
  simp only [State.zeroBoundary, State.refreshAlerts_book, List.forall_mem_map]
  exact fun e he ho => hs.2 e he ((hflag e).opened.mp ho)

/-- The new entry at the end of a closed book with room and without its number forms the book, whose newest is OPEN. -/
theorem State.addEntry_formed {s : State} {c : Settings} (hc : s.settings = some c) (hs : s.book.closed)
    (hroom : s.book.entries.length < Config.bookSize) {number : Option Period}
    (hfresh : number ∉ s.book.entries.map Entry.number) (hlead : number = none → s.book.entries = []) (cause : Cause) :
    (s.addEntry number cause).book.formed
      ∧ (s.addEntry number cause).book.entries = s.book.entries ++ [newEntry s c number cause] := by
  obtain ⟨⟨hlen, hnodup, -, hnone, hkind, hrev⟩, hopen⟩ := hs
  have hent : (s.addEntry number cause).book.entries = s.book.entries ++ [newEntry s c number cause] := by
    simp [State.addEntry, hc]
  refine ⟨?_, hent⟩
  unfold Book.formed
  rw [hent]
  refine ⟨by simpa using hroom, ?_, by simpa using hopen, ?_, ?_, ?_⟩
  · rw [List.map_append, List.map_cons, List.map_nil, ← List.concat_eq_append]
    exact hnodup.concat hfresh
  · intro e he
    rw [List.drop_append] at he
    rcases List.mem_append.mp he with he | he
    · exact hnone e he
    · obtain rfl : e = newEntry s c number cause := by simpa using List.mem_of_mem_drop he
      intro hn
      rw [hlead hn] at he
      simp at he
  · simp only [List.forall_mem_append, List.forall_mem_singleton]
    refine ⟨hkind, ?_⟩
    cases number <;> simp [newEntry]
  · simp only [List.forall_mem_append, List.forall_mem_singleton]
    refine ⟨hrev, fun _ => rfl, fun p hp => ?_⟩
    have hpart : openPart c = .apportioning p := hp
    unfold openPart at hpart
    cases hr : c.role <;> simp [hr] at hpart <;> simp [← hpart, newEntry]

end Sys2Proof.Machine
end

section
/-! SUPPORT. What a boundary and the commands that make one do to the form of the book (R2, R11, R61). -/

namespace Sys2Proof.Machine

open Sys2Proof

/-! ### The accounting state in a boundary -/

@[simp] theorem State.fixFigures_accounting (s : State) (c : Settings) (closed : Entry) :
    (s.fixFigures c closed).time.accounting = s.time.accounting := rfl

@[simp] theorem State.closeOpen_accounting (s : State) (kind : EntryKind) :
    (s.closeOpen kind).time.accounting = s.time.accounting := by
  unfold State.closeOpen
  split
  · dsimp only; split <;> simp
  · rfl

@[simp] theorem State.recordJump_accounting (s : State) (passed : Nat) :
    (s.recordJump passed).time.accounting = s.time.accounting := rfl

@[simp] theorem State.recordJump_entries (s : State) (passed : Nat) :
    (s.recordJump passed).book.entries = s.book.entries := rfl

@[simp] theorem State.clearTimebase_accounting (s : State) : s.clearTimebase.time.accounting = s.time.accounting := by
  unfold State.clearTimebase; split <;> rfl

@[simp] theorem State.evict_accounting (s : State) : s.evict.time.accounting = s.time.accounting := by
  unfold State.evict; split; · rfl
  split; · rfl
  dsimp only; split <;> simp

@[simp] theorem State.removeNumber_accounting (s : State) (number : Option Period) :
    (s.removeNumber number).time.accounting = s.time.accounting := by
  unfold State.removeNumber; split; · rfl
  split <;> simp

@[simp] theorem State.openNew_accounting (s : State) (number : Option Period) (cause : Cause) :
    (s.openNew number cause).time.accounting = s.time.accounting := by
  unfold State.openNew; dsimp only; split
  · simp [State.zeroBoundary]
  · simp

/-! ### A boundary (R11) -/

/-- The station of a boundary just before the entry opens: closed, the jump recorded, TIMEBASE cleared. -/
def State.beforeOpen (s : State) (passed : Option Nat) : State :=
  let closed := s.closeOpen (if passed.isSome then .irregular else .regular)
  State.clearTimebase (match passed with
    | none => closed
    | some k => closed.recordJump k)

theorem State.boundary_eq (s : State) (passed : Option Nat) (number : Period) (cause : Cause) :
    s.boundary passed number cause =
      let opened := ((s.beforeOpen passed).openNew (some number) cause).restartSeconds
      if cause = .ownExpiry then opened else opened.withdrawMark := by
  cases passed <;> rfl

/-- The book after a boundary is the book of its open. -/
theorem State.boundary_book (s : State) (passed : Option Nat) (number : Period) (cause : Cause) :
    (s.boundary passed number cause).book = ((s.beforeOpen passed).openNew (some number) cause).book := by
  rw [State.boundary_eq]; dsimp only; split <;> rfl

/-- The time base after a boundary is that of its open, with the count restarted. -/
theorem State.boundary_time (s : State) (passed : Option Nat) (number : Period) (cause : Cause) :
    (s.boundary passed number cause).time = ((s.beforeOpen passed).openNew (some number) cause).restartSeconds.time := by
  rw [State.boundary_eq]; dsimp only; split <;> rfl

theorem State.beforeOpen_entries (s : State) (passed : Option Nat) :
    (s.beforeOpen passed).book.entries
      = (s.closeOpen (if passed.isSome then .irregular else .regular)).book.entries := by
  cases passed <;> simp [State.beforeOpen]

@[simp] theorem State.beforeOpen_settings (s : State) (passed : Option Nat) :
    (s.beforeOpen passed).settings = s.settings := by
  cases passed <;> simp [State.beforeOpen]

@[simp] theorem State.beforeOpen_accounting (s : State) (passed : Option Nat) :
    (s.beforeOpen passed).time.accounting = s.time.accounting := by
  cases passed <;> simp [State.beforeOpen]

/-- The form of the book hangs on its entries. -/
theorem Book.formed_congr {b b' : Book} (h : b'.entries = b.entries) : b'.formed ↔ b.formed := by
  unfold Book.formed; rw [h]

theorem Book.closed_congr {b b' : Book} (h : b'.entries = b.entries) : b'.closed ↔ b.closed := by
  unfold Book.closed; rw [Book.formed_congr h, h]

theorem State.beforeOpen_closed {s : State} {c : Settings} (hs : s.book.formed) (hc : s.settings = some c)
    (passed : Option Nat) : (s.beforeOpen passed).book.closed :=
  (Book.closed_congr (s.beforeOpen_entries passed)).mpr
    (State.closeOpen_closed hs hc (by cases passed <;> simp))

/-- A closed book opens a numbered entry: it is formed, and its newest entry is the OPEN one of that number (R66). -/
theorem State.openNew_formed {s : State} {c : Settings} (hc : s.settings = some c) (hs : s.book.closed) (n : Period)
    (cause : Cause) :
    (s.openNew (some n) cause).book.formed
      ∧ ∃ e, (s.openNew (some n) cause).book.entries.getLast? = some e ∧ e.state = .opened ∧ e.number = some n := by
  obtain ⟨hev, hroom⟩ := State.evict_closed hs
  obtain ⟨hrem, hlen, hfresh⟩ := State.removeNumber_closed hev (some n)
  let u := s.evict.removeNumber (some n)
  let v := if u.book.zeroPending then u.zeroBoundary else u
  have hv : v.book.closed ∧ v.book.entries.length = u.book.entries.length
      ∧ v.book.entries.map Entry.number = u.book.entries.map Entry.number ∧ v.settings = some c := by
    have hu : u.settings = some c := by simp [u, hc]
    dsimp only [v]
    split
    · refine ⟨State.zeroBoundary_closed hrem, by simp [State.zeroBoundary], ?_, by simp [hu]⟩
      simp only [State.zeroBoundary, State.refreshAlerts_book, List.map_map]
      rfl
    · exact ⟨hrem, rfl, rfl, hu⟩
  obtain ⟨hclosed, hvlen, hvnum, hvc⟩ := hv
  obtain ⟨hformed, hent⟩ := State.addEntry_formed hvc hclosed (hvlen ▸ hlen.trans_lt hroom) (number := some n)
    (hvnum ▸ hfresh (by simp)) (by simp) cause
  exact ⟨hformed, _, by rw [show s.openNew (some n) cause = v.addEntry (some n) cause from rfl, hent, List.getLast?_concat],
    rfl, rfl⟩

/-- A boundary of a measuring station restarts the count in ACCOUNTING (R11 steps 5 and 6). -/
theorem State.boundary_accounting {s : State} (ha : s.time.accounting = .starting ∨ s.time.accounting = .accounting)
    (passed : Option Nat) (n : Period) (cause : Cause) :
    (s.boundary passed n cause).time.accounting = .accounting ∧ (s.boundary passed n cause).time.seconds = 0 := by
  rw [State.boundary_time]
  refine ⟨?_, rfl⟩
  rcases ha with ha | ha <;> simp [State.restartSeconds, ha]

/-- A boundary of a measuring station with a well-formed book leaves it in ACCOUNTING with the new entry OPEN (R11). -/
theorem State.boundary_bookFormed {s : State} (hs : s.bookFormed)
    (ha : s.time.accounting = .starting ∨ s.time.accounting = .accounting) (passed : Option Nat) (n : Period)
    (cause : Cause) : (s.boundary passed n cause).bookFormed := by
  obtain ⟨hformed, hfits⟩ := hs
  have hconf : s.loader.phase = .ended ∧ s.settings.isSome = true := by
    unfold State.phaseFits at hfits
    rcases ha with ha | ha <;> rw [ha] at hfits <;> exact ⟨hfits.1, hfits.2.1⟩
  obtain ⟨c, hc⟩ := Option.isSome_iff_exists.mp hconf.2
  obtain ⟨hnew, e, he, ho, hn⟩ := State.openNew_formed (by simpa using hc) (State.beforeOpen_closed hformed hc passed) n cause
  refine ⟨State.boundary_book s .. ▸ hnew, ?_⟩
  unfold State.phaseFits
  rw [(State.boundary_accounting ha passed n cause).1, State.boundary_book]
  exact ⟨by simpa using hconf.1, by simpa using hconf.2, e, he, ho, by simp [hn]⟩

theorem State.ownExpiry_bookFormed {s : State} (hs : s.bookFormed) (ha : s.time.accounting = .accounting) :
    s.ownExpiry.bookFormed := by
  unfold State.ownExpiry
  split
  · exact hs
  · exact (State.handOver_keepsForm _ _).bookFormed (State.boundary_bookFormed hs (.inr ha) _ _ _)

theorem State.soloEnd_bookFormed {s : State} (hs : s.bookFormed) (ha : s.time.accounting = .starting) :
    s.soloEnd.bookFormed :=
  (State.handOver_keepsForm _ _).bookFormed (State.boundary_bookFormed hs (.inl ha) _ _ _)

theorem State.withdrawMark_keepsForm (s : State) : s.KeepsForm s.withdrawMark := .of_eq rfl rfl rfl rfl

theorem State.heardMark_bookFormed {s : State} (hs : s.bookFormed) (n : Period) (station : Nat) :
    (s.heardMark n station).bookFormed := by
  unfold State.heardMark
  split
  · next ha => exact State.boundary_bookFormed hs (.inl ha) _ _ _
  · next ha _ =>
    split; · exact s.withdrawMark_keepsForm.bookFormed hs
    split; · exact State.boundary_bookFormed hs (.inr ha) _ _ _
    split; · exact State.boundary_bookFormed hs (.inr ha) _ _ _
    exact (State.KeepsForm.of_eq (s := s) rfl rfl rfl rfl).bookFormed hs
  · exact hs

theorem State.evidence_bookFormed {s : State} (hs : s.bookFormed) (n : Period) (station : Nat) :
    (s.evidence n station).bookFormed := by
  unfold State.evidence
  split
  · next ha => exact State.boundary_bookFormed hs (.inl ha) _ _ _
  · next ha _ =>
    split; · exact State.boundary_bookFormed hs (.inr ha) _ _ _
    split; · exact State.boundary_bookFormed hs (.inr ha) _ _ _
    exact hs
  · exact hs

/-! ### The base tick (R8, R70) -/

/-- A strike leaves every entry of another number where it stands. -/
theorem State.mem_strike_of_number_ne {s : State} {e x : Entry} (hx : x ∈ s.book.entries) (hn : x.number ≠ e.number) :
    x ∈ (s.strike e).book.entries := by
  rw [State.strike_entries]
  split
  · exact hx
  · exact List.mem_map.mpr ⟨x, hx, by simp [hn]⟩

/-- Strikes one after the other of entries with distinct numbers, none of them OPEN. -/
theorem State.strikes_keepsForm {s : State} (hs : s.book.formed) {es : List Entry} (hnum : (es.map Entry.number).Nodup)
    (hm : ∀ e ∈ es, e ∈ s.book.entries ∧ e.state ≠ .opened) : s.KeepsForm (es.foldl State.strike s) := by
  induction es generalizing s with
  | nil => exact .refl s
  | cons e es ih =>
    rw [List.map_cons, List.nodup_cons] at hnum
    obtain ⟨he, ho⟩ := hm e (by simp)
    have hstrike := State.strike_keepsForm hs he ho
    refine hstrike.trans (ih (hstrike.formed hs) hnum.2 fun x hx => ?_)
    have hne : x.number ≠ e.number := fun h => hnum.1 (h ▸ List.mem_map_of_mem hx)
    exact ⟨State.mem_strike_of_number_ne (hm x (by simp [hx])).1 hne, (hm x (by simp [hx])).2⟩

theorem State.waitsOver_sublist (s : State) : s.waitsOver.Sublist s.book.entries := by
  unfold State.waitsOver
  split
  · exact List.nil_sublist _
  · exact List.filter_sublist

theorem State.settling_of_mem_waitsOver {s : State} {e : Entry} (h : e ∈ s.waitsOver) : e.state = .settling := by
  unfold State.waitsOver at h
  split at h
  · simp at h
  · have := (List.mem_filter.mp h).2
    simp only [Entry.waitOver, Bool.and_eq_true, beq_iff_eq] at this
    exact this.1

theorem State.waitsOver_keepsForm {s : State} (hs : s.book.formed) : s.KeepsForm (s.waitsOver.foldl State.strike s) :=
  State.strikes_keepsForm hs ((s.waitsOver_sublist.map _).nodup hs.2.1) fun e he =>
    ⟨s.waitsOver_sublist.subset he, by simp [State.settling_of_mem_waitsOver he]⟩

theorem State.expiryDue_iff (s : State) : s.expiryDue = true ↔
    ∃ c, s.settings = some c ∧ s.time.accounting = .accounting ∧ c.periodLength ≤ s.time.seconds := by
  unfold State.expiryDue
  cases s.settings <;> simp

theorem State.soloDue_iff (s : State) : s.soloDue = true ↔
    ∃ c, s.settings = some c ∧ s.time.accounting = .starting ∧ 2 * c.periodLength ≤ s.time.seconds := by
  unfold State.soloDue
  cases s.settings <;> simp

@[simp] theorem State.takeSample_accounting (s : State) : s.takeSample.time.accounting = s.time.accounting := by
  unfold State.takeSample
  split
  · rfl
  · dsimp only; split <;> rfl

theorem State.takeSample_keepsForm (s : State) : s.KeepsForm s.takeSample := .of_eq (by simp) (by simp) (by simp) (by simp)

theorem State.discharge_bookFormed {s : State} (hs : s.bookFormed) : s.discharge.bookFormed := by
  have hstruck := (State.waitsOver_keepsForm hs.1).bookFormed hs
  unfold State.discharge
  dsimp only
  generalize s.waitsOver.foldl State.strike s = u at hstruck
  have hexpired : (if u.expiryDue then u.ownExpiry else u).bookFormed := by
    split
    · next h =>
      obtain ⟨c, -, ha, -⟩ := u.expiryDue_iff.mp h
      exact State.ownExpiry_bookFormed hstruck ha
    · exact hstruck
  generalize (if u.expiryDue then u.ownExpiry else u) = v at hexpired
  have hsolo : (if v.soloDue then v.soloEnd else v).bookFormed := by
    split
    · next h =>
      obtain ⟨c, -, ha, -⟩ := v.soloDue_iff.mp h
      exact State.soloEnd_bookFormed hexpired ha
    · exact hexpired
  generalize (if v.soloDue then v.soloEnd else v) = w at hsolo
  split
  · exact w.takeSample_keepsForm.bookFormed hsolo
  · exact hsolo

theorem State.overdue_bookFormed {s : State} (hs : s.bookFormed) : s.overdue.bookFormed := by
  unfold State.overdue
  split
  · exact State.discharge_bookFormed hs
  · exact hs

theorem State.countTick_keepsForm (s : State) : s.KeepsForm s.countTick := by
  unfold State.countTick
  split
  · exact .refl s
  · split
    · exact ⟨rfl, rfl, rfl, Entry.tick, rfl, fun e _ => e.tick_standsFor⟩
    · exact .refl s

theorem State.baseTick_bookFormed {s : State} (hs : s.bookFormed) : s.baseTick.bookFormed :=
  (State.countTick_keepsForm _).bookFormed (State.overdue_bookFormed hs)

theorem State.secondPulse_bookFormed {s : State} (hs : s.bookFormed) : s.secondPulse.bookFormed := by
  unfold State.secondPulse
  split
  · exact hs
  · have hexternal : s.overdue.KeepsForm s.overdue.toExternal := .of_eq rfl rfl rfl rfl
    exact (hexternal.trans (State.countTick_keepsForm _)).bookFormed (State.overdue_bookFormed hs)

/-! ### Tallies and allotments against the book (R87 to R92, R111 to R116) -/

/-- An entry with another part of the same revision stands for the entry. -/
theorem Entry.standsFor_withAllotPart {e : Entry} {p q : AllotPart} (hp : e.part = .apportioning p)
    (hq : q.revision = p.revision) : ({ e with part := .apportioning q } : Entry).StandsFor e := by
  refine ⟨rfl, rfl, .rfl, fun h => ⟨h.1, fun r hr => ?_⟩⟩
  obtain rfl : q = r := by simpa using hr
  rw [hq]
  exact h.2 p hp

theorem Entry.standsFor_withLinePart (e : Entry) (p : LinePart) :
    ({ e with part := .line p } : Entry).StandsFor e :=
  ⟨rfl, rfl, .rfl, fun h => ⟨h.1, fun _ hr => by simp at hr⟩⟩

/-- A struck entry revised by a tally below the last revision stands for the entry (R88). -/
theorem Entry.revised_withItems_standsFor {e : Entry} {p : AllotPart} (hp : e.part = .apportioning p) (hlt : p.revision < 3)
    (hs : e.state = .struck) (role : Role) (items : List ContributorItem) :
    ((e.withItems { p with revision := p.revision + 1 } role items).revised).StandsFor e := by
  refine ⟨rfl, rfl, .rfl, fun h => ⟨fun ho => ?_, fun q hq => ?_⟩⟩
  · have ho' : e.state = .opened := ho
    simp [hs] at ho'
  · obtain ⟨hrev, hle⟩ := h.2 p hp
    have hq' : ({ p with revision := p.revision + 1 } : AllotPart).withItems role items = q := by
      simpa [Entry.withItems, Entry.revised] using hq
    have hrevisions : ((e.withItems { p with revision := p.revision + 1 } role items).revised).revisions
        = min 15 (e.revisions + 1) := rfl
    rw [hrevisions, ← hq']
    simp only [AllotPart.withItems]
    omega

theorem Entry.revised_withShares_standsFor {e : Entry} (hs : e.state = .struck) (p : LinePart) (shares : List ShareItem) :
    ((e.withShares p shares).revised).StandsFor e := by
  refine ⟨rfl, rfl, .rfl, fun _ => ⟨fun ho => ?_, fun q hq => by simp [Entry.withShares, Entry.revised] at hq⟩⟩
  have ho' : e.state = .opened := ho
  simp [hs] at ho'

theorem State.dropLate_keepsForm (s : State) : s.KeepsForm s.dropLate := .of_eq rfl rfl rfl rfl

/-- An entry is put back into the book and then strikes, when the test holds. -/
theorem State.putAndStrike_keepsForm {s : State} (hs : s.book.formed) {e y : Entry} (he : e ∈ s.book.entries)
    (h : y.StandsFor e) (ho : e.state ≠ .opened) (test : Bool) :
    s.KeepsForm (if test then (s.putEntry y).strike y else s.putEntry y) := by
  have hput := State.putEntry_keepsForm hs he h
  split
  · refine hput.trans (State.strike_keepsForm (hput.formed hs) ?_ (ho ∘ h.opened.mp))
    exact List.mem_map.mpr ⟨e, he, by simp [h.number]⟩
  · exact hput

theorem State.reviseAllot_keepsForm {s : State} (hs : s.book.formed) {e : Entry} (he : e ∈ s.book.entries)
    {p : AllotPart} (hp : e.part = .apportioning p) (hlt : p.revision < 3) (hstruck : e.state = .struck)
    (role : Role) (n : Period) (station basis : Nat) : s.KeepsForm (s.reviseAllot role n e p station basis) := by
  have hput := State.putEntry_keepsForm hs he
    (Entry.revised_withItems_standsFor hp hlt hstruck role (receiveItem station basis p.items))
  refine (hput.trans ?_).trans (State.handOver_keepsForm _ _)
  exact .of_eq rfl rfl rfl rfl

theorem State.tallyToBook_keepsForm {s : State} (hs : s.book.formed) (f : Frame) : s.KeepsForm (s.tallyToBook f) := by
  unfold State.tallyToBook
  split
  · next c e hc he =>
    have hm := (State.held_some he).2
    split
    · exact .refl s
    · next p hp =>
      dsimp only
      have hlast : s.KeepsForm (s.updateLastBasis f.source.toNat (tallyBasis c.basis f)) := .of_eq rfl rfl rfl rfl
      refine hlast.trans ?_
      generalize hu : s.updateLastBasis f.source.toNat (tallyBasis c.basis f) = u
      have hm' : e ∈ u.book.entries := by rw [← hu]; exact hm
      have hs' : u.book.formed := by rw [← hu]; exact hs
      split
      · exact .refl u
      · next hstate =>
        unfold State.tallySettling
        refine State.putAndStrike_keepsForm hs' hm' (Entry.standsFor_withAllotPart hp ?_) (by simp [hstate]) _
        rfl
      · next hstate =>
        unfold State.tallyStruck
        split
        · exact .refl u
        · split
          · exact .refl u
          · split
            · next hlt => exact State.reviseAllot_keepsForm hs' hm' hp hlt hstate _ _ _ _
            · exact u.dropLate_keepsForm
  · exact s.dropLate_keepsForm

theorem State.reviseLine_keepsForm {s : State} (hs : s.book.formed) {e : Entry} (he : e ∈ s.book.entries)
    (hstruck : e.state = .struck) (p : LinePart) (old : ShareItem) (t : TakenShare) :
    s.KeepsForm (s.reviseLine e p old t) := by
  refine (State.putEntry_keepsForm hs he (Entry.revised_withShares_standsFor hstruck p
    (replaceShare (receivedItem old.station t) p.shares))).trans ?_
  exact .of_eq rfl rfl rfl rfl

theorem State.allotmentToBook_keepsForm {s : State} (hs : s.book.formed) (f : Frame) :
    s.KeepsForm (s.allotmentToBook f) := by
  unfold State.allotmentToBook
  split
  · exact s.dropLate_keepsForm
  · next e he =>
    have hm := (State.held_some he).2
    split
    · exact .refl s
    · next p hp =>
      split
      · exact .of_eq rfl rfl rfl rfl
      · next t _ =>
        split
        · exact .refl s
        · next i _ =>
          split
          · exact .refl s
          · next hstate =>
            have hstands := e.standsFor_withLinePart { p with shares := replaceShare (receivedItem i.station t) p.shares }
            unfold State.allotmentSettling
            dsimp only
            split
            · exact State.putAndStrike_keepsForm hs hm hstands (by simp [hstate]) _
            · split
              · exact State.putEntry_keepsForm hs hm hstands
              · exact .refl s
          · next hstate =>
            unfold State.allotmentStruck
            split
            · exact State.reviseLine_keepsForm hs hm hstate _ _ _
            · exact .refl s

theorem State.takeRecord_bookFormed {s : State} (hs : s.bookFormed) (n : Period) (station : Nat) {take : State → State}
    (htake : ∀ u : State, u.bookFormed → (take u).bookFormed) : (s.takeRecord n station take).bookFormed := by
  have hev := State.evidence_bookFormed hs n station
  rcases s.takeRecord_cases n station take with ⟨-, h⟩ | ⟨-, h⟩ <;> rw [h]
  · exact (State.dropLate_keepsForm _).bookFormed hev
  · exact htake _ hev

end Sys2Proof.Machine
end

section
/-! SUPPORT. What a command's outcome satisfies, said once for every invariant: the outcome of a step, of a received frame and of
a query. -/

namespace Sys2Proof.Machine

open Sys2Proof

/-- Every next state that the outcome can be satisfies P. -/
def EndsIn (P : State → Prop) (o : Host.Outcome State Fault Refusal) : Prop := ∀ t, o = .next t → P t

theorem EndsIn.next {P : State → Prop} {u : State} (h : P u) : EndsIn P (.next u) := by
  rintro t ⟨⟩; exact h

theorem EndsIn.ite {P : State → Prop} {test : Prop} [Decidable test] {u v : State} (hu : test → P u) (hv : P v) :
    EndsIn P (.next (if test then u else v)) := by
  refine .next ?_
  split
  · next h => exact hu h
  · exact hv

theorem EndsIn.mono {P Q : State → Prop} {o : Host.Outcome State Fault Refusal} (h : EndsIn P o) (hPQ : ∀ t, P t → Q t) :
    EndsIn Q o := fun t ht => hPQ t (h t ht)

/-- What every command keeps and no waiting command changes, every step keeps. -/
theorem step_keeps {P : State → Prop} (hpending : ∀ (s : State) (rest : List Instr), P s → P { s with pending := rest })
    (hexec : ∀ (i : Instr) (s : State), P s → EndsIn P (exec i s)) {s t : State} (hs : P s) (h : step s = .next t) : P t := by
  unfold step at h
  split at h
  · obtain rfl : s = t := by simpa using h
    exact hs
  · next c rest _ => exact hexec c _ (hpending s rest hs) t h

/-- What holds of each end of the receive path holds after a received frame (R130, R145 to R148). -/
theorem State.receive_keeps {P : State → Prop} {s : State} {row : FrameRow} {ch : Chan} {f : Frame} {k : State → State}
    (hs : P s) (herror : P (s.receiveError ch)) (hformat : P (s.hearFrame ch).formatError) (hhear : P (s.hearFrame ch))
    (hheard : P (s.heard ch f)) (hk : P (k (s.heard ch f))) : P (s.receive row ch f k) := by
  rcases s.receive_cases row ch f k with h | h | h | h | ⟨h, -⟩ | ⟨h, -⟩ <;> rw [h] <;> assumption

/-- What holds after a query is refused and after it is handled holds after it (R161). -/
theorem State.query_keeps {P : State → Prop} {s : State} {f : Frame} {k : State → State}
    (hrefused : P (s.countQuery.countUnknown f .notReady)) (hk : P (k s.countQuery)) : P (s.query f k) := by
  rcases s.query_cases f k with ⟨-, h⟩ | ⟨-, h⟩ <;> rw [h] <;> assumption

end Sys2Proof.Machine
end

section
/-! SUPPORT. Every command keeps the form of the book (R2, R61, R62). -/

namespace Sys2Proof.Machine

open Sys2Proof

/-- A step that flags the open entry, or does not, and leaves the rest keeps the form. -/
theorem State.KeepsForm.of_flagged {s t : State} (hl : t.loader = s.loader) (hc : t.settings = s.settings)
    (ha : t.time = s.time) (test : Prop) [Decidable test] (f : EntryFlags → EntryFlags)
    (he : t.book.entries = flagOpenedIf test f s.book.entries) : s.KeepsForm t := by
  refine ⟨by rw [hl], hc, by rw [ha], _, he, fun e _ => ?_⟩
  split
  · exact e.standsFor_flags _
  · exact .refl e

/-- A received frame keeps the form when what its block does keeps it. -/
theorem State.receive_keepsForm {s : State} (row : FrameRow) (ch : Chan) (f : Frame) {k : State → State}
    (hk : ∀ u : State, u.KeepsForm (k u)) : s.KeepsForm (s.receive row ch f k) := by
  have hheard : s.KeepsForm (s.heard ch f) := .of_eq rfl rfl rfl rfl
  exact State.receive_keeps (.refl s) (.of_eq rfl rfl rfl rfl) (.of_eq rfl rfl rfl rfl) (.of_eq rfl rfl rfl rfl) hheard
    (hheard.trans (hk _))

theorem State.query_keepsForm {s : State} (f : Frame) {k : State → State} (hk : ∀ u : State, u.KeepsForm (k u)) :
    s.KeepsForm (s.query f k) := by
  have hcount : s.KeepsForm s.countQuery := .of_eq rfl rfl rfl rfl
  exact State.query_keeps (hcount.trans (.of_eq rfl rfl rfl rfl)) (hcount.trans (hk _))

/-! ### Measurement -/

theorem State.setLevel_keepsForm (s : State) (line : Fin 8) (edge : Edge) : s.KeepsForm (s.setLevel line edge) :=
  .of_eq rfl rfl rfl rfl

theorem State.deliver_keepsForm (s : State) (c : Settings) (source : ChannelSource) (amount : Nat) :
    s.KeepsForm (s.deliver c source amount) := by
  rcases s.deliver_cases c source amount with ⟨-, h⟩ | ⟨i, -, h⟩ <;> rw [h]
  · exact .refl s
  · exact .of_flagged (by simp) (by simp) (by simp) _ _ (by rw [State.creditChannel_eq])

theorem State.energyPulse_keepsForm (s : State) (line : Fin 8) : s.KeepsForm (s.energyPulse line) := by
  unfold State.energyPulse
  split
  · exact .refl s
  · exact s.deliver_keepsForm _ _ _

theorem State.saturateIf_keepsForm (s : State) (test : Bool) : s.KeepsForm (s.saturateIf test) := by
  rw [State.saturateIf_eq]
  exact .of_flagged rfl rfl rfl _ _ rfl

theorem State.cutPulse_keepsForm (s : State) : s.KeepsForm s.cutPulse := by
  refine .trans ?_ (State.saturateIf_keepsForm _ _)
  exact .of_eq rfl rfl rfl rfl

theorem State.rejectPulse_keepsForm (s : State) : s.KeepsForm s.rejectPulse := by
  refine .trans ?_ (State.saturateIf_keepsForm _ _)
  exact .of_eq rfl rfl rfl rfl

theorem State.refreshAlerts_keepsForm (s : State) : s.KeepsForm s.refreshAlerts := .of_eq rfl rfl rfl rfl

theorem State.faultChange_keepsForm (s : State) (line : Fin 8) (edge : Edge) : s.KeepsForm (s.faultChange line edge) := by
  unfold State.faultChange
  dsimp only
  split
  · exact ((s.setLevel_keepsForm line edge).trans (State.flagOpen_keepsForm _ _)).trans (State.refreshAlerts_keepsForm _)
  · exact (s.setLevel_keepsForm line edge).trans (State.refreshAlerts_keepsForm _)

/-! ### The meter port -/

theorem State.takeReading_keepsForm (s : State) (c : Settings) (m : Fin 8) (setup : MeterSetup) (delta : Nat) :
    s.KeepsForm (s.takeReading c m setup delta) := by
  rcases s.takeReading_cases c m setup delta with ⟨-, h⟩ | ⟨-, h⟩ <;> rw [h]
  · exact s.deliver_keepsForm _ _ _
  · exact (s.flagOpen_keepsForm _).trans (.of_eq rfl rfl rfl rfl)

theorem State.takeAlarm_keepsForm (s : State) (alarm : Bool) : s.KeepsForm (s.takeAlarm alarm) := by
  rw [State.takeAlarm_eq]
  exact .of_flagged rfl rfl rfl _ _ rfl

theorem State.goodPoll_keepsForm (s : State) (c : Settings) (m : Fin 8) (setup : MeterSetup) (value : Nat) (alarm : Bool) :
    s.KeepsForm (s.goodPoll c m setup value alarm) := by
  have hend (t : State) : t.KeepsForm ((t.setMeter m (goodEntry value alarm)).takeAlarm alarm).refreshAlerts := by
    have hset : t.KeepsForm (t.setMeter m (goodEntry value alarm)) := .of_eq rfl rfl rfl rfl
    exact (hset.trans (State.takeAlarm_keepsForm _ _)).trans (State.refreshAlerts_keepsForm _)
  unfold State.goodPoll
  dsimp only
  refine .trans ?_ (hend _)
  split
  · exact .refl s
  · split
    · exact (s.flagOpen_keepsForm _).trans (State.takeReading_keepsForm _ _ _ _ _)
    · exact s.takeReading_keepsForm _ _ _ _

theorem State.pollFails_keepsForm (s : State) (c : Settings) (m : Fin 8) : s.KeepsForm (s.pollFails c m) := by
  unfold State.pollFails State.failPoll
  dsimp only
  split
  · exact (State.KeepsForm.trans (.of_eq rfl rfl rfl rfl) (State.flagOpen_keepsForm _ _)).trans (.of_eq rfl rfl rfl rfl)
  · exact .of_eq rfl rfl rfl rfl

theorem State.judgeReply_keepsForm (s : State) (reply : MeterReply) : s.KeepsForm (s.judgeReply reply) := by
  have harrived : s.KeepsForm s.byteArrived := .of_eq rfl rfl rfl rfl
  unfold State.judgeReply
  split
  · split
    · dsimp only
      split
      · exact (harrived.trans (State.goodPoll_keepsForm _ _ _ _ _ _)).trans (.of_eq rfl rfl rfl rfl)
      · exact harrived.trans (State.pollFails_keepsForm _ _ _)
    · exact .refl s
  · exact .refl s

/-! ### Requests -/

theorem State.answerOrder_keepsForm (s : State) (f : Frame) (outcome : RequestOutcome) (body : List Byte) :
    s.KeepsForm (s.answerOrder f outcome body) := .of_eq (by simp) (by simp) (by simp) (by simp)

theorem State.refuse_keepsForm (s : State) (f : Frame) (outcome : RequestOutcome) : s.KeepsForm (s.refuse f outcome) :=
  .of_eq (by simp) (by simp) (by simp) (by simp)

theorem State.takeZero_keepsForm (s : State) (f : Frame) : s.KeepsForm (s.takeZero f) := by
  unfold State.takeZero
  split
  · exact s.refuse_keepsForm f _
  · refine .trans ?_ (State.answerOrder_keepsForm _ _ _ _)
    exact .of_eq rfl rfl rfl rfl

theorem State.takeJob_keepsForm (s : State) (f : Frame) : s.KeepsForm (s.takeJob f) := by
  unfold State.takeJob
  split
  · exact s.refuse_keepsForm f _
  · have hjob : s.KeepsForm { s.countAccepted with bank := { s.bank with job := orderJob f } } := .of_eq rfl rfl rfl rfl
    exact (hjob.trans (State.flagOpen_keepsForm _ _)).trans (State.answerOrder_keepsForm _ _ _ _)

theorem State.unknownRequest_keepsForm (s : State) (f : Frame) :
    s.KeepsForm (if isOrder f then s.unknownOrder f else s.unknownQuery f) := by
  split
  · unfold State.unknownOrder
    split
    · exact s.refuse_keepsForm f _
    · exact .of_eq (by simp) (by simp) (by simp) (by simp)
  · exact State.query_keepsForm f fun u => .of_eq (by simp) (by simp) (by simp) (by simp)

/-! ### Start-up -/

/-- While the loader has not ended nothing is loaded: the state is LOADING and the book empty (R2). -/
theorem State.phaseFits.loading {s : State} (hs : s.phaseFits) (h : s.loader.phase ≠ .ended) :
    s.time.accounting = .loading ∧ s.settings = none ∧ s.book.entries = [] := by
  unfold State.phaseFits at hs
  split at hs
  · next ha => exact ⟨ha, hs.2⟩
  · exact absurd hs.1 h
  · exact absurd hs.1 h
  · exact absurd hs.1 h

theorem Book.formed_of_empty {b : Book} (h : b.entries = []) : b.formed := by
  simp [Book.formed, h]

/-- A step within LOADING leaves the empty book of LOADING. -/
theorem State.bookFormed_of_loading {t : State} (ha : t.time.accounting = .loading) (hp : t.loader.phase ≠ .ended)
    (hc : t.settings = none) (he : t.book.entries = []) : t.bookFormed := by
  refine ⟨Book.formed_of_empty he, ?_⟩
  unfold State.phaseFits
  rw [ha]
  exact ⟨hp, hc, he⟩

theorem State.attemptFails_bookFormed {s : State} (hs : s.bookFormed) (h : s.loader.phase = .reading) :
    s.loadFails.bookFormed ∧ s.attemptFails.bookFormed := by
  obtain ⟨ha, hc, he⟩ := hs.2.loading (by simp [h])
  have hfails : s.loadFails.bookFormed := ⟨Book.formed_of_empty he, rfl, hc, he⟩
  refine ⟨hfails, ?_⟩
  unfold State.attemptFails
  split
  · exact hfails
  · exact State.bookFormed_of_loading ha (by simp) hc he

/-- An entry opened without a number in an empty book is alone in it, whether or not a zero is pending. -/
theorem State.openNew_none_of_empty {s : State} {c : Settings} (hc : s.settings = some c) (he : s.book.entries = [])
    (cause : Cause) : ∃ u : State, (s.openNew none cause).book.entries = [newEntry u c none cause] := by
  have hevict : s.evict = s := by simp [State.evict, he, Config.bookSize]
  unfold State.openNew
  simp only [hevict, State.removeNumber]
  split
  · exact ⟨s.zeroBoundary, by simp [State.addEntry, hc, he, State.zeroBoundary]⟩
  · exact ⟨s, by simp [State.addEntry, hc, he]⟩

theorem State.loadSucceeds_bookFormed {s : State} (hs : s.bookFormed) (h : s.loader.phase = .reading) (image : List Byte)
    (role : Role) (now : Nat) : (s.loadSucceeds image role now).bookFormed := by
  obtain ⟨-, -, he⟩ := hs.2.loading (by simp [h])
  let own := settleOwn image s.loader.straps
  let c := settingsOf image role own
  let u := s.configure c own (imageClamped image role own) image now
  obtain ⟨v, hv⟩ := State.openNew_none_of_empty (s := u) (c := c) rfl he .start
  have hent : (s.loadSucceeds image role now).book.entries = [newEntry v c none .start] := hv
  refine ⟨?_, ?_⟩
  · unfold Book.formed
    rw [hent]
    have hrev : (newEntry v c none .start).revisionsAgree := by
      refine ⟨fun _ => rfl, fun p hp => ?_⟩
      have hpart : openPart c = .apportioning p := hp
      unfold openPart at hpart
      cases hr : c.role <;> simp [hr] at hpart <;> simp [← hpart, newEntry]
    exact ⟨by simp [Config.bookSize], by simp, by simp, by simp, by simp [newEntry], by simpa using hrev⟩
  · have hacc : (s.loadSucceeds image role now).time.accounting = .starting :=
      (u.openNew_accounting none .start).trans rfl
    have hloader : (s.loadSucceeds image role now).loader = u.loader := u.openNew_loader none .start
    have hsettings : (s.loadSucceeds image role now).settings = some c := u.openNew_settings none .start
    unfold State.phaseFits
    rw [hacc, hloader, hsettings, hent]
    exact ⟨rfl, rfl, _, rfl, rfl, rfl⟩

/-! ### The commands -/

/-- A received frame leaves the book formed when what its block does leaves it formed. -/
theorem State.receive_bookFormed {s : State} (hs : s.bookFormed) (row : FrameRow) (ch : Chan) (f : Frame)
    {k : State → State} (hk : ∀ u : State, u.bookFormed → (k u).bookFormed) : (s.receive row ch f k).bookFormed := by
  have keep {u : State} (h : s.KeepsForm u) : u.bookFormed := h.bookFormed hs
  have hheard : (s.heard ch f).bookFormed := keep (.of_eq rfl rfl rfl rfl)
  exact State.receive_keeps hs (keep (.of_eq rfl rfl rfl rfl)) (keep (.of_eq rfl rfl rfl rfl)) (keep (.of_eq rfl rfl rfl rfl))
    hheard (hk _ hheard)

section
variable (s : State)

theorem execLossWatchExpiry_keepsForm : EndsIn s.KeepsForm (execLossWatchExpiry s) := by
  have hfall : s.KeepsForm { s with time := { s.time with source := .fallback, lossWatch := false, timebase := true } } :=
    .of_eq rfl rfl rfl rfl
  exact .ite (fun _ => (hfall.trans (State.flagOpen_keepsForm _ _)).trans (State.refreshAlerts_keepsForm _)) (.refl s)

theorem execDebouncedEdge_keepsForm (line : Fin 8) (edge : Edge) (time : Nat) :
    EndsIn s.KeepsForm (execDebouncedEdge line edge time s) :=
  .ite (fun _ => .of_eq (by simp) (by simp) (by simp) (by simp)) (.refl s)

theorem execMeterLineQuiet_keepsForm (elapsed : Nat) : EndsIn s.KeepsForm (execMeterLineQuiet elapsed s) := by
  refine .next ?_
  split
  · exact .refl s
  · exact .of_eq (by simp) (by simp) (by simp) (by simp)

theorem execQuietWaitTimeout_keepsForm : EndsIn s.KeepsForm (execQuietWaitTimeout s) := by
  unfold execQuietWaitTimeout
  split
  · exact .ite (fun _ => s.pollFails_keepsForm _ _) (.refl s)
  · exact .next (.refl s)

theorem execRequestSent_keepsForm : EndsIn s.KeepsForm (execRequestSent s) := by
  unfold execRequestSent
  split
  · exact .next (.of_eq rfl rfl rfl rfl)
  · exact .next (.refl s)

theorem execReplyWindowClose_keepsForm (window : WindowEnd) : EndsIn s.KeepsForm (execReplyWindowClose window s) := by
  unfold execReplyWindowClose
  split
  · refine .ite (fun _ => .trans ?_ (State.pollFails_keepsForm _ _ _)) (.refl s)
    exact .of_eq rfl rfl rfl rfl
  · exact .next (.refl s)

theorem execStrayMeterByte_keepsForm (byte : Option Byte) : EndsIn s.KeepsForm (execStrayMeterByte byte s) := by
  refine .next ?_
  split
  · exact .refl s
  · exact .of_eq rfl rfl rfl rfl

theorem execFrameBegin_keepsForm (ch : Chan) (elapsed : Nat) : EndsIn s.KeepsForm (execFrameBegin ch elapsed s) := by
  refine .next ?_
  split
  · exact .refl s
  · exact .of_eq (by simp) (by simp) (by simp) (by simp)

theorem execDefer_keepsForm (ch : Chan) : EndsIn s.KeepsForm (execDefer ch s) := by
  refine .next ?_
  split
  · exact .refl s
  · exact .of_eq rfl rfl rfl rfl

theorem execFrameGoneOutWhole_keepsForm (ch : Chan) : EndsIn s.KeepsForm (execFrameGoneOutWhole ch s) := by
  unfold execFrameGoneOutWhole
  split
  · exact .next (.refl s)
  · refine .next ?_
    split
    · exact .refl s
    · exact .of_eq rfl rfl rfl rfl

theorem execEchoMismatch_keepsForm (ch : Chan) : EndsIn s.KeepsForm (execEchoMismatch ch s) := by
  unfold execEchoMismatch
  split
  · exact .next (.refl s)
  · refine .next ?_
    split
    · exact .refl s
    · split <;> exact .of_eq rfl rfl rfl rfl

theorem execInhibitActive_keepsForm (ch : Chan) : EndsIn s.KeepsForm (execInhibitActive ch s) := by
  refine .next ?_
  split
  · exact .refl s
  · exact .of_eq rfl rfl rfl rfl

theorem execInhibitedFrameEnd_keepsForm (ch : Chan) : EndsIn s.KeepsForm (execInhibitedFrameEnd ch s) := by
  unfold execInhibitedFrameEnd
  split
  · exact .next (.refl s)
  · exact .ite (fun _ => .of_eq rfl rfl rfl rfl) (.refl s)

/-- A query of the book or the station changes no entry. -/
theorem State.answerQuery_keepsForm (row : FrameRow) (ch : Chan) (f : Frame) {k : State → State}
    (hl : ∀ u, (k u).loader = u.loader) (hc : ∀ u, (k u).settings = u.settings) (ht : ∀ u, (k u).time = u.time)
    (hb : ∀ u, (k u).book = u.book) : EndsIn s.KeepsForm (.next (s.receive row ch f fun t => t.query f k)) :=
  .next (State.receive_keepsForm _ _ _ fun _ => State.query_keepsForm _ fun v =>
    .of_eq (hl v) (hc v) (by rw [ht]) (by rw [hb]))

end

section
variable {s : State} (hs : s.bookFormed)
include hs

theorem execResetRelease_bookFormed (straps : Straps) (levels : Vector Level 8) (inhibitA inhibitB : Bool) :
    EndsIn State.bookFormed (execResetRelease straps levels inhibitA inhibitB s) := by
  refine .ite (fun h => ?_) hs
  have hp : s.loader.phase ≠ .ended := by simp [show s.loader.phase = .held by simpa [State.inReset] using h]
  obtain ⟨ha, hc, he⟩ := hs.2.loading hp
  exact State.bookFormed_of_loading ha (by simp) hc he

theorem execImageReadAttempt_bookFormed (memory : List Byte) (now : Nat) :
    EndsIn State.bookFormed (execImageReadAttempt memory now s) := by
  refine .ite (fun h => ?_) hs
  obtain ⟨hfails, hattempt⟩ := State.attemptFails_bookFormed hs h
  split
  · split
    · exact State.loadSucceeds_bookFormed hs h _ _ _
    · exact hfails
  · exact hattempt

theorem execRetryWaitEnd_bookFormed : EndsIn State.bookFormed (execRetryWaitEnd s) := by
  refine .ite (fun h => ?_) hs
  obtain ⟨ha, hc, he⟩ := hs.2.loading (by simp [h])
  exact State.bookFormed_of_loading ha (by simp) hc he

theorem execInternalSecond_bookFormed : EndsIn State.bookFormed (execInternalSecond s) := by
  refine .next ?_
  split
  · exact hs
  · exact State.baseTick_bookFormed hs

theorem execPeriodExpiry_bookFormed : EndsIn State.bookFormed (execPeriodExpiry s) := by
  refine .ite (fun h => ?_) hs
  obtain ⟨c, -, ha, -⟩ := s.expiryDue_iff.mp h
  exact State.ownExpiry_bookFormed hs ha

theorem execSoloWaitEnd_bookFormed : EndsIn State.bookFormed (execSoloWaitEnd s) := by
  refine .ite (fun h => ?_) hs
  obtain ⟨c, -, ha, -⟩ := s.soloDue_iff.mp h
  exact State.soloEnd_bookFormed hs ha

theorem execWaitTimerExpiry_keepsForm (number : Period) : EndsIn s.KeepsForm (execWaitTimerExpiry number s) := by
  unfold execWaitTimerExpiry
  split
  · next c e _ he =>
    refine .ite (fun h => ?_) (.refl s)
    have hstate : e.state = .settling := by
      simp only [Entry.waitOver, Bool.and_eq_true, beq_iff_eq] at h; exact h.1
    exact State.strike_keepsForm hs.1 (State.held_some he).2 (by simp [hstate])
  · exact .next (.refl s)

/-- Every command leaves a well-formed book well formed and fitting the accounting state. -/
theorem exec_bookFormed (i : Instr) : EndsIn State.bookFormed (exec i s) := by
  have keeps {o : Host.Outcome State Fault Refusal} (h : EndsIn s.KeepsForm o) : EndsIn State.bookFormed o :=
    h.mono fun t ht => ht.bookFormed hs
  cases i with
  | hardwareReset => exact .next (State.bookFormed_of_loading rfl (by simp [State.reset, Loader.atReset]) rfl rfl)
  | resetRelease straps levels inhibitA inhibitB => exact execResetRelease_bookFormed hs straps levels inhibitA inhibitB
  | imageReadAttempt memory now => exact execImageReadAttempt_bookFormed hs memory now
  | retryWaitEnd => exact execRetryWaitEnd_bookFormed hs
  | internalSecond => exact execInternalSecond_bookFormed hs
  | secondPulse line =>
    exact .ite (fun _ => State.secondPulse_bookFormed ((s.setLevel_keepsForm _ _).bookFormed hs)) hs
  | lossWatchExpiry => exact keeps (execLossWatchExpiry_keepsForm s)
  | periodExpiry => exact execPeriodExpiry_bookFormed hs
  | soloWaitEnd => exact execSoloWaitEnd_bookFormed hs
  | sampleTick => exact keeps (.ite (fun _ => s.takeSample_keepsForm) (.refl s))
  | waitTimerExpiry number => exact keeps (execWaitTimerExpiry_keepsForm hs number)
  | alertPulseEnd alert => cases alert <;> exact keeps (.next (.of_eq rfl rfl rfl rfl))
  | energyPulse line =>
    exact keeps (.ite (fun _ => (s.setLevel_keepsForm _ _).trans (State.energyPulse_keepsForm _ _)) (.refl s))
  | cutPulse line => exact keeps (.ite (fun _ => (s.setLevel_keepsForm _ _).trans (State.cutPulse_keepsForm _)) (.refl s))
  | rejectPulse line => exact keeps (.ite (fun _ => (s.setLevel_keepsForm _ _).trans (State.rejectPulse_keepsForm _)) (.refl s))
  | runningLevelChange line edge => exact keeps (.ite (fun _ => s.setLevel_keepsForm _ _) (.refl s))
  | faultLevelChange line edge => exact keeps (.ite (fun _ => s.faultChange_keepsForm _ _) (.refl s))
  | debouncedEdge line edge time => exact keeps (execDebouncedEdge_keepsForm s line edge time)
  | meterLineQuiet elapsed => exact keeps (execMeterLineQuiet_keepsForm s elapsed)
  | quietWaitTimeout => exact keeps (execQuietWaitTimeout_keepsForm s)
  | requestSent => exact keeps (execRequestSent_keepsForm s)
  | replyReceived reply => exact keeps (.next (s.judgeReply_keepsForm reply))
  | replyWindowClose window => exact keeps (execReplyWindowClose_keepsForm s window)
  | strayMeterByte byte => exact keeps (execStrayMeterByte_keepsForm s byte)
  | frameBegin ch elapsed => exact keeps (execFrameBegin_keepsForm s ch elapsed)
  | defer ch => exact keeps (execDefer_keepsForm s ch)
  | frameGoneOutWhole ch => exact keeps (execFrameGoneOutWhole_keepsForm s ch)
  | echoMismatch ch => exact keeps (execEchoMismatch_keepsForm s ch)
  | inhibitActive ch => exact keeps (execInhibitActive_keepsForm s ch)
  | inhibitReleased ch => exact keeps (.ite (fun _ => .of_eq rfl rfl rfl rfl) (.refl s))
  | receiveError ch raw => exact keeps (.ite (fun _ => .of_eq rfl rfl rfl rfl) (.refl s))
  | bitRateFixed ch rate => exact keeps (.ite (fun _ => .of_eq rfl rfl rfl rfl) (.refl s))
  | mark ch frame => exact .next (State.receive_bookFormed hs _ _ _ fun _ hu => State.heardMark_bookFormed hu _ _)
  | tally ch frame =>
    exact .next (State.receive_bookFormed hs _ _ _ fun _ hu => State.takeRecord_bookFormed hu _ _ fun _ hv =>
      (State.tallyToBook_keepsForm hv.1 frame).bookFormed hv)
  | allotment ch frame =>
    exact .next (State.receive_bookFormed hs _ _ _ fun _ hu => State.takeRecord_bookFormed hu _ _ fun _ hv =>
      (State.allotmentToBook_keepsForm hv.1 frame).bookFormed hv)
  | answerHeard ch frame => exact .next (State.receive_bookFormed hs _ _ _ fun _ hu => hu)
  | queryResult ch frame =>
    exact keeps (State.answerQuery_keepsForm s _ _ _ (by simp) (by simp) (by simp) (by simp))
  | queryLatest ch frame =>
    exact keeps (State.answerQuery_keepsForm s _ _ _ (by simp) (by simp) (by simp) (by simp))
  | queryCampaign ch frame =>
    exact keeps (State.answerQuery_keepsForm s _ _ _ (by simp) (by simp) (by simp) (by simp))
  | queryCondition ch frame =>
    exact keeps (.next (State.receive_keepsForm _ _ _ fun _ => .of_eq (by simp) (by simp) (by simp) (by simp)))
  | queryChannels ch frame =>
    exact keeps (State.answerQuery_keepsForm s _ _ _ (by simp) (by simp) (by simp) (by simp))
  | unknownRequest ch frame => exact keeps (.next (State.receive_keepsForm _ _ _ fun u => u.unknownRequest_keepsForm frame))
  | orderZero ch frame => exact keeps (.next (State.receive_keepsForm _ _ _ fun u => u.takeZero_keepsForm frame))
  | orderJob ch frame => exact keeps (.next (State.receive_keepsForm _ _ _ fun u => u.takeJob_keepsForm frame))
  | receiverStart ch => exact keeps (.ite (fun _ => .of_eq rfl rfl rfl rfl) (.refl s))
  | inhibitedFrameEnd ch => exact keeps (execInhibitedFrameEnd_keepsForm s ch)

end

/-- Settles O57: by the commands that keep the form of the book and those that make it anew, a boundary and a load. -/
theorem stepKeepsTheBookFormed : Obligations.StepKeepsTheBookFormed := by
  unfold Obligations.StepKeepsTheBookFormed
  intro s t hs h
  refine step_keeps (fun u _ hu => ?_) (fun i u hu => exec_bookFormed hu i) hs h
  exact (State.KeepsForm.of_eq (s := u) rfl rfl rfl rfl).bookFormed hu

end Sys2Proof.Machine
end

section
/-! SUPPORT. Every command keeps the station counters within their range (R15, R16, R58, R74, R151, R167). -/

namespace Sys2Proof.Machine

open Sys2Proof

/-! ### The counters of each block -/

/-- The two counters of period control are within their range (R15, R16). -/
def TimeBase.countersHold (t : TimeBase) : Prop := t.skipped ≤ Config.counterLimit ∧ t.stale ≤ Config.counterLimit

/-- The four counters of the request handler are within their range (R167). -/
def Requests.countersHold (r : Requests) : Prop :=
  r.queries ≤ Config.counterLimit ∧ r.accepted ≤ Config.counterLimit ∧ r.refused ≤ Config.counterLimit
    ∧ r.unknown ≤ Config.counterLimit

/-- The five counters of the link controller are within their range (R151). -/
def Link.countersHold (l : Link) : Prop :=
  l.a.errors ≤ Config.counterLimit ∧ l.b.errors ≤ Config.counterLimit ∧ l.formatErrors ≤ Config.counterLimit
    ∧ l.overflow ≤ Config.counterLimit ∧ l.unsent ≤ Config.counterLimit

/-- The three counters of the meter port are within their range (R58). -/
def MeterPort.countersHold (m : MeterPort) : Prop :=
  m.overruns ≤ Config.counterLimit ∧ m.failedPolls ≤ Config.counterLimit ∧ m.discontinuities ≤ Config.counterLimit

theorem State.countersHold_iff (s : State) : s.countersHold ↔
    s.time.countersHold ∧ s.book.late ≤ Config.counterLimit ∧ s.requests.countersHold ∧ s.link.countersHold
      ∧ s.meter.countersHold := by
  simp only [State.countersHold, TimeBase.countersHold, Requests.countersHold, Link.countersHold, MeterPort.countersHold,
    List.forall_mem_cons, List.not_mem_nil, false_implies, implies_true, and_true]
  tauto

/-- The step from s to t keeps the counters of every block within their range. -/
structure State.KeepsCounters (s t : State) : Prop where
  time : s.time.countersHold → t.time.countersHold
  late : s.book.late ≤ Config.counterLimit → t.book.late ≤ Config.counterLimit
  requests : s.requests.countersHold → t.requests.countersHold
  link : s.link.countersHold → t.link.countersHold
  meter : s.meter.countersHold → t.meter.countersHold

theorem State.KeepsCounters.countersHold {s t : State} (h : s.KeepsCounters t) (hs : s.countersHold) : t.countersHold := by
  rw [State.countersHold_iff] at hs ⊢
  obtain ⟨htime, hlate, hrequests, hlink, hmeter⟩ := hs
  exact ⟨h.time htime, h.late hlate, h.requests hrequests, h.link hlink, h.meter hmeter⟩

theorem State.KeepsCounters.refl (s : State) : s.KeepsCounters s := ⟨id, id, id, id, id⟩

theorem State.KeepsCounters.trans {s t u : State} (h : s.KeepsCounters t) (k : t.KeepsCounters u) : s.KeepsCounters u :=
  ⟨k.time ∘ h.time, k.late ∘ h.late, k.requests ∘ h.requests, k.link ∘ h.link, k.meter ∘ h.meter⟩

/-- A step that may be left out keeps the counters when it is taken, if it keeps them. -/
theorem State.KeepsCounters.ite {s t : State} (test : Prop) [Decidable test] (h : s.KeepsCounters t) :
    s.KeepsCounters (if test then t else s) := by
  split
  · exact h
  · exact .refl s

/-! ### The link controller -/

/-- What changes no counter of the link leaves them within their range. -/
theorem Link.countersHold_congr {l k : Link} (ha : k.a.errors = l.a.errors) (hb : k.b.errors = l.b.errors)
    (hf : k.formatErrors = l.formatErrors) (ho : k.overflow = l.overflow) (hu : k.unsent = l.unsent) :
    k.countersHold ↔ l.countersHold := by
  simp only [Link.countersHold, ha, hb, hf, ho, hu]

@[simp] theorem Link.recount_countersHold (old l : Link) : (Link.recount old l).countersHold ↔ l.countersHold :=
  Link.countersHold_congr (by simp [Link.recount]) (by simp [Link.recount]) rfl rfl rfl

@[simp] theorem LinkChannel.supersede_errors (c : LinkChannel) (mark : Queued → Bool) (queue : List Queued) :
    (c.supersede mark queue).errors = c.errors := by
  rw [LinkChannel.supersede_eq]

@[simp] theorem LinkChannel.withdraw_errors (c : LinkChannel) (queue : List Queued) : (c.withdraw queue).errors = c.errors := by
  rw [LinkChannel.withdraw_eq]

@[simp] theorem Link.enter_countersHold (l : Link) (r : Record) : (l.enter r).countersHold ↔ l.countersHold := by
  rw [Link.enter, Link.recount_countersHold]; rfl

@[simp] theorem Link.purge_countersHold (l : Link) : l.purge.countersHold ↔ l.countersHold := .rfl

@[simp] theorem Link.remove_countersHold (l : Link) (seq : Nat) : (l.remove seq).countersHold ↔ l.countersHold := by
  rw [Link.remove, Link.recount_countersHold]; rfl

theorem Link.countersHold.unsent {l : Link} (h : l.countersHold) (k : Nat) :
    ({ l with unsent := grow l.unsent k } : Link).countersHold := by
  obtain ⟨ha, hb, hf, ho, -⟩ := h
  exact ⟨ha, hb, hf, ho, grow_le _ _⟩

theorem Link.countersHold.overflow {l : Link} (h : l.countersHold) (k : Nat) :
    ({ l with overflow := grow l.overflow k } : Link).countersHold := by
  obtain ⟨ha, hb, hf, -, hu⟩ := h
  exact ⟨ha, hb, hf, grow_le _ _, hu⟩

theorem Link.replaceMark_countersHold {l : Link} (h : l.countersHold) (r : Record) : (l.replaceMark r).countersHold := by
  unfold Link.replaceMark
  dsimp only
  obtain ⟨ha, hb, hf, ho, hu⟩ := h
  rw [Link.recount_countersHold, Link.purge_countersHold]
  refine ⟨by simpa using ha, by simpa using hb, hf, ho, ?_⟩
  dsimp only
  split
  · exact grow_le _ _
  · exact hu

theorem Link.handOver_countersHold {l : Link} (h : l.countersHold) (listenOnly : Bool) (r : Record) :
    (l.handOver listenOnly r).1.countersHold := by
  rcases l.handOver_cases listenOnly r with ⟨-, he⟩ | ⟨-, -, -, he⟩ | ⟨-, -, -, -, he⟩ | ⟨-, -, -, -, -, he⟩ |
    ⟨q, -, -, -, -, -, -, he⟩ <;> rw [he]
  · exact h.unsent 1
  · exact Link.replaceMark_countersHold h r
  · simpa using h
  · exact h.overflow 1
  · simpa using h.overflow 1

@[simp] theorem Link.withdrawMark_countersHold (l : Link) : l.withdrawMark.countersHold ↔ l.countersHold := by
  simp [Link.withdrawMark, Link.countersHold, Link.purge, Link.recount]

/-- A channel that keeps its receive errors is set. -/
theorem Link.countersHold.setChan {l : Link} (h : l.countersHold) {ch : Chan} {c : LinkChannel}
    (hc : c.errors = (l.chan ch).errors) : (l.setChan ch c).countersHold := by
  cases ch
  · exact (Link.countersHold_congr (l := l) (k := l.setChan .a c) hc rfl rfl rfl rfl).mpr h
  · exact (Link.countersHold_congr (l := l) (k := l.setChan .b c) rfl hc rfl rfl rfl).mpr h

/-- A channel's receive errors have grown. -/
theorem Link.countersHold.setChan_grow {l : Link} (h : l.countersHold) {ch : Chan} {c : LinkChannel}
    (hc : c.errors ≤ Config.counterLimit) : (l.setChan ch c).countersHold := by
  obtain ⟨ha, hb, hf, ho, hu⟩ := h
  cases ch
  · exact ⟨hc, hb, hf, ho, hu⟩
  · exact ⟨ha, hc, hf, ho, hu⟩

theorem Link.countersHold.afterFrame {l : Link} (h : l.countersHold) {ch : Chan} {c : LinkChannel}
    (hc : c.errors = (l.chan ch).errors) (released : Bool) (seq : Nat) :
    (l.afterFrame ch c released seq).countersHold := by
  have hset : (l.setChan ch c.endFrame).countersHold := h.setChan hc
  unfold Link.afterFrame
  rw [Link.recount_countersHold, Link.purge_countersHold]
  cases released <;> exact hset

theorem Link.countersHold.abandonActive {l : Link} (h : l.countersHold) (ch : Chan) (f : InFlight) :
    (l.abandonActive ch f).countersHold := by
  unfold Link.abandonActive
  dsimp only
  split
  · rw [Link.recount_countersHold, Link.purge_countersHold]
    exact h.setChan rfl
  · refine h.afterFrame ?_ _ _
    rfl

/-- A step that changes the link alone, but for the alert lines. -/
theorem State.KeepsCounters.of_link {s t : State} (ht : t.time = s.time) (hb : t.book.late = s.book.late)
    (hr : t.requests = s.requests) (hm : t.meter = s.meter) (hl : s.link.countersHold → t.link.countersHold) :
    s.KeepsCounters t :=
  ⟨ht ▸ id, hb ▸ id, hr ▸ id, hl, hm ▸ id⟩

/-- A step that leaves the counters of every block. -/
theorem State.KeepsCounters.of_eq {s t : State} (ht : t.time = s.time) (hb : t.book.late = s.book.late)
    (hr : t.requests = s.requests) (hl : t.link = s.link) (hm : t.meter = s.meter) : s.KeepsCounters t :=
  .of_link ht hb hr hm (hl ▸ id)

theorem State.handOver_keepsCounters (s : State) (r : Record) : s.KeepsCounters (s.handOver r) := by
  refine .of_link (by simp) (by simp) (by simp) (by simp) fun h => ?_
  have hover := Link.handOver_countersHold h s.listenOnly r
  unfold State.handOver
  dsimp only
  split <;> exact hover

/-! ### Strikes and revisions -/

theorem State.strike_keepsCounters (s : State) (e : Entry) : s.KeepsCounters (s.strike e) := by
  refine ⟨?_, ?_, by simp, ?_, by simp⟩
  · obtain ⟨b, hb⟩ := s.strike_time e
    rw [hb]; exact id
  · rw [s.strike_book e]; exact id
  · rcases s.strike_cases e with ⟨-, h⟩ | ⟨-, p, -, h⟩ | ⟨-, p, -, -, h⟩ | ⟨-, p, n, -, -, h⟩ <;> rw [h]
    · exact id
    · simp
    · simp
    · unfold State.strikeAllot
      exact fun hl => (State.handOver_keepsCounters _ _).link hl

theorem State.strikes_keepsCounters (s : State) (es : List Entry) : s.KeepsCounters (es.foldl State.strike s) := by
  induction es generalizing s with
  | nil => exact .refl s
  | cons e es ih => exact (s.strike_keepsCounters e).trans (ih _)

theorem State.dropLate_keepsCounters (s : State) : s.KeepsCounters s.dropLate :=
  ⟨id, fun _ => grow_le _ _, id, id, id⟩

/-! ### The boundary -/

theorem State.closeOpen_keepsCounters (s : State) (kind : EntryKind) : s.KeepsCounters (s.closeOpen kind) := by
  unfold State.closeOpen
  split
  · next c e _ _ =>
    dsimp only
    have hfix : s.KeepsCounters (s.fixFigures c (closedEntry s c kind e)) := ⟨id, id, id, id, id⟩
    have htold : s.KeepsCounters ((s.fixFigures c (closedEntry s c kind e)).queueTally (closedEntry s c kind e)) := by
      refine hfix.trans ?_
      unfold State.queueTally
      split
      · exact State.handOver_keepsCounters _ _
      · exact .refl _
    split
    · exact htold.trans (State.strike_keepsCounters _ _)
    · exact htold
  · exact .refl s

theorem State.recordJump_keepsCounters (s : State) (passed : Nat) : s.KeepsCounters (s.recordJump passed) :=
  ⟨fun h => ⟨grow_le _ _, h.2⟩, id, id, id, id⟩

theorem State.clearTimebase_keepsCounters (s : State) : s.KeepsCounters s.clearTimebase :=
  .ite _ ⟨id, id, id, id, id⟩

theorem State.evict_keepsCounters (s : State) : s.KeepsCounters s.evict := by
  unfold State.evict
  split
  · exact .refl s
  · split
    · exact .refl s
    · next e _ _ =>
      have hstrike : s.KeepsCounters (if e.state = .settling then s.strike e else s) := .ite _ (s.strike_keepsCounters e)
      exact hstrike.trans ⟨id, id, id, id, id⟩

theorem State.removeNumber_keepsCounters (s : State) (number : Option Period) :
    s.KeepsCounters (s.removeNumber number) := by
  unfold State.removeNumber
  split
  · exact .refl s
  · split
    · exact .refl s
    · exact (s.strike_keepsCounters _).trans ⟨id, id, id, id, id⟩

theorem State.zeroBoundary_keepsCounters (s : State) : s.KeepsCounters s.zeroBoundary :=
  ⟨fun h => ⟨Nat.zero_le _, h.2⟩, id, id, id, id⟩

theorem State.addEntry_keepsCounters (s : State) (number : Option Period) (cause : Cause) :
    s.KeepsCounters (s.addEntry number cause) := by
  unfold State.addEntry
  split
  · exact .refl s
  · exact ⟨id, id, id, id, id⟩

theorem State.openNew_keepsCounters (s : State) (number : Option Period) (cause : Cause) :
    s.KeepsCounters (s.openNew number cause) :=
  (((s.evict_keepsCounters).trans (State.removeNumber_keepsCounters _ number)).trans
    (.ite _ (State.zeroBoundary_keepsCounters _))).trans (State.addEntry_keepsCounters _ number cause)

theorem State.withdrawMark_keepsCounters (s : State) : s.KeepsCounters s.withdrawMark :=
  ⟨id, id, id, s.link.withdrawMark_countersHold.mpr, id⟩

theorem State.boundary_keepsCounters (s : State) (passed : Option Nat) (n : Period) (cause : Cause) :
    s.KeepsCounters (s.boundary passed n cause) := by
  have hbefore : s.KeepsCounters (s.beforeOpen passed) := by
    refine .trans ?_ (State.clearTimebase_keepsCounters _)
    cases passed
    · exact s.closeOpen_keepsCounters _
    · exact (s.closeOpen_keepsCounters _).trans (State.recordJump_keepsCounters _ _)
  have hopen := hbefore.trans (State.openNew_keepsCounters _ (some n) cause)
  have hrestart := hopen.trans (u := State.restartSeconds _) ⟨id, id, id, id, id⟩
  rw [State.boundary_eq]
  dsimp only
  split
  · exact hrestart
  · exact hrestart.trans (State.withdrawMark_keepsCounters _)

theorem State.ownExpiry_keepsCounters (s : State) : s.KeepsCounters s.ownExpiry := by
  unfold State.ownExpiry
  split
  · exact .refl s
  · exact (s.boundary_keepsCounters _ _ _).trans (State.handOver_keepsCounters _ _)

theorem State.soloEnd_keepsCounters (s : State) : s.KeepsCounters s.soloEnd :=
  (s.boundary_keepsCounters _ _ _).trans (State.handOver_keepsCounters _ _)

theorem State.heardMark_keepsCounters (s : State) (n : Period) (station : Nat) : s.KeepsCounters (s.heardMark n station) := by
  unfold State.heardMark
  split
  · exact s.boundary_keepsCounters _ _ _
  · split; · exact s.withdrawMark_keepsCounters
    split; · exact s.boundary_keepsCounters _ _ _
    split; · exact s.boundary_keepsCounters _ _ _
    exact ⟨fun h => ⟨h.1, grow_le _ _⟩, id, id, id, id⟩
  · exact .refl s

theorem State.evidence_keepsCounters (s : State) (n : Period) (station : Nat) : s.KeepsCounters (s.evidence n station) := by
  unfold State.evidence
  split
  · exact s.boundary_keepsCounters _ _ _
  · split; · exact s.boundary_keepsCounters _ _ _
    split; · exact s.boundary_keepsCounters _ _ _
    exact .refl s
  · exact .refl s

/-! ### The base tick -/

theorem State.takeSample_keepsCounters (s : State) : s.KeepsCounters s.takeSample := by
  unfold State.takeSample
  split
  · exact .refl s
  · dsimp only
    split
    · exact ⟨id, id, id, id, fun h => ⟨grow_le _ _, h.2⟩⟩
    · exact ⟨id, id, id, id, id⟩

theorem State.discharge_keepsCounters (s : State) : s.KeepsCounters s.discharge :=
  (((s.strikes_keepsCounters s.waitsOver).trans (.ite _ (State.ownExpiry_keepsCounters _))).trans
    (.ite _ (State.soloEnd_keepsCounters _))).trans (.ite _ (State.takeSample_keepsCounters _))

theorem State.overdue_keepsCounters (s : State) : s.KeepsCounters s.overdue := .ite _ s.discharge_keepsCounters

theorem State.countTick_keepsCounters (s : State) : s.KeepsCounters s.countTick := by
  unfold State.countTick
  split
  · exact .refl s
  · exact .ite _ ⟨id, id, id, id, id⟩

theorem State.baseTick_keepsCounters (s : State) : s.KeepsCounters s.baseTick :=
  s.overdue_keepsCounters.trans (State.countTick_keepsCounters _)

theorem State.secondPulse_keepsCounters (s : State) : s.KeepsCounters s.secondPulse := by
  unfold State.secondPulse
  split
  · exact .refl s
  · have hexternal : s.overdue.KeepsCounters s.overdue.toExternal := ⟨id, id, id, id, id⟩
    exact s.overdue_keepsCounters.trans (hexternal.trans (State.countTick_keepsCounters _))

/-! ### Tallies and allotments -/

theorem State.tallyToBook_keepsCounters (s : State) (f : Frame) : s.KeepsCounters (s.tallyToBook f) := by
  unfold State.tallyToBook
  split
  · next c e _ _ =>
    split
    · exact .refl s
    · next p _ =>
      dsimp only
      refine .trans (t := s.updateLastBasis f.source.toNat (tallyBasis c.basis f)) ⟨id, id, id, id, id⟩ ?_
      generalize s.updateLastBasis f.source.toNat (tallyBasis c.basis f) = u
      split
      · exact .refl u
      · unfold State.tallySettling
        dsimp only
        refine .trans ?_ (.ite _ (State.strike_keepsCounters _ _))
        exact ⟨id, id, id, id, id⟩
      · unfold State.tallyStruck
        split; · exact .refl u
        split; · exact .refl u
        split
        · refine .trans ?_ (State.handOver_keepsCounters _ _)
          exact ⟨id, id, id, id, id⟩
        · exact u.dropLate_keepsCounters
  · exact s.dropLate_keepsCounters

theorem State.formatError_keepsCounters (s : State) : s.KeepsCounters s.formatError :=
  ⟨id, id, id, fun ⟨ha, hb, _, ho, hu⟩ => ⟨ha, hb, grow_le _ _, ho, hu⟩, id⟩

theorem State.allotmentToBook_keepsCounters (s : State) (f : Frame) : s.KeepsCounters (s.allotmentToBook f) := by
  unfold State.allotmentToBook
  split
  · exact s.dropLate_keepsCounters
  · split; · exact .refl s
    split; · exact s.formatError_keepsCounters
    split; · exact .refl s
    split
    · exact .refl s
    · unfold State.allotmentSettling
      dsimp only
      split
      · refine .trans ?_ (.ite _ (State.strike_keepsCounters _ _))
        exact ⟨id, id, id, id, id⟩
      · exact .ite _ ⟨id, id, id, id, id⟩
    · exact .ite _ ⟨id, id, id, id, id⟩

theorem State.takeRecord_keepsCounters (s : State) (n : Period) (station : Nat) {take : State → State}
    (htake : ∀ u : State, u.KeepsCounters (take u)) : s.KeepsCounters (s.takeRecord n station take) := by
  have hev := s.evidence_keepsCounters n station
  rcases s.takeRecord_cases n station take with ⟨-, h⟩ | ⟨-, h⟩ <;> rw [h]
  · exact hev.trans (State.dropLate_keepsCounters _)
  · exact hev.trans (htake _)

/-! ### Received frames and requests -/

theorem State.setChan_keepsCounters (s : State) {ch : Chan} {c : LinkChannel} (hc : c.errors = (s.link.chan ch).errors) :
    s.KeepsCounters (s.setChan ch c) :=
  ⟨id, id, id, fun h => h.setChan hc, id⟩

theorem State.receiveError_keepsCounters (s : State) (ch : Chan) : s.KeepsCounters (s.receiveError ch) :=
  ⟨id, id, id, fun h => h.setChan_grow (grow_le _ _), id⟩

theorem State.receive_keepsCounters (s : State) (row : FrameRow) (ch : Chan) (f : Frame) {k : State → State}
    (hk : ∀ u : State, u.KeepsCounters (k u)) : s.KeepsCounters (s.receive row ch f k) := by
  have hhear : s.KeepsCounters (s.hearFrame ch) := s.setChan_keepsCounters rfl
  have hheard : s.KeepsCounters (s.heard ch f) := hhear.trans ⟨id, id, id, id, id⟩
  exact State.receive_keeps (.refl s) (s.receiveError_keepsCounters ch) (hhear.trans (State.formatError_keepsCounters _)) hhear
    hheard (hheard.trans (hk _))

theorem State.countQuery_keepsCounters (s : State) : s.KeepsCounters s.countQuery :=
  ⟨id, id, fun h => ⟨grow_le _ _, h.2⟩, id, id⟩

theorem State.countUnknown_keepsCounters (s : State) (f : Frame) (outcome : RequestOutcome) :
    s.KeepsCounters (s.countUnknown f outcome) :=
  ⟨id, id, fun ⟨hq, ha, hr, _⟩ => ⟨hq, ha, hr, grow_le _ _⟩, id, id⟩

theorem State.query_keepsCounters (s : State) (f : Frame) {k : State → State} (hk : ∀ u : State, u.KeepsCounters (k u)) :
    s.KeepsCounters (s.query f k) :=
  State.query_keeps (s.countQuery_keepsCounters.trans (State.countUnknown_keepsCounters _ f _))
    (s.countQuery_keepsCounters.trans (hk _))

theorem State.answer_keepsCounters (s : State) (f : Frame) (outcome : RequestOutcome) (body : List Byte) :
    s.KeepsCounters (s.answer f outcome body) := s.handOver_keepsCounters _

theorem State.answerResult_keepsCounters (s : State) (f : Frame) : s.KeepsCounters (s.answerResult f) := by
  unfold State.answerResult
  split
  · exact s.answer_keepsCounters f _ _
  · split <;> exact s.handOver_keepsCounters _

theorem State.answerLatest_keepsCounters (s : State) (f : Frame) : s.KeepsCounters (s.answerLatest f) := by
  unfold State.answerLatest
  split <;> exact s.handOver_keepsCounters _

theorem State.answerCondition_keepsCounters (s : State) (f : Frame) : s.KeepsCounters (s.answerCondition f) := by
  unfold State.answerCondition
  dsimp only
  split
  · exact (s.handOver_keepsCounters _).trans ⟨id, id, id, id, id⟩
  · exact s.handOver_keepsCounters _

theorem State.answerOrder_keepsCounters (s : State) (f : Frame) (outcome : RequestOutcome) (body : List Byte) :
    s.KeepsCounters (s.answerOrder f outcome body) := by
  unfold State.answerOrder
  split
  · exact .refl s
  · exact s.answer_keepsCounters f _ _

theorem State.refuse_keepsCounters (s : State) (f : Frame) (outcome : RequestOutcome) :
    s.KeepsCounters (s.refuse f outcome) := by
  let refused := State.setService
    (State.recordRefusal { s with requests := { s.requests with refused := grow s.requests.refused 1 } } f outcome)
  have hrefused : s.KeepsCounters refused := ⟨id, id, fun ⟨hq, ha, _, hu⟩ => ⟨hq, ha, grow_le _ _, hu⟩, id, id⟩
  unfold State.refuse
  dsimp only
  split
  · exact hrefused
  · exact hrefused.trans (State.answerOrder_keepsCounters _ f _ _)

theorem State.countAccepted_keepsCounters (s : State) : s.KeepsCounters s.countAccepted :=
  ⟨id, id, fun ⟨hq, _, hr, hu⟩ => ⟨hq, grow_le _ _, hr, hu⟩, id, id⟩

theorem State.takeZero_keepsCounters (s : State) (f : Frame) : s.KeepsCounters (s.takeZero f) := by
  unfold State.takeZero
  split
  · exact s.refuse_keepsCounters f _
  · refine s.countAccepted_keepsCounters.trans (.trans ?_ (State.answerOrder_keepsCounters _ f _ _))
    exact ⟨id, id, id, id, id⟩

theorem State.takeJob_keepsCounters (s : State) (f : Frame) : s.KeepsCounters (s.takeJob f) := by
  unfold State.takeJob
  split
  · exact s.refuse_keepsCounters f _
  · refine s.countAccepted_keepsCounters.trans (.trans ?_ (State.answerOrder_keepsCounters _ f _ _))
    exact ⟨id, id, id, id, id⟩

theorem State.unknownRequest_keepsCounters (s : State) (f : Frame) :
    s.KeepsCounters (if isOrder f then s.unknownOrder f else s.unknownQuery f) := by
  split
  · unfold State.unknownOrder
    split
    · exact s.refuse_keepsCounters f _
    · exact (s.countUnknown_keepsCounters f _).trans (State.answerOrder_keepsCounters _ f _ _)
  · exact s.query_keepsCounters f fun u => (u.countUnknown_keepsCounters f _).trans (State.answer_keepsCounters _ f _ _)

/-! ### The inputs and the meter port -/

theorem State.setLevel_keepsCounters (s : State) (line : Fin 8) (edge : Edge) : s.KeepsCounters (s.setLevel line edge) :=
  ⟨id, id, id, id, id⟩

theorem State.flagOpen_keepsCounters (s : State) (f : EntryFlags → EntryFlags) : s.KeepsCounters (s.flagOpen f) :=
  ⟨id, id, id, id, id⟩

theorem State.deliver_keepsCounters (s : State) (c : Settings) (source : ChannelSource) (amount : Nat) :
    s.KeepsCounters (s.deliver c source amount) := by
  rcases s.deliver_cases c source amount with ⟨-, h⟩ | ⟨i, -, h⟩ <;> rw [h]
  · exact .refl s
  · rw [State.creditChannel_eq]; exact ⟨id, id, id, id, id⟩

theorem State.energyPulse_keepsCounters (s : State) (line : Fin 8) : s.KeepsCounters (s.energyPulse line) := by
  unfold State.energyPulse
  split
  · exact .refl s
  · exact s.deliver_keepsCounters _ _ _

theorem State.saturateIf_keepsCounters (s : State) (test : Bool) : s.KeepsCounters (s.saturateIf test) :=
  .ite _ (s.flagOpen_keepsCounters _)

theorem State.cutPulse_keepsCounters (s : State) : s.KeepsCounters s.cutPulse := by
  refine .trans ?_ (State.saturateIf_keepsCounters _ _)
  exact ⟨id, id, id, id, id⟩

theorem State.rejectPulse_keepsCounters (s : State) : s.KeepsCounters s.rejectPulse := by
  refine .trans ?_ (State.saturateIf_keepsCounters _ _)
  exact ⟨id, id, id, id, id⟩

theorem State.faultChange_keepsCounters (s : State) (line : Fin 8) (edge : Edge) :
    s.KeepsCounters (s.faultChange line edge) := by
  unfold State.faultChange
  dsimp only
  split <;> exact ⟨id, id, id, id, id⟩

theorem State.takeReading_keepsCounters (s : State) (c : Settings) (m : Fin 8) (setup : MeterSetup) (delta : Nat) :
    s.KeepsCounters (s.takeReading c m setup delta) := by
  rcases s.takeReading_cases c m setup delta with ⟨-, h⟩ | ⟨-, h⟩ <;> rw [h]
  · exact s.deliver_keepsCounters _ _ _
  · exact ⟨id, id, id, id, fun ⟨ho, hf, _⟩ => ⟨ho, hf, grow_le _ _⟩⟩

theorem State.goodPoll_keepsCounters (s : State) (c : Settings) (m : Fin 8) (setup : MeterSetup) (value : Nat)
    (alarm : Bool) : s.KeepsCounters (s.goodPoll c m setup value alarm) := by
  have hend (t : State) : t.KeepsCounters ((t.setMeter m (goodEntry value alarm)).takeAlarm alarm).refreshAlerts := by
    rw [State.takeAlarm_eq]; exact ⟨id, id, id, id, id⟩
  unfold State.goodPoll
  dsimp only
  refine .trans ?_ (hend _)
  split
  · exact .refl s
  · exact .trans (.ite _ (s.flagOpen_keepsCounters _)) (State.takeReading_keepsCounters _ _ _ _ _)

theorem State.pollFails_keepsCounters (s : State) (c : Settings) (m : Fin 8) : s.KeepsCounters (s.pollFails c m) := by
  unfold State.pollFails State.failPoll
  dsimp only
  split <;> exact ⟨id, id, id, id, fun ⟨ho, _, hd⟩ => ⟨ho, grow_le _ _, hd⟩⟩

theorem State.judgeReply_keepsCounters (s : State) (reply : MeterReply) : s.KeepsCounters (s.judgeReply reply) := by
  have harrived : s.KeepsCounters s.byteArrived := ⟨id, id, id, id, id⟩
  unfold State.judgeReply
  split
  · split
    · dsimp only
      split
      · exact (harrived.trans (State.goodPoll_keepsCounters _ _ _ _ _ _)).trans ⟨id, id, id, id, id⟩
      · exact harrived.trans (State.pollFails_keepsCounters _ _ _)
    · exact .refl s
  · exact .refl s

theorem State.sendRequest_keepsCounters (s : State) : s.KeepsCounters s.sendRequest := by
  unfold State.sendRequest
  split
  · split
    · exact .ite _ ⟨id, id, id, id, id⟩
    · exact .refl s
  · exact .refl s

/-! ### Start-up -/

theorem State.loadSucceeds_keepsCounters (s : State) (image : List Byte) (role : Role) (now : Nat) :
    s.KeepsCounters (s.loadSucceeds image role now) := by
  unfold State.loadSucceeds
  refine .trans (.trans ?_ (State.openNew_keepsCounters _ none .start)) ⟨id, id, id, id, id⟩
  exact ⟨id, id, id, id, id⟩

theorem State.attemptFails_keepsCounters (s : State) : s.KeepsCounters s.attemptFails := by
  unfold State.attemptFails
  split <;> exact ⟨id, id, id, id, id⟩

/-! ### The commands -/

section
variable (s : State)

theorem execImageReadAttempt_keepsCounters (memory : List Byte) (now : Nat) :
    EndsIn s.KeepsCounters (execImageReadAttempt memory now s) := by
  refine .ite (fun _ => ?_) (.refl s)
  split
  · split
    · exact s.loadSucceeds_keepsCounters _ _ _
    · exact ⟨id, id, id, id, id⟩
  · exact s.attemptFails_keepsCounters

theorem execResetRelease_keepsCounters (straps : Straps) (levels : Vector Level 8) (inhibitA inhibitB : Bool) :
    EndsIn s.KeepsCounters (execResetRelease straps levels inhibitA inhibitB s) :=
  .ite (fun _ => ⟨id, id, id, fun ⟨_, _, h⟩ => ⟨Nat.zero_le _, Nat.zero_le _, h⟩, id⟩) (.refl s)

theorem execWaitTimerExpiry_keepsCounters (number : Period) : EndsIn s.KeepsCounters (execWaitTimerExpiry number s) := by
  unfold execWaitTimerExpiry
  split
  · exact .ite (fun _ => s.strike_keepsCounters _) (.refl s)
  · exact .next (.refl s)

theorem execQuietWaitTimeout_keepsCounters : EndsIn s.KeepsCounters (execQuietWaitTimeout s) := by
  unfold execQuietWaitTimeout
  split
  · exact .ite (fun _ => s.pollFails_keepsCounters _ _) (.refl s)
  · exact .next (.refl s)

theorem execRequestSent_keepsCounters : EndsIn s.KeepsCounters (execRequestSent s) := by
  unfold execRequestSent
  split
  · exact .next ⟨id, id, id, id, id⟩
  · exact .next (.refl s)

theorem execReplyWindowClose_keepsCounters (window : WindowEnd) :
    EndsIn s.KeepsCounters (execReplyWindowClose window s) := by
  unfold execReplyWindowClose
  split
  · refine .ite (fun _ => .trans ?_ (State.pollFails_keepsCounters _ _ _)) (.refl s)
    exact ⟨id, id, id, id, id⟩
  · exact .next (.refl s)

theorem execDebouncedEdge_keepsCounters (line : Fin 8) (edge : Edge) (time : Nat) :
    EndsIn s.KeepsCounters (execDebouncedEdge line edge time s) := by
  refine .ite (fun _ => (s.setLevel_keepsCounters line edge).trans ?_) (.refl s)
  exact .of_eq (by simp) (by simp) (by simp) (by simp) (by simp)

theorem execFrameBegin_keepsCounters (ch : Chan) (elapsed : Nat) : EndsIn s.KeepsCounters (execFrameBegin ch elapsed s) := by
  refine .next ?_
  split
  · exact .refl s
  · unfold State.tryBegin
    split
    · split <;> exact s.setChan_keepsCounters rfl
    · exact s.setChan_keepsCounters rfl

theorem execFrameGoneOutWhole_keepsCounters (ch : Chan) : EndsIn s.KeepsCounters (execFrameGoneOutWhole ch s) := by
  unfold execFrameGoneOutWhole
  split
  · exact .next (.refl s)
  · refine .next ?_
    split
    · exact .refl s
    · refine ⟨id, id, id, fun h => h.afterFrame ?_ _ _, id⟩
      rfl

theorem execEchoMismatch_keepsCounters (ch : Chan) : EndsIn s.KeepsCounters (execEchoMismatch ch s) := by
  unfold execEchoMismatch
  split
  · exact .next (.refl s)
  · refine .next ?_
    split
    · exact .refl s
    · split
      · exact ⟨id, id, id, fun h => h.abandonActive ch _, id⟩
      · exact ⟨id, id, id, fun h => h.afterFrame rfl _ _, id⟩

theorem execInhibitActive_keepsCounters (ch : Chan) : EndsIn s.KeepsCounters (execInhibitActive ch s) := by
  refine .next ?_
  split
  · exact .refl s
  · refine ⟨id, id, id, fun h => ?_, id⟩
    have hpurged : (s.link.releaseAll ch).purge.countersHold := h
    exact (Link.recount_countersHold _ _).mpr (hpurged.setChan rfl)

theorem execBitRateFixed_keepsCounters (ch : Chan) (rate : BitRate) : EndsIn s.KeepsCounters (execBitRateFixed ch rate s) :=
  .ite (fun _ => ⟨id, id, id, fun h => h.setChan (c := { s.link.chan ch with quietTime := 0 }) rfl, id⟩) (.refl s)

theorem execInhibitedFrameEnd_keepsCounters (ch : Chan) : EndsIn s.KeepsCounters (execInhibitedFrameEnd ch s) := by
  unfold execInhibitedFrameEnd
  split
  · exact .next (.refl s)
  · exact .ite (fun _ => ⟨id, id, id, fun h => h.afterFrame rfl _ _, id⟩) (.refl s)

/-- Every command but the hardware reset keeps the counters of every block within their range. -/
theorem exec_keepsCounters (i : Instr) (hi : i ≠ .hardwareReset) : EndsIn s.KeepsCounters (exec i s) := by
  cases i with
  | hardwareReset => exact absurd rfl hi
  | resetRelease straps levels inhibitA inhibitB => exact execResetRelease_keepsCounters s straps levels inhibitA inhibitB
  | imageReadAttempt memory now => exact execImageReadAttempt_keepsCounters s memory now
  | retryWaitEnd => exact .ite (fun _ => ⟨id, id, id, id, id⟩) (.refl s)
  | internalSecond =>
    refine .next ?_
    split
    · exact .refl s
    · exact s.baseTick_keepsCounters
  | secondPulse line =>
    exact .ite (fun _ => (s.setLevel_keepsCounters _ _).trans (State.secondPulse_keepsCounters _)) (.refl s)
  | lossWatchExpiry => exact .ite (fun _ => ⟨id, id, id, id, id⟩) (.refl s)
  | periodExpiry => exact .ite (fun _ => s.ownExpiry_keepsCounters) (.refl s)
  | soloWaitEnd => exact .ite (fun _ => s.soloEnd_keepsCounters) (.refl s)
  | sampleTick => exact .ite (fun _ => s.takeSample_keepsCounters) (.refl s)
  | waitTimerExpiry number => exact execWaitTimerExpiry_keepsCounters s number
  | alertPulseEnd alert => cases alert <;> exact .next ⟨id, id, id, id, id⟩
  | energyPulse line =>
    exact .ite (fun _ => (s.setLevel_keepsCounters _ _).trans (State.energyPulse_keepsCounters _ _)) (.refl s)
  | cutPulse line => exact .ite (fun _ => (s.setLevel_keepsCounters _ _).trans (State.cutPulse_keepsCounters _)) (.refl s)
  | rejectPulse line =>
    exact .ite (fun _ => (s.setLevel_keepsCounters _ _).trans (State.rejectPulse_keepsCounters _)) (.refl s)
  | runningLevelChange line edge => exact .ite (fun _ => s.setLevel_keepsCounters _ _) (.refl s)
  | faultLevelChange line edge => exact .ite (fun _ => s.faultChange_keepsCounters _ _) (.refl s)
  | debouncedEdge line edge time => exact execDebouncedEdge_keepsCounters s line edge time
  | meterLineQuiet elapsed =>
    have hquiet : s.KeepsCounters (s.meterQuiet elapsed) := ⟨id, id, id, id, id⟩
    refine .next ?_
    split
    · exact .refl s
    · exact hquiet.trans (State.sendRequest_keepsCounters _)
  | quietWaitTimeout => exact execQuietWaitTimeout_keepsCounters s
  | requestSent => exact execRequestSent_keepsCounters s
  | replyReceived reply => exact .next (s.judgeReply_keepsCounters reply)
  | replyWindowClose window => exact execReplyWindowClose_keepsCounters s window
  | strayMeterByte byte =>
    refine .next ?_
    split
    · exact .refl s
    · exact ⟨id, id, id, id, id⟩
  | frameBegin ch elapsed => exact execFrameBegin_keepsCounters s ch elapsed
  | defer ch =>
    refine .next ?_
    split
    · exact .refl s
    · exact s.setChan_keepsCounters rfl
  | frameGoneOutWhole ch => exact execFrameGoneOutWhole_keepsCounters s ch
  | echoMismatch ch => exact execEchoMismatch_keepsCounters s ch
  | inhibitActive ch => exact execInhibitActive_keepsCounters s ch
  | inhibitReleased ch =>
    refine .ite (fun _ => .trans (s.setChan_keepsCounters (ch := ch)
      (c := { s.link.chan ch with state := .active, echoFaults := 0 }) rfl) ?_) (.refl s)
    exact ⟨id, id, id, id, id⟩
  | receiveError ch raw => exact .ite (fun _ => s.receiveError_keepsCounters ch) (.refl s)
  | bitRateFixed ch rate => exact execBitRateFixed_keepsCounters s ch rate
  | mark ch frame => exact .next (s.receive_keepsCounters _ _ _ fun u => u.heardMark_keepsCounters _ _)
  | tally ch frame =>
    exact .next (s.receive_keepsCounters _ _ _ fun u => u.takeRecord_keepsCounters _ _ fun v =>
      v.tallyToBook_keepsCounters frame)
  | allotment ch frame =>
    exact .next (s.receive_keepsCounters _ _ _ fun u => u.takeRecord_keepsCounters _ _ fun v =>
      v.allotmentToBook_keepsCounters frame)
  | answerHeard ch frame => exact .next (s.receive_keepsCounters _ _ _ fun u => .refl u)
  | queryResult ch frame =>
    exact .next (s.receive_keepsCounters _ _ _ fun u => u.query_keepsCounters _ fun v => v.answerResult_keepsCounters _)
  | queryLatest ch frame =>
    exact .next (s.receive_keepsCounters _ _ _ fun u => u.query_keepsCounters _ fun v => v.answerLatest_keepsCounters _)
  | queryCampaign ch frame =>
    exact .next (s.receive_keepsCounters _ _ _ fun u => u.query_keepsCounters _ fun v => v.answer_keepsCounters _ _ _)
  | queryCondition ch frame =>
    exact .next (s.receive_keepsCounters _ _ _ fun u => u.countQuery_keepsCounters.trans
      (State.answerCondition_keepsCounters _ _))
  | queryChannels ch frame =>
    exact .next (s.receive_keepsCounters _ _ _ fun u => u.query_keepsCounters _ fun v => v.answer_keepsCounters _ _ _)
  | unknownRequest ch frame => exact .next (s.receive_keepsCounters _ _ _ fun u => u.unknownRequest_keepsCounters frame)
  | orderZero ch frame => exact .next (s.receive_keepsCounters _ _ _ fun u => u.takeZero_keepsCounters frame)
  | orderJob ch frame => exact .next (s.receive_keepsCounters _ _ _ fun u => u.takeJob_keepsCounters frame)
  | receiverStart ch => exact .ite (fun _ => s.setChan_keepsCounters rfl) (.refl s)
  | inhibitedFrameEnd ch => exact execInhibitedFrameEnd_keepsCounters s ch

end

/-- Right after a hardware reset every counter is 0, whatever commands wait. -/
theorem reset_countersHold (rest : List Instr) : ({ State.reset with pending := rest } : State).countersHold := by
  simp [State.countersHold, State.reset, TimeBase.atReset, Book.atReset, Requests.atReset, Link.atReset, LinkChannel.atReset,
    MeterPort.atReset]

/-- Settles O60: a hardware reset sets every counter to 0, and every other command keeps each block's counters. -/
theorem stepKeepsTheCountersWithinRange : Obligations.StepKeepsTheCountersWithinRange := by
  unfold Obligations.StepKeepsTheCountersWithinRange
  intro s t hs h
  refine step_keeps (fun u _ hu => hu) (fun i u hu => ?_) hs h
  by_cases hi : i = .hardwareReset
  · subst hi
    exact .next (reset_countersHold _)
  · exact (exec_keepsCounters u i hi).mono fun t ht => ht.countersHold hu

end Sys2Proof.Machine
end

section
/-! SUPPORT. The time base's commands, heard marks, boundary evidence and the withdrawal of the own MARK (R4 to R22, R143). -/

namespace Sys2Proof.Machine

open Sys2Proof

/-! ### The own MARK withdrawn (R143) -/

/-- The frame that a channel drives, once the own MARK is withdrawn. -/
theorem LinkChannel.withdraw_inFlight (c : LinkChannel) (queue : List Queued) :
    let flight := c.inFlight.map fun f : InFlight =>
      if queue.any (fun q => q.isMark && q.seq == f.seq) then
        { f with withdrawn := true, superseded := false }
      else f
    c.withdraw queue = { c with inFlight := flight } := by
  obtain ⟨state, echoFaults, probe, quietTime, counted, receiving, errors, inFlight⟩ := c
  cases inFlight with
  | none => rfl
  | some f =>
    simp only [LinkChannel.withdraw, Option.map_some]
    split <;> rfl

/-- Settles O29: by the queue that the withdrawal leaves and, for each channel, its frame in flight and its recount. -/
theorem withdrawalKeepsOnlyTheFlyingMark : Obligations.WithdrawalKeepsOnlyTheFlyingMark := by
  unfold Obligations.WithdrawalKeepsOnlyTheFlyingMark
  refine fun s => ⟨rfl, ?_, fun ch => ?_⟩
  · simp only [State.withdrawMark, Link.withdrawMark, Link.recount_queue, Link.purge, Queued.isMark, beq_iff_eq]
  · have howes : ∀ old l : Link, (Link.recount old l).owes ch = l.owes ch := fun _ _ => rfl
    simp only [State.withdrawMark, Link.withdrawMark, Link.chan_recount, howes, Link.chan_purge]
    congr 1
    cases ch <;> exact LinkChannel.withdraw_inFlight _ _

/-! ### Heard marks and evidence (R12 to R18, R21) -/

theorem isNewer_iff (n p : Period) : isNewer n p = true ↔ 1 ≤ (n - p).toNat ∧ (n - p).toNat ≤ 32767 := decide_eq_true_iff

/-- The number after p lies one period after it. -/
theorem eq_succ_of_sub_eq_one {n p : Period} : n = p + 1 ↔ (n - p).toNat = 1 := by
  constructor
  · rintro rfl
    rw [add_sub_cancel_left]; rfl
  · intro h
    have h1 : n - p = 1 := BitVec.eq_of_toNat_eq h
    rw [← h1, add_sub_cancel]

theorem eq_of_sub_eq_zero {n p : Period} : n = p ↔ (n - p).toNat = 0 := by
  constructor
  · rintro rfl; simp
  · intro h
    have h0 : n - p = 0 := BitVec.eq_of_toNat_eq h
    exact sub_eq_zero.mp h0

theorem periodsAfter_pred {n p : Period} (h : 1 ≤ (n - p).toNat) : (n - p - 1).toNat = periodsAfter n p - 1 := by
  rw [BitVec.toNat_sub_of_le (show (1 : Period) ≤ n - p from h)]; rfl

/-- A mark heard in ACCOUNTING, by how far its number lies past the open one (R12 to R16). -/
theorem State.heardMark_accounting {s : State} {p : Period} (ha : s.time.accounting = .accounting)
    (hp : s.openNumber = some p) (n : Period) (station : Nat) :
    (n = p → s.heardMark n station = s.withdrawMark)
    ∧ (n = p + 1 → s.heardMark n station = s.boundary none n (.mark station))
    ∧ (2 ≤ (n - p).toNat → (n - p).toNat ≤ 32767 →
        s.heardMark n station = s.boundary (some (n - p - 1).toNat) n (.mark station))
    ∧ (32768 ≤ (n - p).toNat →
        s.heardMark n station = { s with time := { s.time with stale := min 65535 (s.time.stale + 1) } }) := by
  have hmark : s.heardMark n station =
      if n = p then s.withdrawMark
      else if n = p + 1 then s.boundary none n (.mark station)
      else if isNewer n p then s.boundary (some (periodsAfter n p - 1)) n (.mark station)
      else { s with time := { s.time with stale := grow s.time.stale 1 } } := by
    simp only [State.heardMark, ha, hp]
  rw [hmark]
  refine ⟨fun h => if_pos h, fun h => ?_, fun h2 hle => ?_, fun hbig => ?_⟩
  · have h1 := eq_succ_of_sub_eq_one.mp h
    rw [if_neg (fun h0 => by have := eq_of_sub_eq_zero.mp h0; omega), if_pos h]
  · rw [if_neg (fun h0 => by have := eq_of_sub_eq_zero.mp h0; omega),
      if_neg (fun h1 => by have := eq_succ_of_sub_eq_one.mp h1; omega),
      if_pos ((isNewer_iff n p).mpr ⟨by omega, hle⟩), periodsAfter_pred (by omega)]
  · rw [if_neg (fun h0 => by have := eq_of_sub_eq_zero.mp h0; omega),
      if_neg (fun h1 => by have := eq_succ_of_sub_eq_one.mp h1; omega),
      if_neg (fun h => by have := (isNewer_iff n p).mp h; omega)]
    rfl

theorem State.heardMark_starting {s : State} (ha : s.time.accounting = .starting) (n : Period) (station : Nat) :
    s.heardMark n station = s.boundary none n (.mark station) := by
  simp only [State.heardMark, ha]

theorem State.heardMark_unconfigured {s : State} (ha : s.time.accounting = .unconfigured) (n : Period) (station : Nat) :
    s.heardMark n station = s := by
  simp only [State.heardMark, ha]

/-- Settles O34: a delivered MARK is the heard mark of the heard frame. -/
theorem heardMarkIsComparedWithTheOpenPeriod : Obligations.HeardMarkIsComparedWithTheOpenPeriod := by
  unfold Obligations.HeardMarkIsComparedWithTheOpenPeriod
  intro s ch f hd
  have hexec : exec (.mark ch f) s = .next ((s.heard ch f).heardMark f.period f.source.toNat) :=
    congrArg Host.Outcome.next (State.receive_of_delivers hd _)
  rw [hexec]
  refine ⟨fun ha => ?_, fun ha => ?_, fun p ha hp => ?_⟩
  · rw [State.heardMark_starting (s := s.heard ch f) ha]
  · rw [State.heardMark_unconfigured (s := s.heard ch f) ha]
  · obtain ⟨hsame, hnext, hjump, hstale⟩ :=
      State.heardMark_accounting (s := s.heard ch f) ha hp f.period f.source.toNat
    exact ⟨fun h => congrArg _ (hsame h), fun h => congrArg _ (hnext h), fun h2 hle => congrArg _ (hjump h2 hle),
      fun h => congrArg _ (hstale h)⟩

/-- Evidence in ACCOUNTING, by how far its number lies past the open one (R17, R18). -/
theorem State.evidence_accounting {s : State} {p : Period} (ha : s.time.accounting = .accounting)
    (hp : s.openNumber = some p) (n : Period) (station : Nat) :
    (n = p → s.evidence n station = s.boundary none (n + 1) (.evidence station))
    ∧ (1 ≤ (n - p).toNat → (n - p).toNat ≤ 32766 →
        s.evidence n station = s.boundary (some (n - p).toNat) (n + 1) (.evidence station))
    ∧ (32767 ≤ (n - p).toNat → s.evidence n station = s) := by
  have hev : s.evidence n station =
      if n = p then s.boundary none (n + 1) (.evidence station)
      else if isNewer n p && periodsAfter n p != 32767 then
        s.boundary (some (periodsAfter n p)) (n + 1) (.evidence station)
      else s := by
    simp only [State.evidence, ha, hp]
  have hjump : (isNewer n p && periodsAfter n p != 32767) = true ↔ 1 ≤ (n - p).toNat ∧ (n - p).toNat ≤ 32766 := by
    rw [Bool.and_eq_true, isNewer_iff, bne_iff_ne, show periodsAfter n p = (n - p).toNat from rfl]
    omega
  rw [hev]
  refine ⟨fun h => if_pos h, fun h1 hle => ?_, fun hbig => ?_⟩
  · rw [if_neg (fun h0 => by have := eq_of_sub_eq_zero.mp h0; omega), if_pos (hjump.mpr ⟨h1, hle⟩)]
    rfl
  · rw [if_neg (fun h0 => by have := eq_of_sub_eq_zero.mp h0; omega), if_neg (fun h => by have := hjump.mp h; omega)]

/-- Settles O35: the evidence by how far its number lies past the open one. -/
theorem evidenceMakesTheBoundary : Obligations.EvidenceMakesTheBoundary := by
  unfold Obligations.EvidenceMakesTheBoundary
  refine fun s n station => ⟨⟨rfl, rfl⟩, fun ha => ?_, fun p ha hp => State.evidence_accounting ha hp n station⟩
  simp only [State.evidence, ha]

/-! ### Expiry and solo wait (R10, R22) -/

/-- Settles O11: by when the expiry and the end of the solo wait are due. -/
theorem expiryAndSoloWaitMakeTheirBoundary : Obligations.ExpiryAndSoloWaitMakeTheirBoundary := by
  unfold Obligations.ExpiryAndSoloWaitMakeTheirBoundary
  intro s c hc
  have hexpiry : s.expiryDue = true ↔ s.time.accounting = .accounting ∧ c.periodLength ≤ s.time.seconds := by
    simp [State.expiryDue_iff, hc]
  have hsolo : s.soloDue = true ↔ s.time.accounting = .starting ∧ 2 * c.periodLength ≤ s.time.seconds := by
    simp [State.soloDue_iff, hc]
  simp only [exec, execPeriodExpiry, execSoloWaitEnd]
  refine ⟨fun p ha hp hle => ?_, fun ha hle => ?_, fun h => ?_, fun h => ?_⟩
  · rw [if_pos (hexpiry.mpr ⟨ha, hle⟩), State.ownExpiry, hp]
    rfl
  · rw [if_pos (hsolo.mpr ⟨ha, hle⟩)]
    rfl
  · rw [if_neg]
    rw [hexpiry]
    rintro ⟨ha, hle⟩
    rcases h with h | h
    · exact h ha
    · omega
  · rw [if_neg]
    rw [hsolo]
    rintro ⟨ha, hle⟩
    rcases h with h | h
    · exact h ha
    · omega

/-! ### Seconds (R4 to R7) -/

/-- What is due hangs on the configuration, the book, the accounting state, the count and the sample tick. -/
theorem State.nothingDue_congr {s t : State} (hc : t.settings = s.settings) (hb : t.book = s.book)
    (ha : t.time.accounting = s.time.accounting) (hs : t.time.seconds = s.time.seconds)
    (hd : t.time.sampleDue = s.time.sampleDue) : t.nothingDue ↔ s.nothingDue := by
  simp only [State.nothingDue, State.waitsOver, State.expiryDue, State.soloDue, hc, hb, ha, hs, hd]

/-- The state after the loss of the second pulse (R5). -/
theorem execLossWatchExpiry_eq {s : State} (hw : s.time.lossWatch = true) (hs : s.time.source = .external) :
    execLossWatchExpiry s = .next (State.refreshAlerts (State.flagOpen
      { s with time := { s.time with source := .fallback, lossWatch := false, timebase := true } }
      EntryFlags.withTimebase)) := by
  unfold execLossWatchExpiry
  rw [if_pos (by simp [hw, hs])]

/-- Settles O9: each event by its own condition. -/
theorem secondsAndTheirLossDriveTheTimeBase : Obligations.SecondsAndTheirLossDriveTheTimeBase := by
  unfold Obligations.SecondsAndTheirLossDriveTheTimeBase
  refine ⟨fun s => ⟨rfl, fun line => ?_⟩, fun s => ⟨fun h => ?_, fun hw hs => ?_⟩⟩
  · dsimp only
    have hpulse (h : s.pulsePossible line .second = true) :
        exec (.secondPulse line) s = .next (s.setLevel line (s.countedEdge line)).secondPulse :=
      congrArg Host.Outcome.next (if_pos h)
    refine ⟨fun h => ?_, fun h hi => ?_, fun h hi => ?_, fun h hi hdue => ?_⟩
    · simp [exec, execSecondPulse, h]
    · rw [hpulse h, State.secondPulse, State.setLevel_time, if_pos hi]
    · rw [hpulse h, State.secondPulse, State.setLevel_time, if_neg hi]
      rfl
    · have hmoved := (State.nothingDue_congr (s := s) (t := s.setLevel line (s.countedEdge line)) rfl rfl rfl rfl rfl).mpr hdue
      rw [hpulse h, State.secondPulse, State.setLevel_time, if_neg hi, State.overdue_of_nothingDue hmoved]
      have hexternal : (s.setLevel line (s.countedEdge line)).toExternal.nothingDue :=
        (State.nothingDue_congr rfl rfl rfl rfl rfl).mpr hmoved
      show _ = Host.Outcome.next (s.setLevel line (s.countedEdge line)).toExternal.baseTick
      rw [State.baseTick, State.overdue_of_nothingDue hexternal]
  · show execLossWatchExpiry s = _
    unfold execLossWatchExpiry
    rw [if_neg (by simpa using h)]
  · refine ⟨_, execLossWatchExpiry_eq hw hs, rfl, rfl, ?_⟩
    rw [flagOpenedIf_pos trivial]
    rfl

end Sys2Proof.Machine
end

section
/-! SUPPORT. The base tick: what is overdue, the order in which it is carried out, and the count (R8 to R10, R22, R38, R70; log
entry 5). -/

namespace Sys2Proof.Machine

open Sys2Proof

/-! ### What holds of every entry through a boundary -/

section
variable {P : Entry → Prop}

/-- What a strike gives its entry, every entry has after a strike. -/
theorem State.strike_forall_entries {s : State} {e : Entry} (hstruck : P (s.struckEntry e))
    (hs : ∀ x ∈ s.book.entries, P x) : ∀ x ∈ (s.strike e).book.entries, P x := by
  rw [State.strike_entries]
  split
  · exact hs
  · intro x hx
    rcases mem_replaceEntry hx with rfl | ⟨hx, -⟩
    · exact hstruck
    · exact hs x hx

theorem State.evict_forall_entries {s : State} (hs : ∀ x ∈ s.book.entries, P x)
    (hstruck : ∀ (u : State) (e : Entry), P e → P (u.struckEntry e)) : ∀ x ∈ s.evict.book.entries, P x := by
  unfold State.evict
  split; · exact hs
  split; · exact hs
  next e rest he =>
  have hm : e ∈ s.book.entries := by simp [he]
  dsimp only
  split
  · exact fun x hx => State.strike_forall_entries (hstruck s e (hs e hm)) hs x (List.mem_of_mem_drop hx)
  · exact fun x hx => hs x (List.mem_of_mem_drop hx)

theorem State.removeNumber_forall_entries {s : State} (hs : ∀ x ∈ s.book.entries, P x)
    (hstruck : ∀ (u : State) (e : Entry), P e → P (u.struckEntry e)) (number : Option Period) :
    ∀ x ∈ (s.removeNumber number).book.entries, P x := by
  unfold State.removeNumber
  split; · exact hs
  split; · exact hs
  next e he =>
  have hm := hs e (State.held_some he).2
  exact fun x hx => State.strike_forall_entries (hstruck s e hm) hs x (List.mem_of_mem_filter hx)

theorem State.addEntry_forall_entries {s : State} (hs : ∀ x ∈ s.book.entries, P x)
    (hnew : ∀ (u : State) c number cause, P (newEntry u c number cause)) (number : Option Period) (cause : Cause) :
    ∀ x ∈ (s.addEntry number cause).book.entries, P x := by
  unfold State.addEntry
  split
  · exact hs
  · rw [List.forall_mem_append, List.forall_mem_singleton]
    exact ⟨hs, hnew _ _ _ _⟩

theorem State.closeOpen_forall_entries {s : State} (hs : ∀ x ∈ s.book.entries, P x) (kind : EntryKind)
    (hclosed : ∀ c e, s.settings = some c → s.openEntry = some e → P (s.closedForm c kind e)) :
    ∀ x ∈ (s.closeOpen kind).book.entries, P x := by
  cases hc : s.settings with
  | none => rwa [State.closeOpen_none (.inl hc)]
  | some c =>
    cases he : s.openEntry with
    | none => rwa [State.closeOpen_none (.inr he)]
    | some e =>
      rw [State.closeOpen_entries hc he]
      intro x hx
      rcases mem_replaceEntry hx with rfl | ⟨hx, -⟩
      · exact hclosed c e hc he
      · exact hs x hx

/-- What a strike, PRE-ZERO, the close and the open give an entry, every entry has after a boundary. -/
theorem State.boundary_forall_entries {s : State} (hs : ∀ x ∈ s.book.entries, P x)
    (hstruck : ∀ (u : State) (e : Entry), P e → P (u.struckEntry e)) (hzero : ∀ e : Entry, P e → P e.withPreZero)
    (hclosed : ∀ c kind e, s.settings = some c → s.openEntry = some e → P (s.closedForm c kind e))
    (hnew : ∀ (u : State) c number cause, P (newEntry u c number cause)) (passed : Option Nat) (n : Period) (cause : Cause) :
    ∀ x ∈ (s.boundary passed n cause).book.entries, P x := by
  have hbefore : ∀ x ∈ (s.beforeOpen passed).book.entries, P x := by
    rw [State.beforeOpen_entries]
    exact State.closeOpen_forall_entries hs _ fun c e => hclosed c _ e
  have hremoved := State.removeNumber_forall_entries (State.evict_forall_entries hbefore hstruck) hstruck (some n)
  rw [State.boundary_book]
  refine State.addEntry_forall_entries ?_ hnew _ _
  split
  · exact fun x hx => by
      obtain ⟨e, he, rfl⟩ := List.mem_map.mp hx
      exact hzero e (hremoved e he)
  · exact hremoved

end

/-! ### Which waits are over -/

theorem State.waitsOver_eq {s : State} {c : Settings} (hc : s.settings = some c) :
    s.waitsOver = s.book.entries.filter fun e => e.waitOver c.wait := by
  simp only [State.waitsOver, hc]

/-- The wait of an entry that is not SETTLING is not over. -/
theorem Entry.waitOver_of_ne {e : Entry} (h : e.state ≠ .settling) (wait : Nat) : e.waitOver wait = false := by
  simp [Entry.waitOver, h]

/-- An entry that has just closed has waited for no second yet. -/
theorem State.closedForm_waitOver (s : State) (c : Settings) (kind : EntryKind) (e : Entry) {wait : Nat} (h : 1 ≤ wait) :
    (s.closedForm c kind e).waitOver wait = false := by
  unfold State.closedForm
  split
  · exact Entry.waitOver_of_ne (by simp) _
  · have : ¬wait ≤ 0 := by omega
    simp [Entry.waitOver, closedEntry_fields, this]

/-- A boundary of a book in which no wait is over leaves no wait over. -/
theorem State.boundary_waitsOver {s : State} {c : Settings} (hc : s.settings = some c) (hwait : 1 ≤ c.wait)
    (h : s.waitsOver = []) (passed : Option Nat) (n : Period) (cause : Cause) :
    (s.boundary passed n cause).waitsOver = [] := by
  rw [State.waitsOver_eq hc, List.filter_eq_nil_iff] at h
  rw [State.waitsOver_eq (c := c) (by simpa using hc), List.filter_eq_nil_iff]
  refine State.boundary_forall_entries h (fun u e _ => ?_) (fun e he => he) (fun c' kind e _ _ => ?_) (fun u c' number cause => ?_)
    passed n cause
  · simp [Entry.waitOver_of_ne]
  · simp [State.closedForm_waitOver _ _ _ _ hwait]
  · simp [Entry.waitOver_of_ne, newEntry]

/-- Filtering a list in which an entry was put back that does not pass the test. -/
theorem filter_replaceEntry {p : Entry → Bool} {x : Entry} (hx : p x = false) (es : List Entry) :
    (replaceEntry x es).filter p = (es.filter p).filter fun y => y.number != x.number := by
  induction es with
  | nil => rfl
  | cons y es ih =>
    rw [show replaceEntry x (y :: es) = (if y.number == x.number then x else y) :: replaceEntry x es from rfl]
    by_cases hy : y.number = x.number <;> by_cases hp : p y = true <;> simp [hy, hx, hp, ih, -List.filter_filter]

/-- The strike of the oldest entry whose wait is over leaves the others waiting to strike. -/
theorem State.strike_waitsOver {s : State} {c : Settings} {e : Entry} {rest : List Entry} (hs : s.book.formed)
    (hc : s.settings = some c) (h : s.waitsOver = e :: rest) : (s.strike e).waitsOver = rest := by
  have hstate : e.state = .settling := State.settling_of_mem_waitsOver (s := s) (by simp [h])
  have hnodup : ((e :: rest).map Entry.number).Nodup := h ▸ (s.waitsOver_sublist.map _).nodup hs.2.1
  rw [List.map_cons, List.nodup_cons] at hnodup
  rw [State.waitsOver_eq (c := c) (by simpa using hc), State.strike_entries, if_neg (by simp [hstate]),
    filter_replaceEntry (Entry.waitOver_of_ne (by simp) _), ← State.waitsOver_eq hc, h, State.struckEntry_number,
    List.filter_cons_of_neg (by simp), List.filter_eq_self]
  intro y hy
  have hne : y.number ≠ e.number := fun hn => hnodup.1 (hn ▸ List.mem_map_of_mem hy)
  simpa using hne

/-- In a well-formed book the entry of a number is the one held for it. -/
theorem State.held_of_mem {s : State} (hs : s.book.formed) {e : Entry} {n : Period} (he : e ∈ s.book.entries)
    (hn : e.number = some n) : s.held n = some e := by
  cases hx : s.held n with
  | none => exact absurd hn (by simpa using List.find?_eq_none.mp hx e he)
  | some x =>
    obtain ⟨hxn, hxm⟩ := State.held_some hx
    rw [hs.eq_of_number hxm he (hxn.trans hn.symm)]

/-! ### What is overdue (log entry 5) -/

theorem State.overdue_of_measuring {s : State} {c : Settings} (hc : s.settings = some c) (hm : s.measuring = true) :
    s.overdue = s.discharge := by
  simp [State.overdue, hc, hm]

theorem State.measuring_iff (s : State) :
    s.measuring = true ↔ s.time.accounting = .starting ∨ s.time.accounting = .accounting := by
  simp [State.measuring]

/-- Two measuring stations that carry out the same have the same base tick. -/
theorem State.baseTick_of_discharge {s t : State} {c : Settings} (hs : s.settings = some c) (ht : t.settings = some c)
    (hms : s.measuring = true) (hmt : t.measuring = true) (h : s.discharge = t.discharge) : s.baseTick = t.baseTick := by
  rw [State.baseTick, State.baseTick, State.overdue_of_measuring hs hms, State.overdue_of_measuring ht hmt, h]

/-- The first strike of what is overdue may be made before it. -/
theorem State.discharge_strike {s : State} {e : Entry} {rest : List Entry} (h : s.waitsOver = e :: rest)
    (hrest : (s.strike e).waitsOver = rest) : s.discharge = (s.strike e).discharge := by
  simp only [State.discharge, h, hrest, List.foldl_cons]

/-- With no strike due, a due expiry may be made before what is overdue. -/
theorem State.discharge_ownExpiry {s : State} (h : s.waitsOver = []) (hdue : s.expiryDue = true)
    (hwaits : s.ownExpiry.waitsOver = []) (hdone : s.ownExpiry.expiryDue = false) : s.discharge = s.ownExpiry.discharge := by
  simp only [State.discharge, h, hwaits, hdue, hdone, List.foldl_nil, if_true, Bool.false_eq_true, if_false]

/-- With nothing else due, the end of the solo wait may be made before what is overdue. -/
theorem State.discharge_soloEnd {s : State} (h : s.waitsOver = []) (hexpiry : s.expiryDue = false) (hdue : s.soloDue = true)
    (hwaits : s.soloEnd.waitsOver = []) (hnone : s.soloEnd.expiryDue = false) (hdone : s.soloEnd.soloDue = false) :
    s.discharge = s.soloEnd.discharge := by
  simp only [State.discharge, h, hwaits, hexpiry, hdue, hnone, hdone, List.foldl_nil, if_true, Bool.false_eq_true, if_false]

/-- With only the sample tick due, it may reach the meter port before what is overdue. -/
theorem State.discharge_takeSample {s : State} (h : s.waitsOver = []) (hexpiry : s.expiryDue = false)
    (hsolo : s.soloDue = false) (hdue : s.time.sampleDue = true) (hdone : s.takeSample.nothingDue) :
    s.discharge = s.takeSample.discharge := by
  rw [State.discharge_of_nothingDue hdone]
  simp only [State.discharge, h, hexpiry, hsolo, hdue, List.foldl_nil, if_true, Bool.false_eq_true, if_false]

theorem State.waitsOver_congr {s t : State} (hc : t.settings = s.settings) (hb : t.book = s.book) :
    t.waitsOver = s.waitsOver := by
  simp only [State.waitsOver, hc, hb]

theorem State.expiryDue_false {t : State} {c : Settings} (hc : t.settings = some c)
    (h : t.time.accounting ≠ .accounting ∨ t.time.seconds < c.periodLength) : t.expiryDue = false := by
  rw [Bool.eq_false_iff]
  intro ht
  obtain ⟨c', hc', ha, hle⟩ := t.expiryDue_iff.mp ht
  obtain rfl : c = c' := Option.some.inj (hc.symm.trans hc')
  rcases h with h | h
  · exact h ha
  · omega

theorem State.soloDue_false {t : State} (h : t.time.accounting ≠ .starting) : t.soloDue = false := by
  rw [Bool.eq_false_iff]
  intro ht
  obtain ⟨c, -, ha, -⟩ := t.soloDue_iff.mp ht
  exact h ha

/-- A boundary that follows what was due, with its MARK handed over, leaves nothing but a sample tick due. -/
theorem State.boundary_handOver_due {s : State} {c : Settings} (hc : s.settings = some c) (hwait : 1 ≤ c.wait)
    (hlen : 1 ≤ c.periodLength) (hm : s.measuring = true) (h : s.waitsOver = []) (n : Period) (cause : Cause) (r : Record) :
    let t := (s.boundary none n cause).handOver r
    t.settings = some c ∧ t.measuring = true ∧ t.waitsOver = [] ∧ t.expiryDue = false ∧ t.soloDue = false := by
  obtain ⟨hacc, hsec⟩ := State.boundary_accounting (s.measuring_iff.mp hm) none n cause
  dsimp only
  have hset : ((s.boundary none n cause).handOver r).settings = some c := by simpa using hc
  refine ⟨hset, by simp [State.measuring, hacc], ?_, State.expiryDue_false hset (.inr ?_), State.soloDue_false ?_⟩
  · rw [State.waitsOver_congr (s := s.boundary none n cause) (by simp) (by simp)]
    exact State.boundary_waitsOver hc hwait h none n cause
  · rw [State.handOver_time, hsec]; omega
  · rw [State.handOver_time, hacc]; simp

/-! ### Each event that is overdue may come as its own command first -/

section
variable {s : State} {c : Settings} (hc : s.settings = some c) (hm : s.measuring = true)
include hc hm

theorem baseTick_waitTimerExpiry (hs : s.book.formed) {e : Entry} {rest : List Entry} {n : Period}
    (h : s.waitsOver = e :: rest) (hn : e.number = some n) :
    ∃ t, exec (.waitTimerExpiry n) s = .next t ∧ t.waitsOver = rest ∧ s.baseTick = t.baseTick := by
  have hmem : e ∈ s.waitsOver := by simp [h]
  have hover : e.waitOver c.wait = true := by
    rw [State.waitsOver_eq hc] at hmem
    exact (List.mem_filter.mp hmem).2
  have hrest := State.strike_waitsOver hs hc h
  refine ⟨s.strike e, ?_, hrest, State.baseTick_of_discharge hc (by simpa using hc) hm (by simpa [State.measuring] using hm)
    (State.discharge_strike h hrest)⟩
  simp [exec, execWaitTimerExpiry, hc, State.held_of_mem hs (s.waitsOver_sublist.subset hmem) hn, hover]

theorem baseTick_periodExpiry (hwait : 1 ≤ c.wait) (hlen : 1 ≤ c.periodLength) (h : s.waitsOver = [])
    (hdue : s.expiryDue = true) : ∃ t, exec .periodExpiry s = .next t ∧ s.baseTick = t.baseTick := by
  refine ⟨s.ownExpiry, congrArg Host.Outcome.next (if_pos hdue), ?_⟩
  cases hp : s.openNumber with
  | none => rw [show s.ownExpiry = s by simp only [State.ownExpiry, hp]]
  | some p =>
    have hown : s.ownExpiry = (s.boundary none (p + 1) .ownExpiry).handOver (markRecord (p + 1)) := by
      simp only [State.ownExpiry, hp]
    obtain ⟨hset, hmeas, hwaits, hexp, -⟩ :=
      State.boundary_handOver_due hc hwait hlen hm h (p + 1) .ownExpiry (markRecord (p + 1))
    rw [← hown] at hset hmeas hwaits hexp
    exact State.baseTick_of_discharge hc hset hm hmeas (State.discharge_ownExpiry h hdue hwaits hexp)

theorem baseTick_soloWaitEnd (hwait : 1 ≤ c.wait) (hlen : 1 ≤ c.periodLength) (h : s.waitsOver = [])
    (hdue : s.soloDue = true) : ∃ t, exec .soloWaitEnd s = .next t ∧ s.baseTick = t.baseTick := by
  refine ⟨s.soloEnd, congrArg Host.Outcome.next (if_pos hdue), ?_⟩
  obtain ⟨c', -, ha, -⟩ := s.soloDue_iff.mp hdue
  obtain ⟨hset, hmeas, hwaits, hexp, hsolo⟩ := State.boundary_handOver_due hc hwait hlen hm h 1 .soloStart (markRecord 1)
  exact State.baseTick_of_discharge hc hset hm hmeas
    (State.discharge_soloEnd h (State.expiryDue_false hc (.inl (by simp [ha]))) hdue hwaits hexp hsolo)

theorem baseTick_sampleTick (h : s.waitsOver = []) (hexpiry : s.expiryDue = false) (hsolo : s.soloDue = false)
    (hdue : s.time.sampleDue = true) : ∃ t, exec .sampleTick s = .next t ∧ s.baseTick = t.baseTick := by
  have htime : s.takeSample.time = { s.time with sampleDue := false } := by
    unfold State.takeSample
    rw [hc]
    dsimp only
    split <;> rfl
  have hnone : s.takeSample.nothingDue := by
    refine ⟨(State.waitsOver_congr (by simp) (by simp)).trans h, ?_, ?_, by rw [htime]⟩
    · simpa [State.expiryDue, htime] using hexpiry
    · simpa [State.soloDue, htime] using hsolo
  refine ⟨s.takeSample, congrArg Host.Outcome.next (if_pos hdue), ?_⟩
  exact State.baseTick_of_discharge hc (by simpa using hc) hm (by simpa [State.measuring] using hm)
    (State.discharge_takeSample h hexpiry hsolo hdue hnone)

end

/-! ### The count (R8, R9, R38, R70) -/

/-- An active line by its level and polarity (R27). -/
theorem lineActive_iff (setup : LineSetup) (line : InputLine) :
    lineActive setup line = true ↔ line.level = if setup.polarity = .risingHigh then Level.high else .low := by
  unfold lineActive
  cases setup.polarity <;> simp [Polarity.activeLevel]

/-- When a base tick adds a run second (R38). -/
theorem State.runs_iff {s : State} {c : Settings} (hc : s.settings = some c) : s.runs = true ↔ c.role = .line
    ∧ ((∀ i : Fin 8, ¬c.lines[i].role = .running) ∨ ∃ i : Fin 8, c.lines[i].role = .running
        ∧ s.inputs[i].level = if c.lines[i].polarity = .risingHigh then Level.high else .low) := by
  simp only [State.runs, State.isLine, State.role, State.hasRole, State.anyActive, hc, Bool.and_eq_true, Bool.or_eq_true,
    Bool.not_eq_true', List.any_eq_true, List.any_eq_false, List.mem_finRange, true_and, true_implies, beq_iff_eq,
    lineActive_iff, Option.map_some, Option.some.injEq]

theorem Settings.wait_eq (c : Settings) : c.wait = if c.role = .line then c.t2 else c.t1 := by
  unfold Settings.wait
  cases c.role <;> rfl

/-- Settles O10: the count with nothing overdue, when each event is due, and each event made as its own command first. -/
theorem baseTickCountsOneSecond : Obligations.BaseTickCountsOneSecond := by
  unfold Obligations.BaseTickCountsOneSecond
  intro s
  refine ⟨fun hns hna => ?_, fun c hc ha => ?_⟩
  · have hm : s.measuring = false := by simp [State.measuring, hns, hna]
    rw [State.baseTick, State.overdue, if_neg (by simp [hm]), State.countTick]
    split
    · rfl
    · rw [if_neg (by simp [hm])]
  · have hm : s.measuring = true := s.measuring_iff.mpr ha
    dsimp only
    rw [← Settings.wait_eq]
    refine ⟨fun hdue => ?_, ?_, ?_, ?_, fun hs hwait hlen => ⟨fun e rest n h hn => baseTick_waitTimerExpiry hc hm hs h hn,
      baseTick_periodExpiry hc hm hwait hlen, baseTick_soloWaitEnd hc hm hwait hlen, baseTick_sampleTick hc hm⟩⟩
    · rw [State.baseTick, State.overdue_of_nothingDue hdue]
      have hsample : ((s.time.seconds + 1) % c.interval == 0) = decide (c.interval ∣ s.time.seconds + 1) := by
        rw [Bool.eq_iff_iff]; simp [Nat.dvd_iff_mod_eq_zero]
      rw [if_congr (State.runs_iff hc).symm rfl rfl]
      simp only [State.countTick, hc, hm, if_true, State.countSecond, hsample]
      cases s.runs <;> rfl
    · rw [State.waitsOver_eq hc]
      congr 1
      funext e
      rw [Entry.waitOver, Bool.decide_and]
      rfl
    · simp [State.expiryDue_iff, hc]
    · simp [State.soloDue_iff, hc]

end Sys2Proof.Machine
end

section
/-! SUPPORT. Tallies and allotments against the book, each way by its own condition (R73, R74, R85 to R92, R110 to R116). -/

namespace Sys2Proof.Machine

open Sys2Proof

/-! ### A taken record -/

/-- The evidence of a delivered record: the station whose book the record then meets. -/
def State.afterEvidence (s : State) (ch : Chan) (f : Frame) : State :=
  (s.heard ch f).evidence f.period f.source.toNat

@[simp] theorem State.afterEvidence_settings (s : State) (ch : Chan) (f : Frame) :
    (s.afterEvidence ch f).settings = s.settings := State.evidence_settings _ _ _

/-- A delivered record that is ahead is late, and another goes to the book (R18, R73). -/
theorem State.receive_takeRecord {s : State} {row : FrameRow} {ch : Chan} {f : Frame} (hd : s.delivers row ch f)
    (take : State → State) :
    (s.isAhead f.period = true → (s.receive row ch f fun t => t.takeRecord f.period f.source.toNat take)
        = (s.afterEvidence ch f).dropLate)
      ∧ (¬s.isAhead f.period = true → (s.receive row ch f fun t => t.takeRecord f.period f.source.toNat take)
        = take (s.afterEvidence ch f)) := by
  rw [State.receive_of_delivers hd]
  exact ⟨fun h => if_pos h, fun h => if_neg h⟩

/-- Putting an entry back, spelled out. -/
theorem replaceEntry_eq (e : Entry) (es : List Entry) :
    replaceEntry e es = es.map fun x => if x.number = e.number then e else x := by
  simp only [replaceEntry, beq_iff_eq]

/-! ### The division of energy -/

/-- When a specific energy consumption would pass 65,535: rounded half up, from 65,535.5 on (R97, R121). -/
theorem specificEnergySaturates_iff (e d : Nat) :
    specificEnergySaturates e d = true ↔ 0 < d ∧ 131071 * d ≤ 20000 * e := by
  have hround : Config.counterLimit < roundHalfUp (10000 * e) d ↔
      65535 < 10000 * e / d + if d ≤ 2 * (10000 * e % d) then 1 else 0 := .rfl
  rw [specificEnergySaturates, Bool.and_eq_true, decide_eq_true_iff, bne_iff_ne, hround, ← Nat.pos_iff_ne_zero]
  refine and_congr_right fun hd => ?_
  have hn : d * (10000 * e / d) + 10000 * e % d = 10000 * e := Nat.div_add_mod _ _
  have hr : 10000 * e % d < d := Nat.mod_lt _ hd
  rcases Nat.lt_trichotomy (10000 * e / d) 65535 with hq | hq | hq
  · have hle : d * (10000 * e / d) ≤ d * 65534 := Nat.mul_le_mul_left d (by omega)
    split <;> omega
  · rw [hq] at hn ⊢
    split <;> omega
  · have hle : d * 65536 ≤ d * (10000 * e / d) := Nat.mul_le_mul_left d (by omega)
    split <;> omega

/-- The sum of the shares of the listed items, over all the items. -/
theorem distributed_eq (e : Nat) (items : List ContributorItem) :
    distributed e items = (items.map fun i : ContributorItem =>
      if i.state = .excluded ∨ basisTotal items = 0 then 0 else e * i.basis / basisTotal items).sum := by
  unfold distributed
  generalize basisTotal items = b
  induction items with
  | nil => rfl
  | cons i items ih =>
    rw [listedItems] at ih ⊢
    by_cases hi : i.state = .excluded <;> simp [hi, ← ih, shareOf]

/-! ### TALLY -/

section
variable {u : State} {c : Settings} {f : Frame} {e : Entry} {p : AllotPart} (hc : u.settings = some c)
  (he : u.held f.period = some e) (hp : e.part = .apportioning p)
include hc he hp

/-- A tally against the SETTLING entry of its period (R87). -/
theorem State.tallyToBook_settling (hs : e.state = .settling) :
    u.tallyToBook f = (u.updateLastBasis f.source.toNat (tallyBasis c.basis f)).tallySettling e p f.source.toNat
      (tallyBasis c.basis f) := by
  simp only [State.tallyToBook, hc, he, hp, hs]

/-- A tally against the STRUCK entry of its period: the item RECEIVED, the last revision reached, or a revision (R88 to R90). -/
theorem State.tallyToBook_struck (hs : e.state = .struck) {i : ContributorItem}
    (hi : (p.items.find? fun x => x.station == f.source.toNat) = some i) :
    u.tallyToBook f =
      let v := u.updateLastBasis f.source.toNat (tallyBasis c.basis f)
      if i.state = .received then v
      else if p.revision < 3 then
        v.reviseAllot (v.role.getD .pool) f.period e p f.source.toNat (tallyBasis c.basis f)
      else v.dropLate := by
  simp only [State.tallyToBook, hc, he, hp, hs, State.tallyStruck, hi]

end

/-- The new last basis leaves the stations of the table. -/
theorem insertItem_setLast (table : List Peer) (station basis n value : Nat) (items : List ContributorItem) :
    insertItem (setLast n value table) station basis items = insertItem table station basis items := by
  simp only [insertItem, setLast, List.filterMap_map]
  congr 1
  funext x
  simp only [Function.comp]
  split <;> rfl

theorem allReceived_setLast (table : List Peer) (n value : Nat) (items : List ContributorItem) :
    allReceived (setLast n value table) items = allReceived table items := by
  simp only [allReceived, setLast, List.all_map]
  congr 1
  funext x
  simp only [Function.comp]
  split <;> rfl

theorem allReceived_iff (table : List Peer) (items : List ContributorItem) :
    allReceived table items = true ↔ ∀ peer ∈ table, ∃ i ∈ items, i.station = peer.station ∧ i.state = .received := by
  simp [allReceived]

/-- The station that a revision by a late tally hands its ALLOTMENT over from (R88, R102, R103). -/
def State.revisedAllot (s : State) (role : Role) (e : Entry) (p : AllotPart) (items : List ContributorItem) : State :=
  let q := { p with revision := p.revision + 1 }
  let u := s.putEntry (e.withItems q role items).revised
  State.setService { u with book := { u.book with allot :=
    if e.flags.preZero then s.book.allot else s.book.allot.addRevision p (q.withItems role items) } }

theorem State.reviseAllot_eq (s : State) (role : Role) (n : Period) (e : Entry) (p : AllotPart) (station basis : Nat) :
    s.reviseAllot role n e p station basis =
      let items := receiveItem station basis p.items
      let q := { p with revision := p.revision + 1 }
      (s.revisedAllot role e p items).handOver
        (allotmentRecord n (e.withItems q role items).revised.flags (q.withItems role items)) := rfl

/-- An entry with its items and figures, spelled out with the SATURATED test of its SEC. -/
theorem Entry.withItems_saturated (e : Entry) (p : AllotPart) (role : Role) (items : List ContributorItem) :
    (e.withItems p role items).flags = { e.flags with
      estimated := items.any fun i => i.state == .estimated
      noBasis := basisTotal items == 0
      saturated := e.flags.saturated
        || decide (role = .furnace ∧ 0 < basisTotal items ∧ 131071 * basisTotal items ≤ 20000 * p.e) } := by
  have hsat : (role == .furnace && specificEnergySaturates p.e (basisTotal items))
      = decide (role = .furnace ∧ 0 < basisTotal items ∧ 131071 * basisTotal items ≤ 20000 * p.e) := by
    rw [Bool.eq_iff_iff, Bool.and_eq_true, specificEnergySaturates_iff, beq_iff_eq, decide_eq_true_iff]
  rw [← hsat]
  rfl

/-- Settles O36: the evidence, then each way that the entry of the period takes the tally. -/
theorem tallyIsTakenAgainstItsEntry : Obligations.TallyIsTakenAgainstItsEntry := by
  unfold Obligations.TallyIsTakenAgainstItsEntry
  intro s ch f c role hd hc hrole station u field basis v sum ahead
  have hahead : s.isAhead f.period = true ↔ ahead := s.isAhead_iff f.period
  obtain ⟨hlate, htaken⟩ := State.receive_takeRecord hd fun t => t.tallyToBook f
  have hu : u.settings = some c := by rw [← hc]; exact s.afterEvidence_settings ch f
  have hbasis : tallyBasis c.basis f = basis := by
    simp only [basis, tallyBasis]
    cases c.basis <;> rfl
  have hexec (h : ¬ahead) : exec (.tally ch f) s = .next (u.tallyToBook f) :=
    congrArg Host.Outcome.next (htaken (hahead.not.mpr h))
  have hlast : u.updateLastBasis f.source.toNat (tallyBasis c.basis f) = v := by rw [hbasis]; rfl
  have htable : v.contributors = setLast station basis u.contributors := rfl
  refine ⟨fun h => ?_, fun x k e => ⟨rfl, ?_⟩, fun x => rfl, fun e p hn he hp => ?_⟩
  · by_cases ha : ahead
    · exact congrArg Host.Outcome.next (hlate (hahead.mpr ha))
    · rw [hexec ha]
      simp only [State.tallyToBook, hu, h.resolve_left ha]
  · rw [← replaceEntry_eq]
    rfl
  · intro items taken complete
    have hitems : insertItem v.contributors station basis p.items = items := by
      rw [htable, insertItem_setLast]
      rfl
    have hcomplete : allReceived v.contributors items = true ↔ complete := by
      rw [htable, allReceived_setLast]
      exact allReceived_iff _ _
    have hsettling (hs : e.state = .settling) : exec (.tally ch f) s
        = .next (if allReceived v.contributors items then (v.putEntry taken).strike taken else v.putEntry taken) := by
      rw [hexec hn, State.tallyToBook_settling hu he hp hs, hlast, hbasis, State.tallySettling, hitems]
      rfl
    refine ⟨fun hs hall => ?_, fun hs hall => ?_, fun i hs hi => ?_⟩
    · rw [hsettling hs, if_pos (hcomplete.mpr hall)]
    · rw [hsettling hs, if_neg (hcomplete.not.mpr hall)]
    · rw [hexec hn, State.tallyToBook_struck hu he hp hs hi, hlast, hbasis]
      refine ⟨fun hr => congrArg _ (if_pos hr), fun hr h3 => ?_, fun hr hlt => ?_⟩
      · dsimp only
        rw [if_neg hr, if_neg (by omega)]
      · intro receive items b share revised shares left estimated
        let q : AllotPart := { p with revision := p.revision + 1 }
        have hpart : q.withItems role items = revised := by
          simp only [AllotPart.withItems, distributed_eq]
          rfl
        have hvrole : v.role.getD .pool = role := by
          rw [show v.role = u.role from rfl, State.role, hu, Option.map_some, hrole]; rfl
        have hallot : v.book.allot.addRevision p (q.withItems role items)
            = { u.book.allot with allotted := u.book.allot.allotted + (shares revised - shares p)
                                  undistributed := u.book.allot.undistributed + (left revised - left p)
                                  basis := u.book.allot.basis + (BitVec.ofNat 48 revised.b - BitVec.ofNat 48 p.b) } := by
          rw [hpart]; rfl
        refine ⟨v.revisedAllot role e p items, (e.withItems q role items).revised, ?_, rfl, ?_, ?_, ?_⟩
        · dsimp only
          rw [if_neg hr, if_pos hlt, State.reviseAllot_eq, hvrole, ← hpart]
          rfl
        · simp only [Entry.revised, Entry.withItems_saturated]
          rw [← hpart]
          rfl
        · rw [← (State.held_some he).1]
          show ({ v.book with entries := replaceEntry _ _, allot := _ } : Book) = _
          rw [replaceEntry_eq]
          rfl
        · rw [← hallot]
          rfl

/-! ### ALLOTMENT -/

/-- What a line takes from an allotment records the allotment's revision (R111). -/
theorem takenShare_revision {own : Option Nat} {f : Frame} {t : TakenShare} (h : takenShare own f = some t) :
    t.figures.revision = f.revision := by
  unfold takenShare at h
  dsimp only at h
  split at h
  · rw [← Option.some.inj h]
  · split at h
    · exact absurd h (by simp)
    · rw [← Option.some.inj h]

/-- The item's recorded revision is lower than r (R113, R114). -/
theorem ShareItem.below_iff (i : ShareItem) (r : Nibble) :
    i.below r = true ↔ ∀ a, i.allotment = some a → a.revision.toNat < r.toNat := by
  unfold ShareItem.below
  cases i.allotment <;> simp

/-- A RECEIVED item of a list was taken from an allotment that does not list this line (R118). -/
theorem sharesExcluded_iff (items : List ShareItem) :
    sharesExcluded items = true ↔ ∃ x ∈ items, x.state = .received ∧ ∀ a, x.allotment = some a → a.listed = none := by
  simp only [sharesExcluded, List.any_eq_true, Bool.and_eq_true, beq_iff_eq, Option.isNone_iff_eq_none, Option.bind_eq_none_iff]

theorem totalOf_eq (b : Bool) : totalOf b = if b then 1 else 0 := by cases b <;> rfl

section
variable {u : State} {f : Frame} {e : Entry} {p : LinePart} (he : u.held f.period = some e) (hp : e.part = .line p)
include he hp

/-- An inconsistent allotment is a format error (R111). -/
theorem State.allotmentToBook_inconsistent (ht : takenShare u.loader.own f = none) :
    u.allotmentToBook f = u.formatError := by
  simp only [State.allotmentToBook, he, hp, ht]

variable {t : TakenShare} {i : ShareItem} (ht : takenShare u.loader.own f = some t)
  (hi : (p.shares.find? fun x => x.station == f.source.toNat) = some i)
include ht hi

/-- A consistent allotment against the SETTLING entry of its period (R112, R113). -/
theorem State.allotmentToBook_settling (hs : e.state = .settling) :
    u.allotmentToBook f = u.allotmentSettling e p i t := by
  simp only [State.allotmentToBook, he, hp, ht, hi, hs]

/-- A consistent allotment against the STRUCK entry of its period (R114, R115). -/
theorem State.allotmentToBook_struck (hs : e.state = .struck) :
    u.allotmentToBook f = u.allotmentStruck e p i t := by
  simp only [State.allotmentToBook, he, hp, ht, hi, hs]

end

/-- An entry of a LINE with its shares, its flags spelled out by the specific energy consumptions of its result (R118, R121). -/
theorem Entry.withShares_flags (e : Entry) (p : LinePart) (shares : List ShareItem) :
    (e.withShares p shares).flags = { e.flags with
      estimated := shares.any fun x => x.state != .received
      excluded := sharesExcluded shares
      saturated := e.flags.saturated
        || specificEnergySaturates (carrierSum e.carriers + shareSum shares) p.good
        || specificEnergySaturates (carrierSum e.carriers + shareSum shares) p.pull } := by
  rw [Bool.or_assoc]
  rfl

/-- The book after the revision of a LINE entry whose share list has become `shares` (R114, R124, R125). -/
theorem State.reviseLine_book (u : State) (e : Entry) (p : LinePart) (old : ShareItem) {t : TakenShare}
    {shares : List ShareItem} (h : replaceShare (receivedItem old.station t) p.shares = shares) :
    (u.reviseLine e p old t).book = { u.book with
      entries := replaceEntry (e.withShares p shares).revised u.book.entries
      line := if e.flags.preZero then u.book.line else
        u.book.line.addRevision old.station old.share t.share ((p.result.map LineResult.eLine).getD 0)
          (lineResult e.carriers { p with shares := shares }).eLine e.flags.estimated (sharesEstimated shares) } := by
  subst h
  rfl

/-- Settles O38: the evidence, then each way that the item of the source takes the allotment. -/
theorem allotmentIsTakenAgainstItsItem : Obligations.AllotmentIsTakenAgainstItsItem := by
  unfold Obligations.AllotmentIsTakenAgainstItsItem
  intro s ch f hd station u ahead
  have hahead : s.isAhead f.period = true ↔ ahead := s.isAhead_iff f.period
  obtain ⟨hlate, htaken⟩ := State.receive_takeRecord hd fun t => t.allotmentToBook f
  have hexec (h : ¬ahead) : exec (.allotment ch f) s = .next (u.allotmentToBook f) :=
    congrArg Host.Outcome.next (htaken (hahead.not.mpr h))
  refine ⟨fun h => ?_, fun e p hn he hp => ⟨fun ht => ?_, fun i share ht hi => ?_⟩⟩
  · by_cases ha : ahead
    · exact congrArg Host.Outcome.next (hlate (hahead.mpr ha))
    · rw [hexec ha]
      simp only [State.allotmentToBook, h.resolve_left ha]
  · rw [hexec hn, State.allotmentToBook_inconsistent he hp ht]
    rfl
  · intro item shares taken newer
    have hstation : i.station = station := by simpa using List.find?_some hi
    have hitem : receivedItem i.station share = item := by rw [hstation]; rfl
    have hshares : replaceShare (receivedItem i.station share) p.shares = shares := by rw [hitem]; rfl
    have hnewer : i.below share.figures.revision = true ↔ newer := by
      rw [takenShare_revision ht]; exact i.below_iff f.revision
    have hall : (shares.all fun x => x.state == .received) = true ↔ ∀ x ∈ shares, x.state = .received := by simp
    have hsettling (hs : e.state = .settling) : exec (.allotment ch f) s = .next (
        if i.state ≠ .received then
          if shares.all fun x => x.state == .received then (u.putEntry taken).strike taken else u.putEntry taken
        else if i.below share.figures.revision then u.putEntry taken else u) := by
      rw [hexec hn, State.allotmentToBook_settling he hp ht hi hs, State.allotmentSettling, hshares]
    have hstruck (hs : e.state = .struck) : exec (.allotment ch f) s = .next (
        if i.state ≠ .received || i.below share.figures.revision then u.reviseLine e p i share else u) := by
      rw [hexec hn, State.allotmentToBook_struck he hp ht hi hs, State.allotmentStruck]
    refine ⟨fun hs hi' ha => ?_, fun hs hi' ha => ?_, fun hs hi' hnew => ?_, fun ho hi' hold => ?_, fun hs hor => ?_⟩
    · rw [hsettling hs, if_pos hi', if_pos (hall.mpr ha)]
    · rw [hsettling hs, if_pos hi', if_neg (hall.not.mpr ha)]
    · rw [hsettling hs, if_neg (by simpa using hi'), if_pos (hnewer.mpr hnew)]
    · cases hs : e.state with
      | opened => exact absurd hs ho
      | settling => rw [hsettling hs, if_neg (by simpa using hi'), if_neg (hnewer.not.mpr hold)]
      | struck => rw [hstruck hs, if_neg (by simpa [hi'] using hnewer.not.mpr hold)]
    · have hrevises : (decide (i.state ≠ .received) || i.below share.figures.revision) = true := by
        rw [Bool.or_eq_true, decide_eq_true_iff, hnewer]; exact hor
      have hbook := u.reviseLine_book e p i hshares
      refine ⟨u.reviseLine e p i share, (e.withShares p shares).revised, lineResult e.carriers { p with shares := shares },
        ?_, rfl, rfl, ?_, ?_, ?_, ?_, ?_, ?_⟩
      · rw [hstruck hs, if_pos hrevises]
      · simp only [Entry.revised, Entry.withShares_flags]
        rfl
      · exact sharesExcluded_iff shares
      · show setLast i.station share.share u.subscriptions = _
        rw [hstation]
        rfl
      · rw [hbook, replaceEntry_eq, ← (State.held_some he).1]
        rfl
      · intro hz
        rw [hbook, if_pos hz]
      · intro hz
        rw [hbook, if_neg (by simp [hz]), LineTotals.addRevision, hstation]
        simp only [totalOf_eq]
        rfl

end Sys2Proof.Machine
end

section
/-! SUPPORT. The end of loading: what a successful load settles (R4, R20, R66, R82, R106, R170, R179, R181). -/

namespace Sys2Proof.Machine

open Sys2Proof

/-! ### The own number (R169, R170) -/

/-- The strap number is the number whose bits are the straps (R169). -/
theorem strapNumber_eq (straps : Straps) :
    strapNumber straps = bitsNumber [straps.st0, straps.st1, straps.st2, straps.st3, straps.st4] := by
  obtain ⟨b0, b1, b2, b3, b4, -⟩ := straps
  cases b0 <;> cases b1 <;> cases b2 <;> cases b3 <;> cases b4 <;> rfl

/-- The strap parity is good when the inputs that are high are odd in number (R169). -/
theorem strapParityGood_iff (straps : Straps) : strapParityGood straps = true ↔
    ([straps.stp, straps.st0, straps.st1, straps.st2, straps.st3, straps.st4].count true) % 2 = 1 := by
  obtain ⟨b0, b1, b2, b3, b4, b5⟩ := straps
  cases b0 <;> cases b1 <;> cases b2 <;> cases b3 <;> cases b4 <;> cases b5 <;> decide

theorem takeSource_image_iff (img : List Byte) : (takeSource img).1 = .image ↔ imageByte img 4 = 1 := by
  unfold takeSource
  split <;> simp_all

/-- The own number that loading settles: the image's number, or the strap number of good parity, in 1 to 30 (R170). -/
theorem settleOwn_eq (img : List Byte) (straps : Straps) :
    settleOwn img straps =
      let high := [straps.st0, straps.st1, straps.st2, straps.st3, straps.st4]
      let number := if imageByte img 4 = 1 then imageByte img 5 else bitsNumber high
      if (imageByte img 4 = 1 ∨ (straps.stp :: high).count true % 2 = 1) ∧ 1 ≤ number ∧ number ≤ 30 then some number
      else none := by
  have hsource := takeSource_image_iff img
  unfold settleOwn
  cases hs : (takeSource img).1 with
  | straps =>
    have hne : ¬imageByte img 4 = 1 := by rw [← hsource, hs]; simp
    simp only [strapOwn, strapNumber_eq, strapParityGood_iff, hne, false_or, if_false]
  | image =>
    have h1 : imageByte img 4 = 1 := hsource.mp hs
    simp only [h1, true_or, true_and, if_true]

/-! ### The base source (R4) -/

/-- SECOND stays on a line only when no lower one carries it (R29). -/
theorem steppedRole_second {img : List Byte} {role : Role} {i : Fin 8} (h : (steppedRole img role i).1 = .second) :
    (codedRole img i).1 = .second ∧ ∀ j : Fin 8, j < i → (codedRole img j).1 ≠ .second := by
  unfold steppedRole at h
  dsimp only at h
  split at h
  · simp at h
  · split at h
    · simp at h
    · next hlower =>
      refine ⟨h, fun j hj hsecond => hlower ?_⟩
      simp only [h, beq_self_eq_true, Bool.true_and, List.any_eq_true]
      exact ⟨j, List.mem_finRange j, by simp [hj, hsecond]⟩

/-- At most one line has the role SECOND: the lowest that carries it (R29). -/
theorem second_unique {img : List Byte} {role : Role} {own : Option Nat} {i j : Fin 8}
    (hi : (settingsOf img role own).lines[i].role = .second) (hj : (settingsOf img role own).lines[j].role = .second) :
    i = j := by
  have stepped {k : Fin 8} (h : (settingsOf img role own).lines[k].role = .second) :
      (codedRole img k).1 = .second ∧ ∀ l : Fin 8, l < k → (codedRole img l).1 ≠ .second := by
    apply steppedRole_second (role := role)
    simp only [settingsOf, takeLine, Fin.getElem_fin, Vector.getElem_ofFn] at h
    split at h
    · simp at h
    · exact h
  obtain ⟨hci, hli⟩ := stepped hi
  obtain ⟨hcj, hlj⟩ := stepped hj
  rcases lt_trichotomy i j with h | h | h
  · exact absurd hci (hlj i h)
  · exact h
  · exact absurd hcj (hli j h)

/-- The time of the last counted edge of line i, by its polarity (R26, R28). -/
def countedEdgeTime (c : Settings) (inputs : Vector InputLine 8) (i : Fin 8) : Option Nat :=
  match c.lines[i].polarity with
  | .risingHigh => inputs[i].lastRise
  | .fallingLow => inputs[i].lastFall

/-- The last second pulse is the last counted edge of the line with role SECOND, when there is one. -/
theorem lastSecond_cases (c : Settings) (inputs : Vector InputLine 8) :
    ((∀ i : Fin 8, c.lines[i].role ≠ .second) ∧ lastSecond c inputs = none)
      ∨ ∃ i : Fin 8, c.lines[i].role = .second ∧ lastSecond c inputs = countedEdgeTime c inputs i := by
  unfold lastSecond
  cases h : (List.finRange 8).find? fun i => c.lines[i].role == .second with
  | none => exact .inl ⟨fun i => by simpa using List.find?_eq_none.mp h i (List.mem_finRange i), rfl⟩
  | some i =>
    refine .inr ⟨i, by simpa using List.find?_some h, ?_⟩
    dsimp only [countedEdgeTime]
    cases c.lines[i].polarity <;> rfl

/-- The base source that loading settles, by the edges of the SECOND line (R4). -/
theorem startSource_cases (c : Settings) (inputs : Vector InputLine 8) (now : Nat)
    (hunique : ∀ i j : Fin 8, c.lines[i].role = .second → c.lines[j].role = .second → i = j) :
    (c.external = false → startSource c inputs now = .internal)
    ∧ (∀ i τ, c.external = true → c.lines[i].role = .second → countedEdgeTime c inputs i = some τ → now ≤ τ + 3000 →
        startSource c inputs now = .external)
    ∧ (c.external = true → (∀ i τ, c.lines[i].role = .second → countedEdgeTime c inputs i = some τ → τ + 3000 < now) →
        startSource c inputs now = .fallback) := by
  unfold startSource
  refine ⟨fun h => by simp [h], fun i τ h hi hτ hle => ?_, fun h hlate => ?_⟩
  · have hseen : secondSeen c inputs now = true := by
      rcases lastSecond_cases c inputs with ⟨hnone, -⟩ | ⟨j, hj, hlast⟩
      · exact absurd hi (hnone i)
      · rw [hunique j i hj hi, hτ] at hlast
        simp [secondSeen, hlast, hle]
    simp [h, hseen]
  · have hseen : secondSeen c inputs now = false := by
      rcases lastSecond_cases c inputs with ⟨-, hlast⟩ | ⟨j, hj, hlast⟩
      · simp [secondSeen, hlast]
      · cases hτ : countedEdgeTime c inputs j with
        | none => simp [secondSeen, hlast, hτ]
        | some τ => simp [secondSeen, hlast, hτ, hlate j τ hj hτ]
    simp [h, hseen]

/-! ### The state after a successful load -/

/-- The open of the lead-in in an empty book with no zero pending adds the entry and nothing else. -/
theorem State.openNew_lead_in {u : State} (he : u.book.entries = []) (hz : u.book.zeroPending = false) (cause : Cause) :
    u.openNew none cause = u.addEntry none cause := by
  have hevict : u.evict = u := by simp [State.evict, he, Config.bookSize]
  simp [State.openNew, hevict, State.removeNumber, hz]

/-- The state after a successful load into an empty book with no zero pending. -/
theorem State.loadSucceeds_eq {s : State} (he : s.book.entries = []) (hz : s.book.zeroPending = false) (image : List Byte)
    (role : Role) (now : Nat) {own : Option Nat} (hown : settleOwn image s.loader.straps = own) :
    s.loadSucceeds image role now =
      let c := settingsOf image role own
      let u := s.configure c own (imageClamped image role own) image now
      State.refreshAlerts
        { u with
            book := { u.book with entries := [newEntry u c none .start] }
            link := { u.link with a := u.link.a.markProbe, b := u.link.b.markProbe }
            alerts := { u.alerts with one := AlertLine.configure c.alert1, two := AlertLine.configure c.alert2 } } := by
  subst hown
  let c := settingsOf image role (settleOwn image s.loader.straps)
  let u := s.configure c (settleOwn image s.loader.straps) (imageClamped image role (settleOwn image s.loader.straps)) image now
  have hopen : u.openNew none .start = { u with
      book := { u.book with entries := [newEntry u c none .start] }
      link := { u.link with a := u.link.a.markProbe, b := u.link.b.markProbe } } := by
    have hentries : u.book.entries = [] := he
    rw [State.openNew_lead_in hentries hz]
    show ({ u with book := { u.book with entries := u.book.entries ++ _ }, link := _ } : State) = _
    rw [hentries]
    rfl
  show State.refreshAlerts { u.openNew none .start with alerts := _ } = _
  rw [hopen]

/-- A configured alert line that takes its OR for the first time: a group already true is a rise (R181, R182). -/
theorem AlertLine.take_configure (setup : AlertSetup) (now : Bool) :
    (AlertLine.configure setup).take now
      = { mode := some setup.mode, group := setup.group, lastOr := now, pulse := setup.mode == .pulse && now } := by
  obtain ⟨mode, group⟩ := setup
  cases mode <;> simp [AlertLine.configure, AlertLine.take]

/-- Settles O6: the state after the load, its own number and its base source. -/
theorem successfulLoadOpensTheLeadIn : Obligations.SuccessfulLoadOpensTheLeadIn := by
  unfold Obligations.SuccessfulLoadOpensTheLeadIn
  intro memory now s role hphase hreads hrole he hz image byteAt straps high number own c stations second probed part
  have hown : settleOwn image s.loader.straps = own := settleOwn_eq image s.loader.straps
  obtain ⟨hinternal, hexternal, hfallback⟩ := startSource_cases c s.inputs now fun i j hi hj => second_unique hi hj
  have hload := State.loadSucceeds_eq he hz image role now hown
  refine ⟨s.loadSucceeds image role now, ?_, ?_⟩
  · exact congrArg Host.Outcome.next ((if_pos hphase).trans ((if_pos hreads).trans (by rw [hrole]; rfl)))
  rw [hload]
  have hpart : openPart c = part := by cases role <;> rfl
  refine ⟨?_, rfl, ?_, rfl, hinternal, hexternal, hfallback, ?_, ?_, rfl⟩
  · have hsub : (if c.role = .line then c.table.map Peer.fresh else []) = stations (role == .line) := by
      cases role <;> rfl
    have hcon : (if c.role = .line then [] else c.table.map Peer.fresh) = stations (role != .line) := by
      cases role <;> rfl
    rw [← hsub, ← hcon]
    rfl
  · intro h
    show (own.isNone || _) = true
    rw [h]; rfl
  · rw [← hpart]
    cases role <;> rfl
  · simp only [State.refreshAlerts, AlertLine.take_configure]
    rfl

end Sys2Proof.Machine
end

section
/-! SUPPORT. The whole boundary: the figures of the close, the strikes that eviction and removal force, and the open (R11, R33,
R40, R66 to R69, R81, R108, R137). -/

namespace Sys2Proof.Machine

open Sys2Proof

/-! ### The figures of the close (R33, R34, R40) -/

theorem Settings.hasCarrier_eq (c : Settings) (k : Carrier) (i : Fin 8) :
    c.hasCarrier k i = decide (c.channels[i].map ChannelSetup.carrier = some k) := by
  rw [Settings.hasCarrier, Bool.eq_iff_iff, beq_iff_eq, decide_eq_true_iff]

theorem carrierWh_eq (c : Settings) (channels : Vector ChannelState 8) (k : Carrier) :
    carrierWh c channels k
      = (((List.finRange 8).filter fun i => c.channels[i].map ChannelSetup.carrier = some k).map
          fun i => channels[i].held / 16).sum := by
  simp only [carrierWh, Settings.hasCarrier_eq]

theorem configuredCarriers_eq (c : Settings) :
    configuredCarriers c = [Carrier.gas, .electric, .oxygen, .air, .other].filter fun k =>
      ∃ i : Fin 8, c.channels[i].map ChannelSetup.carrier = some k := by
  unfold configuredCarriers
  apply List.filter_congr
  intro k _
  rw [Bool.eq_iff_iff, decide_eq_true_iff, List.any_eq_true]
  simp [Settings.hasCarrier_eq]

/-- When a figure of the close is held at its limit (R33, R64). -/
theorem closeSaturates_iff (c : Settings) (b : Bank) : closeSaturates c b = true ↔
    (∃ k ∈ configuredCarriers c, 4294967295 < carrierWh c b.channels k)
      ∨ (¬c.role = .line ∧ 4294967295 < carrierSum (closingCarriers c b.channels)) := by
  simp only [closeSaturates, carriersSaturate, Bool.or_eq_true, List.any_eq_true, Bool.and_eq_true, bne_iff_ne,
    decide_eq_true_iff]
  rfl

/-- The energy of the close: the sum of the carrier totals. -/
theorem carrierSum_closingCarriers (c : Settings) (channels : Vector ChannelState 8) :
    carrierSum (closingCarriers c channels)
      = ((configuredCarriers c).map fun k => min 4294967295 (carrierWh c channels k)).sum := by
  simp only [carrierSum, closingCarriers, List.map_map]
  rfl

theorem Bank.close_channels (b : Bank) (c : Settings) (i : Fin 8) : (b.close c).channels[i] =
    if c.channels[i].isSome then
      { held := b.channels[i].held % 16, counted := b.channels[i].counted,
        credited := b.channels[i].credited + BitVec.ofNat 60 (b.channels[i].held / 16) }
    else b.channels[i] := by
  have h : (b.close c).channels = closeChannels c b.channels := by
    unfold Bank.close
    cases c.role <;> rfl
  rw [h]
  simp [closeChannels, ChannelState.close]

theorem Bank.close_carry {b : Bank} {c : Settings} (h : c.role = .line) :
    (b.close c).carry = nextCarry b.pull b.reject b.carry := by
  simp only [Bank.close, h]

theorem Bank.close_line {b : Bank} {c : Settings} (h : c.role = .line) :
    b.close c = { b with channels := (b.close c).channels, pull := 0, reject := 0, cuts := 0, runSeconds := 0,
                         carry := (b.close c).carry } := by
  simp only [Bank.close, h]

theorem Bank.close_of_ne {b : Bank} {c : Settings} (h : c.role ≠ .line) :
    b.close c = { b with channels := (b.close c).channels } := by
  unfold Bank.close
  cases hr : c.role with
  | line => exact absurd hr h
  | furnace => rfl
  | pool => rfl

/-! ### Strikes in a station that differs in its time, its alert lines, its entries and the skipped total -/

/-- The station with another time base, other alert lines, other entries, and d added to the skipped periods of its totals. -/
def State.shifted (u : State) (d : Total) (time : TimeBase) (alerts : Alerts) (entries : List Entry) : State :=
  { u with time := time, alerts := alerts,
           book := { u.book with entries := entries, line := { u.book.line with skipped := u.book.line.skipped + d } } }

/-- The station v is u but for the alert lines, the given entries, d more skipped periods, and a time base that is τ but for the
STARTING condition, in which v agrees with u as in the estimated-strike state. -/
def State.Tracks (u v : State) (d : Total) (τ : TimeBase) (entries : List Entry) : Prop :=
  ∃ alerts : Alerts, v = u.shifted d { τ with starting := u.time.starting } alerts entries
    ∧ alerts.estimatedStrike = u.alerts.estimatedStrike

theorem State.handOver_estimatedStrike (s : State) (r : Record) :
    (s.handOver r).alerts.estimatedStrike = s.alerts.estimatedStrike := by
  unfold State.handOver
  dsimp only
  split <;> rfl

/-- A record handed over in a station that tracks another. -/
theorem State.Tracks.handOver {u v : State} {d : Total} {τ : TimeBase} {es : List Entry} (h : u.Tracks v d τ es) (r : Record) :
    (u.handOver r).Tracks (v.handOver r) d τ es := by
  obtain ⟨alerts, rfl, hest⟩ := h
  refine ⟨((u.shifted d { τ with starting := u.time.starting } alerts es).handOver r).alerts, ?_, ?_⟩
  · have hlisten : (u.shifted d { τ with starting := u.time.starting } alerts es).listenOnly = u.listenOnly := rfl
    unfold State.handOver
    rw [hlisten]
    dsimp only [State.shifted]
    split <;> rfl
  · rw [State.handOver_estimatedStrike, State.handOver_estimatedStrike]
    exact hest

/-- A strike in a station that tracks another. -/
theorem State.Tracks.strike {u v : State} {d : Total} {τ : TimeBase} {es : List Entry} (h : u.Tracks v d τ es) (e : Entry) :
    (u.strike e).Tracks (v.strike e) d τ (if e.state = .struck then es else replaceEntry (u.struckEntry e) es) := by
  rcases u.strike_cases e with ⟨hs, hu⟩ | ⟨hs, p, hp, hu⟩ | ⟨hs, p, hp, hn, hu⟩ | ⟨hs, p, n, hp, hn, hu⟩ <;> rw [hu]
  · simpa [State.strike, hs] using h
  · have hv : v.strike e = v.strikeLine e p := by simp [State.strike, hs, hp]
    obtain ⟨alerts, rfl, hest⟩ := h
    rw [hv, if_neg hs, State.struckEntry, hp]
    refine ⟨((u.shifted d { τ with starting := u.time.starting } alerts es).strikeLine e p).alerts, ?_,
      congrArg (· || _) hest⟩
    unfold State.strikeLine
    cases e.flags.preZero <;> rfl
  · have hv : v.strike e = v.strikeLeadIn e p := by simp [State.strike, hs, hp, hn]
    obtain ⟨alerts, rfl, hest⟩ := h
    rw [hv, if_neg hs, State.struckEntry, hp, hn]
    exact ⟨_, rfl, congrArg (· || _) hest⟩
  · have hv : v.strike e = v.strikeAllot (v.role.getD .pool) n e p := by simp [State.strike, hs, hp, hn]
    have hrole : v.role = u.role := by obtain ⟨alerts, rfl, -⟩ := h; rfl
    rw [hv, hrole, if_neg hs, State.struckEntry, hp, hn]
    obtain ⟨alerts, rfl, hest⟩ := h
    refine State.Tracks.handOver ?_ _
    exact ⟨_, rfl, congrArg (· || _) hest⟩

/-- Entries changed in a station that tracks another. -/
theorem State.Tracks.withEntries {u v : State} {d : Total} {τ : TimeBase} {es : List Entry} (h : u.Tracks v d τ es)
    (es' : List Entry) : u.Tracks { v with book := { v.book with entries := es' } } d τ es' := by
  obtain ⟨alerts, rfl, hest⟩ := h
  exact ⟨alerts, rfl, hest⟩

theorem State.Tracks.entries_eq {u v : State} {d : Total} {τ : TimeBase} {es : List Entry} (h : u.Tracks v d τ es) :
    v.book.entries = es := by
  obtain ⟨alerts, rfl, -⟩ := h; rfl

/-! ### The jump and the TIMEBASE condition (R6, R15) -/

/-- The time base once a boundary has recorded its jump and cleared TIMEBASE. -/
def TimeBase.atBoundary (t : TimeBase) (passed : Option Nat) : TimeBase :=
  { t with timebase := t.timebase && t.source != .external
           gap := t.gap || passed.isSome
           skipped := match passed with
             | none => t.skipped
             | some k => min 65535 (t.skipped + k) }

theorem State.clearTimebase_eq (s : State) :
    s.clearTimebase = { s with
      time := { s.time with timebase := s.time.timebase && s.time.source != .external }, alerts := s.clearTimebase.alerts }
    ∧ s.clearTimebase.alerts.estimatedStrike = s.alerts.estimatedStrike := by
  unfold State.clearTimebase
  split
  · next h =>
    obtain ⟨ht, hs⟩ := Bool.and_eq_true_iff.mp h
    refine ⟨?_, rfl⟩
    rw [ht, beq_iff_eq.mp hs]
    rfl
  · next h =>
    have hkeep : (s.time.timebase && s.time.source != .external) = s.time.timebase := by
      cases ht : s.time.timebase
      · rfl
      · simpa [ht] using h
    rw [hkeep]
    exact ⟨rfl, rfl⟩

theorem State.closeOpen_time (s : State) (kind : EntryKind) :
    ∃ b, (s.closeOpen kind).time = { s.time with starting := b } := by
  unfold State.closeOpen
  split
  · dsimp only
    split
    · obtain ⟨b, hb⟩ := State.strike_time (State.queueTally _ _) _
      exact ⟨b, by rw [hb]; simp⟩
    · exact ⟨s.time.starting, by simp⟩
  · exact ⟨s.time.starting, rfl⟩

/-- Clearing TIMEBASE in a station that tracks another. -/
theorem State.Tracks.clearTimebase {u v : State} {d : Total} {τ : TimeBase} {es : List Entry} (h : u.Tracks v d τ es) :
    u.Tracks v.clearTimebase d { τ with timebase := τ.timebase && τ.source != .external } es := by
  obtain ⟨heq, hest⟩ := v.clearTimebase_eq
  obtain ⟨alerts, rfl, halerts⟩ := h
  exact ⟨_, heq, hest.trans halerts⟩

/-- A station tracks itself. -/
theorem State.tracks_self (u : State) : u.Tracks u 0 u.time u.book.entries :=
  ⟨u.alerts, by simp [State.shifted], rfl⟩

/-- The jump recorded. -/
theorem State.recordJump_tracks (u : State) (k : Nat) :
    u.Tracks (u.recordJump k) (if u.isLine then total k else 0)
      { u.time with skipped := min 65535 (u.time.skipped + k), gap := true } u.book.entries := by
  refine ⟨(u.recordJump k).alerts, ?_, rfl⟩
  have hgrow : grow u.time.skipped k = min 65535 (u.time.skipped + k) := rfl
  cases hl : u.isLine <;> simp [State.recordJump, State.refreshAlerts, State.shifted, hl, hgrow]

/-- Before its open the boundary's station is the closed one, but for the jump and the TIMEBASE condition. -/
theorem State.beforeOpen_tracks (s : State) (passed : Option Nat) :
    (s.closeOpen (if passed.isSome then .irregular else .regular)).Tracks (s.beforeOpen passed)
      (if s.isLine then total (passed.getD 0) else 0) (s.time.atBoundary passed)
      (s.closeOpen (if passed.isSome then .irregular else .regular)).book.entries := by
  generalize hkind : (if passed.isSome then EntryKind.irregular else EntryKind.regular) = kind
  obtain ⟨b, hb⟩ := s.closeOpen_time kind
  have hline : (s.closeOpen kind).isLine = s.isLine := by simp [State.isLine, State.role]
  unfold State.beforeOpen
  rw [hkind, ← hline]
  generalize s.closeOpen kind = u at hb
  cases passed with
  | none =>
    have h := u.tracks_self.clearTimebase
    obtain ⟨alerts, heq, hest⟩ := h
    refine ⟨alerts, heq.trans ?_, hest⟩
    simp [State.shifted, hb, TimeBase.atBoundary, total]
  | some k =>
    obtain ⟨alerts, heq, hest⟩ := (u.recordJump_tracks k).clearTimebase
    refine ⟨alerts, heq.trans ?_, hest⟩
    simp [State.shifted, hb, TimeBase.atBoundary]

/-! ### Eviction and removal (R67, R68) -/

/-- The entry strikes; no entry, no strike. -/
def State.strikeAny (u : State) : Option Entry → State
  | some x => u.strike x
  | none => u

theorem replaceEntry_of_not_mem {x : Entry} {es : List Entry} (h : x.number ∉ es.map Entry.number) :
    replaceEntry x es = es := by
  rw [replaceEntry_eq]
  refine (List.map_congr_left fun y hy => if_neg fun hn => h ?_).trans (List.map_id es)
  exact hn ▸ List.mem_map_of_mem hy

theorem replaceEntry_drop (x : Entry) (es : List Entry) (k : Nat) :
    replaceEntry x (es.drop k) = (replaceEntry x es).drop k := List.map_drop

/-- A strike leaves the entries past a point that lacks its entry's number. -/
theorem State.strike_entries_drop {u : State} {x : Entry} {k : Nat}
    (h : x.number ∉ (u.book.entries.drop k).map Entry.number) :
    (u.strike x).book.entries.drop k = u.book.entries.drop k := by
  rw [State.strike_entries]
  split
  · rfl
  · rw [← replaceEntry_drop, replaceEntry_of_not_mem (by simpa using h)]

/-- The eviction in a station that tracks one with a closed book, whose oldest entry strikes where the book is full. -/
theorem State.Tracks.evict {u v : State} {d : Total} {τ : TimeBase} (h : u.Tracks v d τ u.book.entries)
    (hu : u.book.closed) {evicted : State}
    (hev : evicted = if u.book.entries.length < 12 then u else u.strikeAny u.book.entries.head?) :
    evicted.book.entries.drop (u.book.entries.length - 11) = u.book.entries.drop (u.book.entries.length - 11)
      ∧ evicted.Tracks v.evict d τ (evicted.book.entries.drop (u.book.entries.length - 11)) := by
  have hve := h.entries_eq
  obtain ⟨⟨hlen, hnodup, -⟩, hopen⟩ := hu
  by_cases hl : u.book.entries.length < 12
  · rw [if_pos hl] at hev
    have hk : u.book.entries.length - 11 = 0 := by omega
    have hvev : v.evict = v := by
      unfold State.evict
      rw [hve, if_pos (show u.book.entries.length < Config.bookSize from hl)]
    rw [hev, hk, hvev]
    exact ⟨rfl, h⟩
  · rw [if_neg hl] at hev
    have hk : u.book.entries.length - 11 = 1 := by
      have : u.book.entries.length ≤ 12 := hlen
      omega
    cases hes : u.book.entries with
    | nil => simp [hes] at hl
    | cons x rest =>
      have hx : x.number ∉ rest.map Entry.number := by
        rw [hes, List.map_cons, List.nodup_cons] at hnodup
        exact hnodup.1
      have hev : evicted = u.strike x := by rw [hev, hes]; rfl
      have hstrike : (if x.state = .settling then v.strike x else v) = v.strike x := by
        cases hst : x.state with
        | opened => exact absurd hst (hopen x (by simp [hes]))
        | settling => rfl
        | struck => simp [State.strike, hst]
      have hvev : v.evict = { v.strike x with
          book := { (v.strike x).book with entries := (v.strike x).book.entries.drop 1 } } := by
        unfold State.evict
        rw [hve, if_neg (show ¬u.book.entries.length < Config.bookSize from hl), hes]
        dsimp only
        rw [hstrike]
      have hdrop : (u.strike x).book.entries.drop 1 = u.book.entries.drop 1 :=
        State.strike_entries_drop (by simpa [hes] using hx)
      have htracks := h.strike x
      rw [← hes, hk, hev, hvev, htracks.entries_eq, ← State.strike_entries]
      exact ⟨hdrop, htracks.withEntries _⟩

/-- The removal of a number in a station that tracks another. -/
theorem State.Tracks.removeNumber {u v : State} {d : Total} {τ : TimeBase} {k : Nat}
    (h : u.Tracks v d τ (u.book.entries.drop k)) (n : Period) {struck : State}
    (hst : struck = u.strikeAny ((u.book.entries.drop k).find? fun x => x.number == some n)) :
    (struck.book.entries.drop k).filter (fun x => x.number != some n)
        = (u.book.entries.drop k).filter (fun x => x.number != some n)
      ∧ struck.Tracks (v.removeNumber (some n)) d τ
          ((struck.book.entries.drop k).filter fun x => x.number != some n) := by
  have hve := h.entries_eq
  have hheld : v.held n = (u.book.entries.drop k).find? fun x => x.number == some n := by rw [State.held, hve]
  unfold State.removeNumber
  dsimp only
  rw [hheld]
  cases hf : (u.book.entries.drop k).find? fun x => x.number == some n with
  | none =>
    rw [hf] at hst
    have hkeep : (u.book.entries.drop k).filter (fun x => x.number != some n) = u.book.entries.drop k := by
      rw [List.filter_eq_self]
      intro x hx
      simpa using List.find?_eq_none.mp hf x hx
    rw [hst]
    refine ⟨rfl, ?_⟩
    show u.Tracks v d τ ((u.book.entries.drop k).filter _)
    rw [hkeep]
    exact h
  | some x =>
    rw [hf] at hst
    have hxn : x.number = some n := by simpa using List.find?_some hf
    have hes : (u.strike x).book.entries.drop k
        = if x.state = .struck then u.book.entries.drop k else replaceEntry (u.struckEntry x) (u.book.entries.drop k) := by
      rw [State.strike_entries, replaceEntry_drop]
      split <;> rfl
    have htracks := h.strike x
    rw [← hes] at htracks
    rw [hst]
    refine ⟨?_, ?_⟩
    · show ((u.strike x).book.entries.drop k).filter _ = _
      rw [hes]
      split
      · rfl
      · rw [filter_replaceEntry (by simp [hxn])]
        rw [List.filter_filter]
        simp [hxn]
    · have hent := htracks.entries_eq
      dsimp only
      rw [hent]
      exact htracks.withEntries _

end Sys2Proof.Machine
end

section
/-! SUPPORT. The open of a boundary and the assembly of the boundary's whole effect (R11, R66, R68, R69, R81, R137). -/

namespace Sys2Proof.Machine

open Sys2Proof

/-! ### What strikes leave unchanged (R72) -/

/-- The station t is s but for what strikes and handed-over records move: the STARTING condition, the entries and totals of the
book, the last shares, the link and the alert lines. -/
def State.StrikesKeep (s t : State) : Prop :=
  ∃ b entries line allot subscriptions link alerts,
    t = { s with time := { s.time with starting := b },
                 book := { s.book with entries := entries, line := line, allot := allot },
                 subscriptions := subscriptions, link := link, alerts := alerts }
    ∧ subscriptions.map Peer.station = s.subscriptions.map Peer.station

theorem State.StrikesKeep.refl (s : State) : s.StrikesKeep s := ⟨_, _, _, _, _, _, _, rfl, rfl⟩

theorem State.StrikesKeep.trans {s t u : State} (h : s.StrikesKeep t) (k : t.StrikesKeep u) : s.StrikesKeep u := by
  obtain ⟨_, _, _, _, _, _, _, rfl, hsubs⟩ := h
  obtain ⟨_, _, _, _, _, _, _, rfl, hsubs'⟩ := k
  exact ⟨_, _, _, _, _, _, _, rfl, hsubs'.trans hsubs⟩

theorem State.StrikesKeep.same {s t : State} (h : s.StrikesKeep t) :
    t.settings = s.settings ∧ t.book.zeroPending = s.book.zeroPending ∧ t.contributors = s.contributors
      ∧ t.subscriptions.map Peer.station = s.subscriptions.map Peer.station := by
  obtain ⟨_, _, _, _, _, _, _, rfl, hsubs⟩ := h
  exact ⟨rfl, rfl, rfl, hsubs⟩

theorem State.handOver_strikesKeep (s : State) (r : Record) : s.StrikesKeep (s.handOver r) :=
  ⟨_, _, _, _, _, _, _, s.handOver_eq r, rfl⟩

theorem setLast_stations (station value : Nat) (table : List Peer) :
    (setLast station value table).map Peer.station = table.map Peer.station := by
  rw [setLast, List.map_map]
  refine List.map_congr_left fun p _ => ?_
  dsimp only [Function.comp]
  split <;> rfl

theorem updateLastShares_stations (items : List ShareItem) (table : List Peer) :
    (updateLastShares items table).map Peer.station = table.map Peer.station := by
  unfold updateLastShares
  induction items generalizing table with
  | nil => rfl
  | cons i items ih =>
    rw [List.foldl_cons, ih]
    split
    · exact setLast_stations ..
    · rfl

theorem State.strike_strikesKeep (s : State) (e : Entry) : s.StrikesKeep (s.strike e) := by
  rcases s.strike_cases e with ⟨-, h⟩ | ⟨-, p, -, h⟩ | ⟨-, p, -, -, h⟩ | ⟨-, p, n, -, -, h⟩ <;> rw [h]
  · exact .refl s
  · exact ⟨_, _, _, _, _, _, _, rfl, updateLastShares_stations ..⟩
  · exact ⟨_, _, _, _, _, _, _, rfl, rfl⟩
  · exact .trans ⟨_, _, _, _, _, _, _, rfl, rfl⟩ (State.handOver_strikesKeep _ _)

theorem State.strikeAny_strikesKeep (s : State) (x : Option Entry) : s.StrikesKeep (s.strikeAny x) := by
  cases x with
  | none => exact .refl s
  | some x => exact s.strike_strikesKeep x

theorem State.queueTally_strikesKeep (s : State) (e : Entry) : s.StrikesKeep (s.queueTally e) := by
  unfold State.queueTally
  split
  · exact s.handOver_strikesKeep _
  · exact .refl s

/-! ### The open (R66, R81, R137) -/

theorem State.addEntry_some {s : State} {c : Settings} (h : s.settings = some c) (number : Option Period) (cause : Cause) :
    s.addEntry number cause =
      { s with book := { s.book with entries := s.book.entries ++ [newEntry s c number cause] }
               link := { s.link with a := s.link.a.markProbe, b := s.link.b.markProbe } } := by
  simp only [State.addEntry, h]

/-- The entry with PRE-ZERO where a zero boundary is pending (R81). -/
def Entry.zeroedIf (pending : Bool) (x : Entry) : Entry := if pending then x.withPreZero else x

/-- PRE-ZERO is a flag: it leaves what identifies an entry and its closing figures. -/
theorem Entry.zeroedIf_fields (pending : Bool) (x : Entry) :
    (Entry.zeroedIf pending x).number = x.number ∧ (Entry.zeroedIf pending x).cause = x.cause
      ∧ (Entry.zeroedIf pending x).duration = x.duration ∧ (Entry.zeroedIf pending x).kind = x.kind
      ∧ (Entry.zeroedIf pending x).carriers = x.carriers ∧ (Entry.zeroedIf pending x).state = x.state := by
  cases pending <;> exact ⟨rfl, rfl, rfl, rfl, rfl, rfl⟩

theorem Entry.map_zeroedIf_false (es : List Entry) : es.map (Entry.zeroedIf false) = es := List.map_id es

/-- The station t of a boundary that opens number n by a cause, its forced strikes made in `struck`: d more skipped periods in the
totals, the time base τ, the entries es before the new one. -/
structure State.OpensFrom (struck t : State) (c : Settings) (d : Total) (τ : TimeBase) (es : List Entry) (n : Period)
    (cause : Cause) : Prop where
  frame : t = { struck with
    time := t.time, bank := { struck.bank with carry := if struck.book.zeroPending then 0 else struck.bank.carry }
    book := t.book, link := t.link, alerts := t.alerts }
  entries : t.book.entries
    = es.map (Entry.zeroedIf struck.book.zeroPending) ++ [newEntry { struck with time := τ } c (some n) cause]
  book : t.book = { struck.book with
    entries := t.book.entries, zeroPending := false
    allot := if struck.book.zeroPending then AllotTotals.zero else struck.book.allot
    line := if struck.book.zeroPending then LineTotals.zero (struck.subscriptions.map Peer.station)
      else { struck.book.line with skipped := struck.book.line.skipped + d } }
  time : t.time = { τ with
    seconds := 0, accounting := if τ.accounting = .starting then .accounting else τ.accounting
    starting := struck.time.starting, gap := !struck.book.zeroPending && τ.gap
    skipped := if struck.book.zeroPending then 0 else τ.skipped }
  link : t.link =
    let opened := { struck.link with a := struck.link.a.markProbe, b := struck.link.b.markProbe }
    if cause = .ownExpiry then opened else opened.withdrawMark
  estimatedStrike : t.alerts.estimatedStrike = struck.alerts.estimatedStrike

/-- The pending zero boundary applied in a station that tracks another (R81). -/
theorem State.Tracks.zeroedIf {u v : State} {d : Total} {τ : TimeBase} {es : List Entry} (h : u.Tracks v d τ es) :
    ∃ alerts, (if v.book.zeroPending then v.zeroBoundary else v) = { u with
        time := { τ with starting := u.time.starting, gap := !u.book.zeroPending && τ.gap
                         skipped := if u.book.zeroPending then 0 else τ.skipped }
        bank := { u.bank with carry := if u.book.zeroPending then 0 else u.bank.carry }
        book := { u.book with
          entries := es.map (Entry.zeroedIf u.book.zeroPending), zeroPending := false
          allot := if u.book.zeroPending then AllotTotals.zero else u.book.allot
          line := if u.book.zeroPending then LineTotals.zero (u.subscriptions.map Peer.station)
            else { u.book.line with skipped := u.book.line.skipped + d } }
        alerts := alerts }
      ∧ alerts.estimatedStrike = u.alerts.estimatedStrike := by
  obtain ⟨alerts, rfl, hest⟩ := h
  have hpending : (u.shifted d { τ with starting := u.time.starting } alerts es).book.zeroPending = u.book.zeroPending := rfl
  rw [hpending]
  cases hz : u.book.zeroPending with
  | false =>
    refine ⟨alerts, ?_, hest⟩
    rw [Entry.map_zeroedIf_false, ← hz]
    simp [State.shifted, hz]
  | true => exact ⟨_, rfl, hest⟩

/-- The open of a boundary whose forced strikes are made in `struck`. -/
theorem State.boundary_opensFrom {s struck : State} {c : Settings} {d : Total} {τ : TimeBase} {es : List Entry}
    {passed : Option Nat} {n : Period} (h : struck.Tracks ((s.beforeOpen passed).evict.removeNumber (some n)) d τ es)
    (hc : struck.settings = some c) (cause : Cause) :
    struck.OpensFrom (s.boundary passed n cause) c d τ es n cause := by
  obtain ⟨alerts, hv, hest⟩ := h.zeroedIf
  have hopened : s.boundary passed n cause =
      let opened := ((if ((s.beforeOpen passed).evict.removeNumber (some n)).book.zeroPending
        then ((s.beforeOpen passed).evict.removeNumber (some n)).zeroBoundary
        else (s.beforeOpen passed).evict.removeNumber (some n)).addEntry (some n) cause).restartSeconds
      { opened with link := if cause = .ownExpiry then opened.link else opened.link.withdrawMark } := by
    rw [State.boundary_eq, State.openNew]
    dsimp only
    split <;> rfl
  rw [hopened, State.addEntry_some (c := c) (by rw [hv]; exact hc), hv]
  exact ⟨rfl, rfl, rfl, rfl, rfl, hest⟩

end Sys2Proof.Machine
end

section
/-! SUPPORT. The strikes that a boundary forces, from the close to the removal, and the boundary's whole effect (R67 to R69). -/

namespace Sys2Proof.Machine

open Sys2Proof

/-! ### The close, entry by entry (R40, R63, R64, R69, R108) -/

theorem strikesAtClose_iff (c : Settings) (e : Entry) : strikesAtClose c e = true ↔ e.number = none ∨ c.table = [] := by
  simp [strikesAtClose]

theorem closingPart_line {c : Settings} (h : c.role = .line) (b : Bank) (numbered : Bool) :
    closingPart c b numbered = .line
      { pull := b.pull, reject := b.reject, good := goodMass b.pull b.reject b.carry, runSeconds := b.runSeconds, cuts := b.cuts
        shares := if numbered then c.table.map absentShare else [], result := none } := by
  simp only [closingPart, h]

theorem closingPart_of_ne {c : Settings} (h : c.role ≠ .line) (b : Bank) (numbered : Bool) :
    closingPart c b numbered = .apportioning
      { e := min 4294967295 (carrierSum (closingCarriers c b.channels)), basis := c.basis, items := [], b := 0, revision := 0
        residue := none, sec := none } := by
  cases hr : c.role with
  | line => exact absurd hr h
  | furnace => simp only [closingPart, hr]; rfl
  | pool => simp only [closingPart, hr]; rfl

theorem openPart_line {c : Settings} (h : c.role = .line) :
    openPart c = .line { pull := 0, reject := 0, good := 0, runSeconds := 0, cuts := 0, shares := [], result := none } := by
  simp only [openPart, h]

theorem openPart_of_ne {c : Settings} (h : c.role ≠ .line) :
    openPart c = .apportioning { e := 0, basis := c.basis, items := [], b := 0, revision := 0, residue := none, sec := none } := by
  cases hr : c.role with
  | line => exact absurd hr h
  | furnace => simp only [openPart, hr]
  | pool => simp only [openPart, hr]

theorem State.queueTally_line (s : State) {closed : Entry} {n : Period} {p : LinePart} (hn : closed.number = some n)
    (hp : closed.part = .line p) : s.queueTally closed = s.handOver (tallyRecord n closed p) := by
  simp only [State.queueTally, hn, hp]

theorem State.queueTally_none (s : State) {closed : Entry} (hn : closed.number = none) : s.queueTally closed = s := by
  simp only [State.queueTally, hn]

theorem State.queueTally_apportioning (s : State) {closed : Entry} {p : AllotPart} (hp : closed.part = .apportioning p) :
    s.queueTally closed = s := by
  cases hn : closed.number <;> simp only [State.queueTally, hn, hp]

/-- The kind of a closing entry (R69). -/
theorem closedEntry_kind (s : State) (c : Settings) (passed : Option Nat) (e : Entry) :
    (closedEntry s c (if passed.isSome then .irregular else .regular) e).kind
      = if e.number = none then .leadIn else if passed = none then .regular else .irregular := by
  show (if e.number.isSome then _ else _) = _
  cases e.number <;> cases passed <;> simp

/-- What a closing entry keeps and gets, struck at once or not. -/
theorem State.closedForm_fields (s : State) (c : Settings) (kind : EntryKind) (e : Entry) :
    let x := s.closedForm c kind e
    x.cause = e.cause ∧ x.duration = s.time.seconds ∧ x.kind = (closedEntry s c kind e).kind
      ∧ x.carriers = closingCarriers c s.bank.channels
      ∧ x.state = if e.number = none ∨ c.table = [] then .struck else .settling := by
  unfold State.closedForm
  simp only [strikesAtClose_iff]
  split
  · obtain ⟨-, hkind, hcause, hduration, hcarriers, -, hstate⟩ := s.struckEntry_fields (closedEntry s c kind e)
    exact ⟨hcause, hduration, hkind, hcarriers, hstate⟩
  · exact ⟨rfl, rfl, rfl, rfl, rfl⟩

/-- The excess of a LINE is carried on, whatever 64 bits hold (R40). -/
theorem nextCarry_of_lt {pull reject carry : Nat} (h : reject + carry - pull < 2 ^ 64) :
    nextCarry pull reject carry = reject + carry - pull := by
  unfold nextCarry
  exact if_pos (Nat.le_pred_of_lt h)

/-! ### The strikes that a boundary forces (R67, R68) -/

theorem State.strikeAny_some (u : State) (x : Entry) :
    u.strikeAny (some x) = if x.state = .struck then u else u.strike x := by
  show u.strike x = _
  split
  · next h => simp only [State.strike, h, if_true]
  · rfl

/-- The open entry of a well-formed book stands last, and no other has its number. -/
theorem Book.formed.entries_eq_concat {b : Book} (hb : b.formed) {e : Entry} (he : e ∈ b.entries) (ho : e.state = .opened) :
    ∃ init, b.entries = init ++ [e] ∧ e.number ∉ init.map Entry.number := by
  obtain ⟨init, hinit⟩ := List.getLast?_eq_some_iff.mp (hb.eq_getLast he ho)
  refine ⟨init, hinit, fun hm => ?_⟩
  obtain ⟨-, hnodup, -⟩ := hb
  rw [hinit, List.map_append, List.nodup_append] at hnodup
  exact hnodup.2.2 _ hm _ (by simp) rfl

/-- The entries after a close: the closing one still last. -/
theorem State.closeOpen_entries_concat {s : State} {c : Settings} {e : Entry} (hform : s.book.formed)
    (hc : s.settings = some c) (he : s.openEntry = some e) (kind : EntryKind) :
    ∃ init, s.book.entries = init ++ [e] ∧ (s.closeOpen kind).book.entries = init ++ [s.closedForm c kind e] := by
  obtain ⟨ho, hm⟩ := State.openEntry_some he
  obtain ⟨init, hinit, hnum⟩ := hform.entries_eq_concat hm ho
  refine ⟨init, hinit, ?_⟩
  have hrest := replaceEntry_of_not_mem (x := s.closedForm c kind e) (es := init) (by simpa using hnum)
  rw [State.closeOpen_entries hc he, hinit]
  unfold replaceEntry at hrest ⊢
  rw [List.map_append, hrest]
  simp

/-- The close after its figures are fixed moves what strikes and records move. -/
theorem State.closeOpen_strikesKeep {s : State} {c : Settings} {e : Entry} (hc : s.settings = some c)
    (he : s.openEntry = some e) (kind : EntryKind) :
    (s.fixFigures c (closedEntry s c kind e)).StrikesKeep (s.closeOpen kind) := by
  have htold := (s.fixFigures c (closedEntry s c kind e)).queueTally_strikesKeep (closedEntry s c kind e)
  rw [State.closeOpen_some hc he]
  dsimp only
  split
  · exact htold.trans (State.strike_strikesKeep _ _)
  · exact htold

/-- The strikes that a boundary forces, made in the closed station: before its open the boundary's station is that one but for the
jump and the TIMEBASE condition, and the closed entry stays. -/
theorem State.forced_strikes {s : State} {c : Settings} {e : Entry} {passed : Option Nat} {n : Period}
    (hform : s.book.formed) (hc : s.settings = some c) (he : s.openEntry = some e) (hn : e.number ≠ some n)
    {kind : EntryKind} (hkind : kind = if passed.isSome then .irregular else .regular) {evicted struck : State}
    (hev : evicted = if s.book.entries.length < 12 then s.closeOpen kind
      else (s.closeOpen kind).strikeAny s.book.entries.head?)
    (hst : struck = evicted.strikeAny
      ((s.book.entries.drop (s.book.entries.length - 11)).find? fun x => x.number == some n)) :
    struck.Tracks ((s.beforeOpen passed).evict.removeNumber (some n)) (if s.isLine then total (passed.getD 0) else 0)
        (s.time.atBoundary passed)
        ((struck.book.entries.drop (s.book.entries.length - 11)).filter fun x => x.number != some n)
      ∧ s.closedForm c kind e
          ∈ (struck.book.entries.drop (s.book.entries.length - 11)).filter (fun x => x.number != some n)
      ∧ (s.fixFigures c (closedEntry s c kind e)).StrikesKeep struck := by
  have hevict : (s.closeOpen kind).StrikesKeep evicted := by
    rw [hev]
    split
    · exact .refl _
    · exact State.strikeAny_strikesKeep ..
  have hkeepAll : (s.fixFigures c (closedEntry s c kind e)).StrikesKeep struck := by
    rw [hst]
    exact ((State.closeOpen_strikesKeep hc he kind).trans hevict).trans (State.strikeAny_strikesKeep ..)
  obtain ⟨init, hinit, hclosed⟩ := State.closeOpen_entries_concat hform hc he kind
  have hbook : (s.closeOpen kind).book.closed :=
    State.closeOpen_closed hform hc (by rw [hkind]; cases passed <;> simp)
  have htracks := s.beforeOpen_tracks passed
  rw [← hkind] at htracks
  have hlen : s.book.entries.length = init.length + 1 := by rw [hinit]; simp
  have hulen : (s.closeOpen kind).book.entries.length = s.book.entries.length := by rw [hclosed, hlen]; simp
  have hdrop : (s.closeOpen kind).book.entries.drop (s.book.entries.length - 11)
      = init.drop (s.book.entries.length - 11) ++ [s.closedForm c kind e] := by
    rw [hclosed, List.drop_append_of_le_length (by omega)]
  have hhead : ¬s.book.entries.length < 12 → (s.closeOpen kind).book.entries.head? = s.book.entries.head? := by
    intro hl
    rw [hclosed, hinit]
    cases init with
    | nil => simp [hlen] at hl
    | cons x rest => rfl
  have hfind : (s.book.entries.drop (s.book.entries.length - 11)).find? (fun x => x.number == some n)
      = ((s.closeOpen kind).book.entries.drop (s.book.entries.length - 11)).find? fun x => x.number == some n := by
    rw [hdrop, hinit, List.drop_append_of_le_length (by simp), List.find?_append, List.find?_append]
    simp [hn]
  have hev' : evicted = if (s.closeOpen kind).book.entries.length < 12 then s.closeOpen kind
      else (s.closeOpen kind).strikeAny (s.closeOpen kind).book.entries.head? := by
    rw [hev, hulen]
    split
    · rfl
    · next hl => rw [hhead hl]
  obtain ⟨hkeep, hevicted⟩ := htracks.evict hbook hev'
  rw [hulen] at hkeep hevicted
  rw [hfind, ← hkeep] at hst
  obtain ⟨hsame, hremoved⟩ := hevicted.removeNumber n hst
  refine ⟨hremoved, ?_, hkeepAll⟩
  rw [hsame, hkeep, hdrop]
  simp [hn]

/-! ### What follows from the open -/

theorem State.OpensFrom.frame_of_strikesKeep {fixed struck t : State} {c : Settings} {d : Total} {τ : TimeBase} {es : List Entry}
    {n : Period} {cause : Cause} (h : struck.OpensFrom t c d τ es n cause) (hkeep : fixed.StrikesKeep struck) :
    t = { fixed with
      time := t.time, bank := { fixed.bank with carry := if fixed.book.zeroPending then 0 else fixed.bank.carry }
      book := t.book, subscriptions := struck.subscriptions, link := t.link, alerts := t.alerts } := by
  obtain ⟨_, _, _, _, _, _, _, rfl, -⟩ := hkeep
  exact h.frame

/-- The new entry's flags are those of the station at the boundary's begin (R66). -/
theorem State.StrikesKeep.newEntry_eq {s struck : State} (h : s.StrikesKeep struck) (τ : TimeBase) (c : Settings)
    (number : Option Period) (cause : Cause) :
    newEntry { struck with time := τ } c number cause = newEntry { s with time := τ } c number cause := by
  obtain ⟨_, _, _, _, _, _, _, rfl, -⟩ := h
  rfl

theorem State.isLine_eq {s : State} {c : Settings} (h : s.settings = some c) : s.isLine = decide (c.role = .line) := by
  rw [Bool.eq_iff_iff, decide_eq_true_iff]
  simp [State.isLine, State.role, h]

/-- A boundary of a measuring station ends in ACCOUNTING (R11 step 6). -/
theorem TimeBase.atBoundary_restart {t : TimeBase} (h : t.accounting = .starting ∨ t.accounting = .accounting)
    (passed : Option Nat) :
    (if (t.atBoundary passed).accounting = .starting then .accounting else (t.atBoundary passed).accounting)
      = Accounting.accounting := by
  rcases h with h | h <;> simp [TimeBase.atBoundary, h]

theorem State.phaseCode_accounting {s : State} (h : s.time.accounting = .accounting) :
    s.phaseCode = (false, decide (∃ x ∈ s.book.entries, x.state = .settling)) := by
  have hany : s.anySettling = decide (∃ x ∈ s.book.entries, x.state = .settling) := by
    rw [Bool.eq_iff_iff]
    simp [State.anySettling]
  simp only [State.phaseCode, h, hany]

end Sys2Proof.Machine
end

section
/-! The boundary (O12). -/

namespace Sys2Proof.Machine

open Sys2Proof

/-- Settles O12: the close, eviction and removal give the station `struck` with the strikes that the boundary forces, and the open
adds the jump, the zero boundary and the new entry to it. -/
theorem boundaryClosesAndOpens : Obligations.BoundaryClosesAndOpens := by
  unfold Obligations.BoundaryClosesAndOpens
  intro s c e passed n cause hc hform he hn ha t line good absent tally strikeIf stays probed fed wh carriers energy preZero
  have hstrikeIf : ∀ u o, strikeIf u o = u.strikeAny o := by
    intro u o
    cases o with
    | none => rfl
    | some x => exact (u.strikeAny_some x).symm
  have hwh : wh = carrierWh c s.bank.channels := funext fun k => (carrierWh_eq c _ k).symm
  have hcarriers : carriers = configuredCarriers c := (configuredCarriers_eq c).symm
  have henergy : energy = carrierSum (closingCarriers c s.bank.channels) := by
    rw [carrierSum_closingCarriers, ← hwh, ← hcarriers]
  clear_value strikeIf energy carriers wh
  obtain rfl : strikeIf = State.strikeAny := funext fun u => funext (hstrikeIf u)
  subst hwh hcarriers henergy
  have hclosedKind := closedEntry_kind s c passed e
  generalize hkind : (if passed.isSome then EntryKind.irregular else EntryKind.regular) = kind at hclosedKind
  let closed := closedEntry s c kind e
  let fixed := s.fixFigures c closed
  let told := fixed.queueTally closed
  let atClose := if e.number = none ∨ c.table = [] then told.strike closed else told
  let evicted := if s.book.entries.length < 12 then atClose else atClose.strikeAny s.book.entries.head?
  let struck := evicted.strikeAny (stays.find? fun x => x.number == some n)
  let older := ((struck.book.entries.drop (s.book.entries.length - 11)).filter fun x => x.number != some n).map preZero
  have hatClose : atClose = s.closeOpen kind := by
    rw [State.closeOpen_some hc he]
    simp only [strikesAtClose_iff]
    rfl
  obtain ⟨htracks, hmem, hkeep⟩ := State.forced_strikes (struck := struck) hform hc he hn hkind.symm (by rw [← hatClose]) rfl
  obtain ⟨hsettings, hpending, hcontributors, hstations⟩ := hkeep.same
  change struck.book.zeroPending = s.book.zeroPending at hpending
  have hskipped : (if s.isLine then total (passed.getD 0) else 0)
      = if line then BitVec.ofNat 48 (passed.getD 0) else (0 : Total) := by
    simp only [State.isLine_eq hc, decide_eq_true_iff]
    rfl
  have hopen := State.boundary_opensFrom htracks (hsettings.trans hc) cause
  have hnew := hkeep.newEntry_eq (s.time.atBoundary passed) c (some n) cause
  have hframe := hopen.frame_of_strikesKeep hkeep
  obtain ⟨-, hentries, hbook, htime, hlink, hest⟩ := hopen
  rw [hpending] at hentries
  rw [hpending, hstations, hskipped] at hbook
  rw [hpending, TimeBase.atBoundary_restart ha] at htime
  obtain ⟨hcause, hduration, hformKind, hformCarriers, hstate⟩ := s.closedForm_fields c kind e
  refine ⟨closed, newEntry s c (some n) cause, fixed, told, struck, older, ?closed, ?saturated, ?linePart, ?allotPart, rfl,
    fun h => openPart_line h, fun h => openPart_of_ne h, rfl, rfl, ?tally, ?noTally, rfl,
    s.bank.close_channels c, fun h => Bank.close_line h, ?carry, fun h => Bank.close_of_ne h, ?frame, ?entries, rfl,
    ?closedStays, hbook, ?time, hlink, hest, ?phase⟩
  case closed =>
    rw [← hclosedKind]
    rfl
  case saturated =>
    show (e.flags.saturated || closeSaturates c s.bank) = true ↔ _
    rw [Bool.or_eq_true, closeSaturates_iff]
  case linePart =>
    intro h
    show closingPart c s.bank e.number.isSome = _
    rw [closingPart_line h]
    cases e.number <;> rfl
  case allotPart => exact fun h => closingPart_of_ne h _ _
  case tally =>
    intro p hp hnum
    obtain ⟨m, hm⟩ := Option.ne_none_iff_exists'.mp hnum
    have htally : tally closed p = tallyRecord m closed p := by
      show ({ period := e.number.getD 0, .. } : Record) = _
      rw [hm]; rfl
    rw [htally]
    exact fixed.queueTally_line hm hp
  case noTally =>
    rintro (h | h)
    · exact fixed.queueTally_apportioning (closingPart_of_ne h _ _)
    · exact fixed.queueTally_none h
  case carry => exact fun h hlt => (Bank.close_carry h).trans (nextCarry_of_lt hlt)
  case frame =>
    rw [hcontributors]
    exact hframe
  case entries => exact hentries.trans (congrArg (older ++ [·]) hnew)
  case closedStays =>
    obtain ⟨hnum', hcause', hduration', hkind', hcarriers', hstate'⟩ :=
      Entry.zeroedIf_fields s.book.zeroPending (s.closedForm c kind e)
    exact ⟨_, List.mem_map_of_mem hmem, hnum'.trans (s.closedForm_number c kind e), hcause'.trans hcause,
      hduration'.trans hduration, hkind'.trans hformKind, hcarriers'.trans hformCarriers, hstate'.trans hstate⟩
  case time => cases passed <;> exact htime
  case phase => exact State.phaseCode_accounting (State.boundary_accounting ha passed n cause).1

end Sys2Proof.Machine
end

section
/-! SUPPORT. Every command keeps the channel relation (R31, R33, R35): an amount that arrives and a close keep it, and nothing else
touches a channel. -/

namespace Sys2Proof.Machine

open Sys2Proof

/-! ### One channel -/

theorem ChannelState.atReset_balanced : ChannelState.atReset.balanced := ⟨by decide, by decide⟩

/-- What arrives is counted as far as it is held (R31). -/
theorem ChannelState.balanced.credit {c : ChannelState} (h : c.balanced) (amount : Nat) : (c.credit amount).balanced := by
  obtain ⟨hcounted, hheld⟩ := h
  refine ⟨?_, accumulate_le _ _⟩
  have htaken : c.held + (accumulate c.held amount - c.held) = accumulate c.held amount := by
    have := le_accumulate amount hheld
    omega
  calc c.counted + BitVec.ofNat 64 (accumulate c.held amount - c.held)
      = c.creditedSixteenths
          + (BitVec.ofNat 64 c.held + BitVec.ofNat 64 (accumulate c.held amount - c.held)) := by
        rw [hcounted, BitVec.add_assoc]
    _ = c.creditedSixteenths + BitVec.ofNat 64 (accumulate c.held amount) := by rw [← BitVec.ofNat_add, htaken]

/-- The whole Wh credited at a close are sixteen sixteenths each, also where the credited count wraps (R33, R35). -/
theorem ChannelState.close_creditedSixteenths (c : ChannelState) :
    c.close.creditedSixteenths = c.creditedSixteenths + BitVec.ofNat 64 (16 * (c.held / 16)) := by
  apply BitVec.eq_of_toNat_eq
  simp only [ChannelState.creditedSixteenths, ChannelState.close, BitVec.toNat_add, BitVec.toNat_shiftLeft,
    BitVec.toNat_setWidth, BitVec.toNat_ofNat, Nat.shiftLeft_eq]
  omega

/-- A close moves whole Wh from the held amount to the credited count (R33). -/
theorem ChannelState.balanced.close {c : ChannelState} (h : c.balanced) : c.close.balanced := by
  obtain ⟨hcounted, hheld⟩ := h
  refine ⟨?_, (Nat.mod_le c.held 16).trans hheld⟩
  calc c.counted
      = c.creditedSixteenths + (BitVec.ofNat 64 (16 * (c.held / 16)) + BitVec.ofNat 64 (c.held % 16)) := by
        rw [hcounted, ← BitVec.ofNat_add, Nat.div_add_mod]
    _ = c.close.creditedSixteenths + BitVec.ofNat 64 (c.held % 16) := by
        rw [c.close_creditedSixteenths, BitVec.add_assoc]

/-! ### The bank -/

/-- What leaves the channels as they are keeps the relation. -/
theorem State.channelsBalance.congr {s t : State} (hs : s.channelsBalance) (h : t.bank.channels = s.bank.channels) :
    t.channelsBalance := by
  unfold State.channelsBalance
  rwa [h]

/-- What leaves the bank as it is keeps the relation. -/
theorem State.channelsBalance.of_bank {s t : State} (hs : s.channelsBalance) (h : t.bank = s.bank) : t.channelsBalance :=
  hs.congr (congrArg Bank.channels h)

/-- Right after a hardware reset every channel is balanced, whatever commands wait. -/
theorem reset_channelsBalance (rest : List Instr) : ({ State.reset with pending := rest } : State).channelsBalance := by
  intro i
  simpa [State.reset, Bank.atReset] using ChannelState.atReset_balanced

/-- A step that may be left out keeps the relation when it is taken, if it keeps it. -/
theorem State.channelsBalance.ite {s t : State} {test : Prop} [Decidable test] (hs : s.channelsBalance)
    (ht : s.channelsBalance → t.channelsBalance) : (if test then t else s).channelsBalance := by
  split
  · exact ht hs
  · exact hs

theorem State.creditChannel_channelsBalance {s : State} (hs : s.channelsBalance) (i : Fin 8) (amount : Nat) :
    (s.creditChannel i amount).channelsBalance := by
  intro j
  rw [State.creditChannel_eq]
  by_cases hj : j = i
  · subst hj
    simpa using (hs j).credit amount
  · have hother : i.val ≠ j.val := fun h => hj (Fin.ext h.symm)
    simpa [Vector.getElem_set_ne, hother] using hs j

theorem State.deliver_channelsBalance {s : State} (hs : s.channelsBalance) (c : Settings) (source : ChannelSource)
    (amount : Nat) : (s.deliver c source amount).channelsBalance := by
  rcases s.deliver_cases c source amount with ⟨-, h⟩ | ⟨i, -, h⟩ <;> rw [h]
  · exact hs
  · exact s.creditChannel_channelsBalance hs i amount

theorem State.fixFigures_channelsBalance {s : State} (hs : s.channelsBalance) (c : Settings) (closed : Entry) :
    (s.fixFigures c closed).channelsBalance := by
  intro i
  show (s.bank.close c).channels[i].balanced
  rw [Bank.close_channels]
  split
  · exact (hs i).close
  · exact hs i

/-! ### Boundaries -/
theorem State.closeOpen_channelsBalance {s : State} (hs : s.channelsBalance) (kind : EntryKind) :
    (s.closeOpen kind).channelsBalance := by
  unfold State.closeOpen
  split
  · next c e _ _ =>
    have hfixed := s.fixFigures_channelsBalance hs c (closedEntry s c kind e)
    dsimp only
    split <;> exact hfixed.of_bank (by simp)
  · exact hs

theorem State.openNew_channels (s : State) (number : Option Period) (cause : Cause) :
    (s.openNew number cause).bank.channels = s.bank.channels := by
  unfold State.openNew
  dsimp only
  split <;> simp [State.zeroBoundary]

theorem State.boundary_channelsBalance {s : State} (hs : s.channelsBalance) (passed : Option Nat) (number : Period)
    (cause : Cause) : (s.boundary passed number cause).channelsBalance := by
  have hbefore : (s.beforeOpen passed).channelsBalance := by
    have hclosed := s.closeOpen_channelsBalance hs (if passed.isSome then .irregular else .regular)
    cases passed <;> exact hclosed.of_bank (by simp [State.beforeOpen])
  rw [State.boundary_eq]
  dsimp only
  split <;> exact hbefore.congr (by simp [State.openNew_channels])

theorem State.ownExpiry_channelsBalance {s : State} (hs : s.channelsBalance) : s.ownExpiry.channelsBalance := by
  unfold State.ownExpiry
  split
  · exact hs
  · exact (s.boundary_channelsBalance hs _ _ _).of_bank (State.handOver_bank _ _)

theorem State.soloEnd_channelsBalance {s : State} (hs : s.channelsBalance) : s.soloEnd.channelsBalance :=
  (s.boundary_channelsBalance hs none 1 .soloStart).of_bank (State.handOver_bank _ _)

theorem State.heardMark_channelsBalance {s : State} (hs : s.channelsBalance) (n : Period) (station : Nat) :
    (s.heardMark n station).channelsBalance := by
  unfold State.heardMark
  split
  · exact s.boundary_channelsBalance hs _ _ _
  · split; · exact hs
    split; · exact s.boundary_channelsBalance hs _ _ _
    split; · exact s.boundary_channelsBalance hs _ _ _
    exact hs
  · exact hs

theorem State.evidence_channelsBalance {s : State} (hs : s.channelsBalance) (n : Period) (station : Nat) :
    (s.evidence n station).channelsBalance := by
  unfold State.evidence
  split
  · exact s.boundary_channelsBalance hs _ _ _
  · split; · exact s.boundary_channelsBalance hs _ _ _
    split; · exact s.boundary_channelsBalance hs _ _ _
    exact hs
  · exact hs

/-- A taken record touches the channels by its boundary evidence alone. -/
theorem State.takeRecord_channelsBalance {s : State} (hs : s.channelsBalance) (n : Period) (station : Nat)
    {take : State → State} (htake : ∀ u, (take u).bank = u.bank) : (s.takeRecord n station take).channelsBalance := by
  have hevidence := s.evidence_channelsBalance hs n station
  rcases s.takeRecord_cases n station take with ⟨-, h⟩ | ⟨-, h⟩ <;> rw [h]
  · exact hevidence
  · exact hevidence.of_bank (htake _)

/-! ### Base ticks -/

theorem State.overdue_channelsBalance {s : State} (hs : s.channelsBalance) : s.overdue.channelsBalance := by
  have hstruck : (s.waitsOver.foldl State.strike s).channelsBalance := hs.of_bank (by simp)
  exact hs.ite fun _ => ((hstruck.ite State.ownExpiry_channelsBalance).ite State.soloEnd_channelsBalance).ite fun h =>
    h.of_bank (State.takeSample_bank _)

/-- The count of a base tick adds run seconds and touches no channel (R38). -/
theorem State.countTick_channels (s : State) : s.countTick.bank.channels = s.bank.channels := by
  unfold State.countTick
  split
  · rfl
  · split <;> rfl

theorem State.baseTick_channelsBalance {s : State} (hs : s.channelsBalance) : s.baseTick.channelsBalance :=
  s.overdue_channelsBalance hs |>.congr (State.countTick_channels _)

theorem State.secondPulse_channelsBalance {s : State} (hs : s.channelsBalance) : s.secondPulse.channelsBalance := by
  unfold State.secondPulse
  split
  · exact hs
  · exact (s.overdue_channelsBalance hs).congr (State.countTick_channels _)

/-! ### Pulses and readings -/

theorem State.energyPulse_channelsBalance {s : State} (hs : s.channelsBalance) (line : Fin 8) :
    (s.energyPulse line).channelsBalance := by
  unfold State.energyPulse
  split
  · exact hs
  · exact s.deliver_channelsBalance hs _ _ _

theorem State.cutPulse_channels (s : State) : s.cutPulse.bank.channels = s.bank.channels := by
  simp [State.cutPulse]

theorem State.rejectPulse_channels (s : State) : s.rejectPulse.bank.channels = s.bank.channels := by
  simp [State.rejectPulse]

theorem State.takeReading_channelsBalance {s : State} (hs : s.channelsBalance) (c : Settings) (m : Fin 8)
    (setup : MeterSetup) (delta : Nat) : (s.takeReading c m setup delta).channelsBalance := by
  rcases s.takeReading_cases c m setup delta with ⟨-, h⟩ | ⟨-, h⟩ <;> rw [h]
  · exact s.deliver_channelsBalance hs _ _ _
  · exact hs

theorem State.goodPoll_channelsBalance {s : State} (hs : s.channelsBalance) (c : Settings) (m : Fin 8) (setup : MeterSetup)
    (value : Nat) (alarm : Bool) : (s.goodPoll c m setup value alarm).channelsBalance := by
  unfold State.goodPoll
  dsimp only
  have hend {t : State} (ht : t.channelsBalance) :
      ((t.setMeter m (goodEntry value alarm)).takeAlarm alarm).refreshAlerts.channelsBalance := ht.of_bank (by simp)
  refine hend ?_
  split
  · exact hs
  · refine State.takeReading_channelsBalance ?_ c m setup _
    split <;> exact hs

theorem State.judgeReply_channelsBalance {s : State} (hs : s.channelsBalance) (reply : MeterReply) :
    (s.judgeReply reply).channelsBalance := by
  unfold State.judgeReply
  split
  · split
    · dsimp only
      split
      · exact State.goodPoll_channelsBalance (s := s.byteArrived) hs _ _ _ _ _
      · exact hs.of_bank (by simp)
    · exact hs
  · exact hs

/-! ### Requests and start-up -/

theorem State.takeJob_channels (s : State) (f : Frame) : (s.takeJob f).bank.channels = s.bank.channels := by
  unfold State.takeJob
  split <;> simp [State.acceptJob]

theorem State.query_bank (s : State) (f : Frame) {k : State → State} (hk : ∀ u, (k u).bank = u.bank) :
    (s.query f k).bank = s.bank := by
  rcases s.query_cases f k with ⟨-, h⟩ | ⟨-, h⟩ <;> rw [h]
  · rfl
  · exact hk _

theorem State.unknownRequest_bank (s : State) (f : Frame) :
    (if isOrder f then s.unknownOrder f else s.unknownQuery f).bank = s.bank := by
  split
  · exact s.unknownOrder_bank f
  · exact s.query_bank f (by simp)

theorem State.loadSucceeds_channels (s : State) (image : List Byte) (role : Role) (now : Nat) :
    (s.loadSucceeds image role now).bank.channels = s.bank.channels := by
  simp [State.loadSucceeds, State.openNew_channels, State.configure]

/-! ### The commands -/

/-- A received frame keeps the relation when what its block does keeps it. -/
theorem State.receive_channelsBalance {s : State} (hs : s.channelsBalance) (row : FrameRow) (ch : Chan) (f : Frame)
    {k : State → State} (hk : ∀ u : State, u.channelsBalance → (k u).channelsBalance) :
    (s.receive row ch f k).channelsBalance :=
  State.receive_keeps (P := State.channelsBalance) hs hs hs hs hs (hk _ hs)

section
variable (s : State)

theorem execImageReadAttempt_channels (memory : List Byte) (now : Nat) :
    EndsIn (fun t => t.bank.channels = s.bank.channels) (execImageReadAttempt memory now s) := by
  refine .ite (fun _ => ?_) rfl
  split
  · split
    · exact s.loadSucceeds_channels _ _ _
    · rfl
  · rw [State.attemptFails_bank]

theorem execWaitTimerExpiry_bank (number : Period) :
    EndsIn (fun t => t.bank = s.bank) (execWaitTimerExpiry number s) := by
  unfold execWaitTimerExpiry
  split
  · exact .ite (fun _ => s.strike_bank _) rfl
  · exact .next rfl

theorem execMeterLineQuiet_bank (elapsed : Nat) : EndsIn (fun t => t.bank = s.bank) (execMeterLineQuiet elapsed s) := by
  refine .next ?_
  split
  · rfl
  · simp

theorem execQuietWaitTimeout_bank : EndsIn (fun t => t.bank = s.bank) (execQuietWaitTimeout s) := by
  unfold execQuietWaitTimeout
  split
  · exact .ite (fun _ => s.pollFails_bank _ _) rfl
  · exact .next rfl

theorem execRequestSent_bank : EndsIn (fun t => t.bank = s.bank) (execRequestSent s) := by
  unfold execRequestSent
  split <;> exact .next rfl

theorem execReplyWindowClose_bank (window : WindowEnd) :
    EndsIn (fun t => t.bank = s.bank) (execReplyWindowClose window s) := by
  unfold execReplyWindowClose
  split
  · exact .ite (fun _ => State.pollFails_bank _ _ _) rfl
  · exact .next rfl

theorem execFrameBegin_bank (ch : Chan) (elapsed : Nat) : EndsIn (fun t => t.bank = s.bank) (execFrameBegin ch elapsed s) := by
  refine .next ?_
  split
  · rfl
  · exact s.tryBegin_bank _ _

theorem execFrameGoneOutWhole_bank (ch : Chan) : EndsIn (fun t => t.bank = s.bank) (execFrameGoneOutWhole ch s) := by
  unfold execFrameGoneOutWhole
  split
  · exact .next rfl
  · exact .ite (fun _ => rfl) rfl

theorem execEchoMismatch_bank (ch : Chan) : EndsIn (fun t => t.bank = s.bank) (execEchoMismatch ch s) := by
  unfold execEchoMismatch
  split
  · exact .next rfl
  · refine .ite (fun _ => rfl) ?_
    split <;> rfl

theorem execInhibitedFrameEnd_bank (ch : Chan) : EndsIn (fun t => t.bank = s.bank) (execInhibitedFrameEnd ch s) := by
  unfold execInhibitedFrameEnd
  split
  · exact .next rfl
  · exact .ite (fun _ => rfl) rfl

end

/-- Every command keeps the channel relation. -/
theorem exec_channelsBalance {s : State} (hs : s.channelsBalance) (i : Instr) : EndsIn State.channelsBalance (exec i s) := by
  have keeps {o : Host.Outcome State Fault Refusal} (h : EndsIn (fun t => t.bank = s.bank) o) :
      EndsIn State.channelsBalance o := h.mono fun _ => hs.of_bank
  have query {row : FrameRow} {ch : Chan} {f : Frame} {k : State → State} (hk : ∀ u, (k u).bank = u.bank) :
      EndsIn State.channelsBalance (.next (s.receive row ch f fun t => t.query f k)) :=
    .next (s.receive_channelsBalance hs _ _ _ fun u hu => hu.of_bank (u.query_bank f hk))
  cases i with
  | hardwareReset => exact .next (reset_channelsBalance _)
  | resetRelease straps levels inhibitA inhibitB => exact .ite (fun _ => hs) hs
  | imageReadAttempt memory now => exact (execImageReadAttempt_channels s memory now).mono fun _ => hs.congr
  | retryWaitEnd => exact .ite (fun _ => hs) hs
  | internalSecond =>
    refine .next ?_
    split
    · exact hs
    · exact s.baseTick_channelsBalance hs
  | secondPulse line => exact .ite (fun _ => State.secondPulse_channelsBalance (s := s.setLevel _ _) hs) hs
  | lossWatchExpiry => exact .ite (fun _ => hs) hs
  | periodExpiry => exact .ite (fun _ => s.ownExpiry_channelsBalance hs) hs
  | soloWaitEnd => exact .ite (fun _ => s.soloEnd_channelsBalance hs) hs
  | sampleTick => exact .ite (fun _ => hs.of_bank s.takeSample_bank) hs
  | waitTimerExpiry number => exact keeps (execWaitTimerExpiry_bank s number)
  | alertPulseEnd alert => cases alert <;> exact .next hs
  | energyPulse line => exact .ite (fun _ => State.energyPulse_channelsBalance (s := s.setLevel _ _) hs _) hs
  | cutPulse line => exact .ite (fun _ => hs.congr (State.cutPulse_channels _)) hs
  | rejectPulse line => exact .ite (fun _ => hs.congr (State.rejectPulse_channels _)) hs
  | runningLevelChange line edge => exact .ite (fun _ => hs) hs
  | faultLevelChange line edge => exact .ite (fun _ => hs.of_bank (s.faultChange_bank _ _)) hs
  | debouncedEdge line edge time => exact .ite (fun _ => hs.of_bank (State.recordEdge_bank _ _ _ _)) hs
  | meterLineQuiet elapsed => exact keeps (execMeterLineQuiet_bank s elapsed)
  | quietWaitTimeout => exact keeps (execQuietWaitTimeout_bank s)
  | requestSent => exact keeps (execRequestSent_bank s)
  | replyReceived reply => exact .next (s.judgeReply_channelsBalance hs reply)
  | replyWindowClose window => exact keeps (execReplyWindowClose_bank s window)
  | strayMeterByte byte =>
    refine .next ?_
    split <;> exact hs
  | frameBegin ch elapsed => exact keeps (execFrameBegin_bank s ch elapsed)
  | defer ch =>
    refine .next ?_
    split <;> exact hs
  | frameGoneOutWhole ch => exact keeps (execFrameGoneOutWhole_bank s ch)
  | echoMismatch ch => exact keeps (execEchoMismatch_bank s ch)
  | inhibitActive ch =>
    refine .next ?_
    split <;> exact hs
  | inhibitReleased ch => exact .ite (fun _ => hs) hs
  | receiveError ch raw => exact .ite (fun _ => hs) hs
  | bitRateFixed ch rate => exact .ite (fun _ => hs) hs
  | mark ch frame => exact .next (s.receive_channelsBalance hs _ _ _ fun _ hu => State.heardMark_channelsBalance hu _ _)
  | tally ch frame =>
    exact .next (s.receive_channelsBalance hs _ _ _ fun _ hu => State.takeRecord_channelsBalance hu _ _ (by simp))
  | allotment ch frame =>
    exact .next (s.receive_channelsBalance hs _ _ _ fun _ hu => State.takeRecord_channelsBalance hu _ _ (by simp))
  | answerHeard ch frame => exact .next (s.receive_channelsBalance hs _ _ _ fun _ hu => hu)
  | queryResult ch frame => exact query (by simp)
  | queryLatest ch frame => exact query (by simp)
  | queryCampaign ch frame => exact query (by simp)
  | queryCondition ch frame =>
    exact .next (s.receive_channelsBalance hs _ _ _ fun _ hu => hu.of_bank (State.answerCondition_bank _ _))
  | queryChannels ch frame => exact query (by simp)
  | unknownRequest ch frame =>
    exact .next (s.receive_channelsBalance hs _ _ _ fun u hu => hu.of_bank (u.unknownRequest_bank frame))
  | orderZero ch frame => exact .next (s.receive_channelsBalance hs _ _ _ fun u hu => hu.of_bank (u.takeZero_bank frame))
  | orderJob ch frame => exact .next (s.receive_channelsBalance hs _ _ _ fun u hu => hu.congr (u.takeJob_channels frame))
  | receiverStart ch => exact .ite (fun _ => hs) hs
  | inhibitedFrameEnd ch => exact keeps (execInhibitedFrameEnd_bank s ch)

/-- Settles O54: an amount that arrives and a close keep the relation of their channels, and no command does more to one. -/
theorem stepKeepsTheChannelRelation : Obligations.StepKeepsTheChannelRelation := by
  unfold Obligations.StepKeepsTheChannelRelation
  intro s t hs h
  exact step_keeps (fun _ _ hu => hu) (fun i _ hu => exec_channelsBalance hu i) hs h

end Sys2Proof.Machine
end

section
/-! SUPPORT. The commands of the input lines and of the accumulator bank: pulses, deliveries, level changes and edges (R24 to R32,
R36, R37, R42, R57). -/

namespace Sys2Proof.Machine

open Sys2Proof

/-! ### The first place of a table that has a property -/

/-- A search of the eight places finds the first that passes the test. -/
theorem find?_finRange_eq_some_iff {p : Fin 8 → Bool} {i : Fin 8} :
    (List.finRange 8).find? p = some i ↔ p i = true ∧ ∀ j : Fin 8, j < i → p j = false := by
  rw [← Fin.find?_eq_find?_finRange, Fin.find?_eq_some_iff]

/-! ### Deliveries (R30, R31, R32) -/

theorem Settings.channelOf_eq_none_iff (c : Settings) (source : ChannelSource) :
    c.channelOf source = none ↔ ∀ i : Fin 8, c.channels[i].map ChannelSetup.source ≠ some source := by
  simp [Settings.channelOf]

/-- The channel of a source is the lowest one configured with it (R30). -/
theorem Settings.channelOf_eq_some_iff (c : Settings) (source : ChannelSource) (i : Fin 8) :
    c.channelOf source = some i ↔ c.channels[i].map ChannelSetup.source = some source
      ∧ ∀ j : Fin 8, j < i → c.channels[j].map ChannelSetup.source ≠ some source := by
  simp only [Settings.channelOf, find?_finRange_eq_some_iff, beq_iff_eq, beq_eq_false_iff_ne]

theorem State.deliver_some {s : State} {c : Settings} {source : ChannelSource} {i : Fin 8}
    (h : c.channelOf source = some i) (amount : Nat) : s.deliver c source amount = s.creditChannel i amount := by
  simp only [State.deliver, h]

/-- The channel that an amount arrives at takes it. -/
theorem State.creditChannel_channel_same (s : State) (i : Fin 8) (amount : Nat) :
    (s.creditChannel i amount).bank.channels[i] = s.bank.channels[i].credit amount := by
  simp [State.creditChannel_eq]

theorem State.creditChannel_channel_other (s : State) {i j : Fin 8} (h : j ≠ i) (amount : Nat) :
    (s.creditChannel i amount).bank.channels[j] = s.bank.channels[j] := by
  have hval : i.val ≠ j.val := fun hv => h (Fin.ext hv.symm)
  simp [State.creditChannel_eq, Vector.getElem_set_ne, hval]

theorem State.creditChannel_entries (s : State) (i : Fin 8) (amount : Nat) :
    (s.creditChannel i amount).book.entries
      = flagOpenedIf (2 ^ 40 - 1 < s.bank.channels[i].held + amount) (fun flags => { flags with saturated := true })
          s.book.entries := by
  rw [State.creditChannel_eq]
  rfl

theorem State.creditChannel_frame (s : State) (i : Fin 8) (amount : Nat) :
    s.creditChannel i amount
      = { s with bank := { s.bank with channels := (s.creditChannel i amount).bank.channels },
                 book := { s.book with entries := (s.creditChannel i amount).book.entries } } := by
  rw [State.creditChannel_eq]

/-- Settles O21: a delivery is the credit of the channel of its source, when it has one. -/
theorem deliveryCreditsItsChannelOnly : Obligations.DeliveryCreditsItsChannelOnly := by
  unfold Obligations.DeliveryCreditsItsChannelOnly
  intro s c source amount
  refine ⟨c.channelOf_eq_none_iff source, fun h => by simp only [State.deliver, h], fun i h => ?_⟩
  obtain ⟨hsource, hlowest⟩ := (c.channelOf_eq_some_iff source i).mp h
  rw [State.deliver_some h]
  have hsame := s.creditChannel_channel_same i amount
  refine ⟨s.creditChannel_frame i amount, ?held, ?counted, ?credited, fun j hj => s.creditChannel_channel_other hj amount,
    s.creditChannel_entries i amount, hsource, hlowest⟩
  all_goals rw [hsame]; rfl

/-! ### Pulses (R31, R36, R37) -/

/-- The pulse value of a line is that of the channel it feeds (R31). -/
theorem Settings.pulseOf_eq {c : Settings} {line i : Fin 8} {setup : ChannelSetup}
    (hi : c.channelOf (.line line) = some i) (hsetup : c.channels[i] = some setup) : c.pulseOf line = setup.pulse := by
  simp only [Settings.pulseOf, hi, Option.bind_some, hsetup]

theorem exec_energyPulse {s : State} {c : Settings} {line i : Fin 8} {setup : ChannelSetup} (hc : s.settings = some c)
    (hpulse : s.pulsePossible line .energy = true) (hi : c.channelOf (.line line) = some i)
    (hsetup : c.channels[i] = some setup) :
    exec (.energyPulse line) s = .next ((s.setLevel line (s.countedEdge line)).creditChannel i setup.pulse) := by
  show Host.Outcome.next (if s.pulsePossible line .energy then _ else s) = _
  rw [if_pos hpulse]
  simp only [State.energyPulse, State.setLevel_settings, hc, State.deliver_some hi, Settings.pulseOf_eq hi hsetup]

/-- Settles O13: the pulse moves its line's level and credits its channel. -/
theorem energyPulseIsCounted : Obligations.EnergyPulseIsCounted := by
  unfold Obligations.EnergyPulseIsCounted
  intro s c line i setup hc hpulse hi hsetup
  let u := s.setLevel line (s.countedEdge line)
  have hsame := u.creditChannel_channel_same i setup.pulse
  refine ⟨_, exec_energyPulse hc hpulse hi hsetup, ?frame, by simp,
    fun j hj => u.creditChannel_channel_other hj setup.pulse, ?held, ?counted, ?credited,
    u.creditChannel_entries i setup.pulse, ?book⟩
  case frame => rw [State.creditChannel_eq]; rfl
  case book => rw [State.creditChannel_eq]; rfl
  all_goals rw [hsame]; rfl

theorem State.cutPulse_eq (s : State) : s.cutPulse =
    { s with
        bank := { s.bank with pull := min 4294967295 (s.bank.pull + s.bank.job.gob * s.bank.job.perCut),
                              cuts := min 4294967295 (s.bank.cuts + 1) },
        book := { s.book with
          entries := flagOpenedIf (4294967295 < s.bank.pull + s.bank.job.gob * s.bank.job.perCut ∨ 4294967295 < s.bank.cuts + 1)
            (fun flags => { flags with saturated := true }) s.book.entries } } := by
  simp only [State.cutPulse, State.saturateIf_eq, Bool.or_eq_true, decide_eq_true_eq]
  rfl

theorem State.rejectPulse_eq (s : State) : s.rejectPulse =
    { s with
        bank := { s.bank with reject := min 4294967295 (s.bank.reject + s.bank.job.gob) },
        book := { s.book with
          entries := flagOpenedIf (4294967295 < s.bank.reject + s.bank.job.gob) (fun flags => { flags with saturated := true })
            s.book.entries } } := by
  simp only [State.rejectPulse, State.saturateIf_eq, decide_eq_true_eq]
  rfl

/-- Settles O14: each pulse moves its line's level and is weighed; a cut weighs at most 65,535 g by 4 gobs. -/
theorem cutAndRejectPulsesWeighGlass : Obligations.CutAndRejectPulsesWeighGlass := by
  unfold Obligations.CutAndRejectPulsesWeighGlass
  intro s line
  refine ⟨fun h => ?cut, fun h => ?reject⟩
  case cut =>
    have hexec : exec (.cutPulse line) s = .next (s.setLevel line (s.countedEdge line)).cutPulse :=
      congrArg Host.Outcome.next (if_pos h)
    refine ⟨_, hexec, ?_, ?_, ?_, ?_, fun hg hg' hp hp' => ⟨Nat.mul_pos hg hp, Nat.mul_le_mul hg' hp'⟩⟩
    all_goals rw [State.cutPulse_eq]; rfl
  case reject =>
    have hexec : exec (.rejectPulse line) s = .next (s.setLevel line (s.countedEdge line)).rejectPulse :=
      congrArg Host.Outcome.next (if_pos h)
    refine ⟨_, hexec, ?_, ?_, ?_, ?_⟩
    all_goals rw [State.rejectPulse_eq]; rfl

/-! ### Level changes and edges (R24 to R28, R42, R57) -/

theorem State.faultChange_eq (s : State) (line : Fin 8) (edge : Edge) : s.faultChange line edge =
    { s with inputs := s.inputs.set line { s.inputs[line] with level := edge.endLevel },
             book := { s.book with
               entries := flagOpenedIf (edge.endLevel = s.activeLevel line) (fun flags => { flags with meterFault := true })
                 s.book.entries },
             alerts := (s.faultChange line edge).alerts } := by
  unfold State.faultChange
  dsimp only
  split
  · next h => rw [flagOpenedIf_pos h]; rfl
  · next h => rw [flagOpenedIf_neg h]; rfl

/-- A line with a level role is active where its debounced level stands at its active level (R27). -/
theorem State.anyActive_of_line {s : State} {c : Settings} {line : Fin 8} {role : LineRole} (hc : s.settings = some c)
    (hrole : c.lines[line].role = role) (hlevel : s.inputs[line].level = c.lines[line].polarity.activeLevel) :
    s.anyActive role = true := by
  simp only [State.anyActive, hc, List.any_eq_true, Bool.and_eq_true, beq_iff_eq, lineActive]
  exact ⟨line, List.mem_finRange line, hrole, hlevel⟩

/-- A FAULT line that becomes active sets METER (R42, R57). -/
theorem State.faultChange_meterCondition {s : State} {line : Fin 8} {edge : Edge}
    (hrole : s.lineHasRole line .fault = true) (hactive : edge.endLevel = s.activeLevel line) :
    (s.faultChange line edge).meterCondition = true := by
  unfold State.lineHasRole at hrole
  unfold State.activeLevel at hactive
  split at hrole
  · simp at hrole
  · next c hc =>
    rw [hc] at hactive
    have hinputs : (s.faultChange line edge).inputs[line].level = edge.endLevel := by
      rw [State.faultChange_eq]
      simp
    have hfault : (s.faultChange line edge).faultActive = true :=
      State.anyActive_of_line (s.faultChange_settings line edge ▸ hc) (beq_iff_eq.mp hrole) (hinputs.trans hactive)
    simp [State.meterCondition, hfault]

/-- The line after an edge that delivers no event: moved, and until loading ends with the time of the edge (R25, R28). -/
theorem State.recordEdge_setLevel (s : State) (line : Fin 8) (edge : Edge) (time : Nat) :
    (s.setLevel line edge).recordEdge line edge time =
      { s with inputs := s.inputs.set line {
          level := edge.endLevel
          lastRise := if s.loader.phase ≠ .ended ∧ edge = .rising then some time else s.inputs[line].lastRise
          lastFall := if s.loader.phase ≠ .ended ∧ edge = .falling then some time else s.inputs[line].lastFall } } := by
  unfold State.recordEdge
  by_cases hended : s.loader.phase = .ended
  · simp [State.setLevel, hended]
  · cases edge <;> simp [State.setLevel, hended]

theorem State.edgePossible_iff (s : State) (line : Fin 8) (edge : Edge) :
    s.edgePossible line edge = true ↔ s.inputs[line].level ≠ edge.endLevel := by
  simp [State.edgePossible]

theorem State.lineHasRole_iff {s : State} {c : Settings} (hc : s.settings = some c) (line : Fin 8) (role : LineRole) :
    s.lineHasRole line role = true ↔ c.lines[line].role = role := by
  simp [State.lineHasRole, hc]

/-- The level at the end of the edge that a polarity counts is the active level of the polarity (R26, R27). -/
theorem Polarity.countedEdge_endLevel (p : Polarity) :
    p.countedEdge.endLevel = if p = .risingHigh then .high else .low := by
  cases p <;> rfl

theorem State.pulsePossible_iff {s : State} {c : Settings} (hc : s.settings = some c) (line : Fin 8) (role : LineRole) :
    s.pulsePossible line role = true ↔ c.lines[line].role = role
      ∧ s.inputs[line].level = if c.lines[line].polarity = .risingHigh then .low else .high := by
  rw [State.pulsePossible, Bool.and_eq_true, State.lineHasRole_iff hc, State.edgePossible_iff]
  simp only [State.countedEdge, hc, Polarity.countedEdge_endLevel]
  cases c.lines[line].polarity <;> cases s.inputs[line].level <;> simp

/-- The edges that deliver no event: those of an UNUSED line, and of a pulse role those in the direction it does not count
(R24, R26). -/
theorem State.deliversNothing_iff {s : State} {c : Settings} (hc : s.settings = some c) (line : Fin 8) (edge : Edge) :
    s.deliversNothing line edge = true ↔ c.lines[line].role = .unused
      ∨ (c.lines[line].role ∈ [LineRole.energy, .cut, .reject, .second]
        ∧ edge = if c.lines[line].polarity = .risingHigh then Edge.falling else Edge.rising) := by
  have huncounted (p : Polarity) : edge ≠ p.countedEdge ↔ edge = if p = .risingHigh then Edge.falling else Edge.rising := by
    cases p <;> cases edge <;> decide
  simp only [State.deliversNothing, hc]
  cases c.lines[line].role <;> simp [huncounted]

/-- Settles O15: a level change moves its line, an edge without an event as well, and each test by the configuration. -/
theorem levelChangesAndEdgesMoveTheLine : Obligations.LevelChangesAndEdgesMoveTheLine := by
  unfold Obligations.LevelChangesAndEdgesMoveTheLine
  refine ⟨fun s line edge hedge => ⟨fun hrole => ?running, fun hrole => ?fault⟩,
    fun s line edge time hphase hedge hnothing => ?edge, fun s line => ⟨?rising, ?falling, fun hc edge role => ?none,
      fun c hc => ⟨?active, ?counted, fun role => ⟨s.lineHasRole_iff hc line role, s.pulsePossible_iff hc line role⟩,
        s.deliversNothing_iff hc line⟩⟩⟩
  case running => exact congrArg Host.Outcome.next (if_pos (by simp [hrole, hedge]))
  case fault =>
    have hexec : exec (.faultLevelChange line edge) s = .next (s.faultChange line edge) :=
      congrArg Host.Outcome.next (if_pos (by simp [hrole, hedge]))
    refine ⟨_, hexec, ?_, ?_, ?_, State.faultChange_meterCondition hrole, ?_⟩
    all_goals rw [State.faultChange_eq]
    rfl
  case edge =>
    have hexec : exec (.debouncedEdge line edge time) s = .next ((s.setLevel line edge).recordEdge line edge time) :=
      congrArg Host.Outcome.next (if_pos (by simp [State.inReset, hphase, hedge, hnothing]))
    exact hexec.trans (congrArg Host.Outcome.next (s.recordEdge_setLevel line edge time))
  case rising => rw [State.edgePossible_iff]; cases s.inputs[line].level <;> decide
  case falling => rw [State.edgePossible_iff]; cases s.inputs[line].level <;> decide
  case none => simp [State.deliversNothing, State.pulsePossible, State.lineHasRole, hc]
  case active =>
    simp only [State.activeLevel, hc]
    cases c.lines[line].polarity <;> rfl
  case counted => simp only [State.setLevel, State.countedEdge, hc, Polarity.countedEdge_endLevel]

end Sys2Proof.Machine
end

section
/-! SUPPORT. The begin of a read attempt, the JOB order, the conservation of glass at a close, and the invariants at reset (R28, R39 to
R41, R162, R164 to R166, R168 to R172). -/

namespace Sys2Proof.Machine

open Sys2Proof

/-! ### Reset release and retry (R28, R138, R168 to R172) -/

theorem State.inReset_iff (s : State) : s.inReset = true ↔ s.loader.phase = .held := by simp [State.inReset]

/-- The 24 bits of the read instruction, each on SDO through a low and a high SCK (R171). -/
theorem readInstruction_bits : readInstruction.flatMap bitsOf =
    [false, false, false, false, false, false, true, true] ++ List.replicate 16 false := by decide

/-- A loader's wave is one low and one high SCK for each bit that it sends. -/
theorem Loader.serialWave_eq (l : Loader) :
    l.serialWave = (l.sent.flatMap bitsOf).flatMap fun bit => [(.low, levelOf bit), (.high, levelOf bit)] := by
  simp only [Loader.serialWave, List.flatMap_assoc]

/-- Settles O4: each event by the phase that it occurs in, and the wave by the bits of the read instruction. -/
theorem resetReleaseAndRetryBeginAReadAttempt : Obligations.ResetReleaseAndRetryBeginAReadAttempt := by
  unfold Obligations.ResetReleaseAndRetryBeginAReadAttempt
  refine ⟨fun straps levels inhibitA inhibitB s => ⟨fun h => ?release, fun h => ?held⟩,
    fun s => ⟨fun h => ?retry, fun h => ?waiting⟩, fun l h => ?wave⟩
  case release => exact congrArg Host.Outcome.next (if_pos (s.inReset_iff.mpr h))
  case held => exact congrArg Host.Outcome.next (if_neg (mt s.inReset_iff.mp h))
  case retry => exact congrArg Host.Outcome.next (if_pos h)
  case waiting => exact congrArg Host.Outcome.next (if_neg h)
  case wave =>
    rw [Loader.serialWave_eq, h]
    exact congrArg _ readInstruction_bits

/-! ### JOB orders (R39, R162, R164 to R166) -/

/-- A frame of the row of JOB is an ORDER of code 2 (R187, R188). -/
theorem Frame.row_orderJob {f : Frame} (h : f.row = .orderJob) : isOrder f = true ∧ requestCode f = 2 := by
  have hquery (item part : Nat) : queryRow item part ≠ .orderJob := by
    unfold queryRow
    dsimp only
    split <;> split <;> simp
  unfold Frame.row at h
  split at h
  case h_5 hkind =>
    refine ⟨by simpa [isOrder] using BitVec.eq_of_toNat_eq (y := 5#4) hkind, ?_⟩
    split at h
    · cases h
    · next hcode => exact BitVec.eq_of_toNat_eq (y := 2#8) hcode
    · cases h
  case h_4 => exact absurd h (hquery _ _)
  all_goals cases h

/-- The ANSWER to an ORDER (R153, R188). -/
theorem answerRecord_order {f : Frame} (h : isOrder f = true) (outcome : RequestOutcome) (body : List Byte) (n : Period)
    (estimated : Bool) : answerRecord f outcome body n estimated =
      { kind := .answer, revision := 0, destination := f.source, period := n, tag := f.tag,
        payload := [byte outcome.code, requestCode f] ++ body, estimated := estimated } := by
  simp only [answerRecord, h, if_true]

theorem jobInRange_iff (j : Job) : jobInRange j = true ↔ 1 ≤ j.gob ∧ 1 ≤ j.perCut ∧ j.perCut ≤ 4 := by
  simp [jobInRange, and_assoc]

/-- The tests of a JOB order in a configured station: authorization before role before range (R162). -/
theorem State.orderRefusal_job {s : State} {c : Settings} (hc : s.settings = some c) (f : Frame) :
    s.orderRefusal f true = if orderAuthorization f ≠ c.authorization then some .refusedCode
      else if c.role ≠ .line then some .refusedRole
      else if jobInRange (orderJob f) = false then some .refusedRange
      else none := by
  simp [State.orderRefusal, hc]

/-- An accepted JOB: counted, the job replaced, the open entry flagged, and answered with the job (R39, R164). -/
theorem State.acceptJob_eq {s : State} {f : Frame} (hf : isOrder f = true ∧ requestCode f = 2) :
    s.acceptJob f =
      let u := { s with
        requests := { s.requests with accepted := min 65535 (s.requests.accepted + 1) },
        bank := { s.bank with job := orderJob f },
        book := { s.book with entries := flagOpenedIf True (fun flags => { flags with jobChange := true }) s.book.entries } }
      if f.destination = 31 then u else u.handOver
        { kind := .answer, revision := 0, destination := f.source, period := f.period, tag := f.tag,
          payload := [6, 2, BitVec.ofNat 8 ((orderJob f).gob / 256), BitVec.ofNat 8 (orderJob f).gob,
            BitVec.ofNat 8 (orderJob f).perCut],
          estimated := false } := by
  simp only [State.acceptJob, State.answerOrder, State.answer, answerRecord_order hf.1, hf.2, flagOpenedIf_pos trivial,
    toBytes, Nat.pow_zero, Nat.pow_one, Nat.div_one]
  rfl

/-- A refused order: counted, recorded, SERVICE set, and answered but for REFUSED-STATE (R162, R166). -/
theorem State.refuse_eq {s : State} {f : Frame} (hf : isOrder f = true ∧ requestCode f = 2) {outcome : RequestOutcome}
    (hstate : outcome ≠ .refusedState) :
    ∃ u : State, s.refuse f outcome = (if f.destination = 31 then u else u.handOver
        { kind := .answer, revision := 0, destination := f.source, period := f.period, tag := f.tag,
          payload := [byte outcome.code, 2], estimated := false })
      ∧ u = { s with requests := u.requests, link := { s.link with service := true }, alerts := u.alerts }
      ∧ u.requests = { s.requests with
          refused := min 65535 (s.requests.refused + 1),
          lastRefusal := some { order := true, code := 2, source := f.source, tag := f.tag, outcome := outcome } } := by
  refine ⟨State.setService (State.recordRefusal
    { s with requests := { s.requests with refused := grow s.requests.refused 1 } } f outcome), ?_, rfl, ?_⟩
  · simp only [State.refuse, if_neg hstate, State.answerOrder, State.answer, answerRecord_order hf.1, hf.2,
      List.append_nil]
  · simp only [State.setService_requests, State.recordRefusal, hf.1, hf.2]
    rfl

/-- Settles O45: the first test of the order that fails refuses it, and one that fails none takes the job. -/
theorem jobOrderReplacesTheJob : Obligations.JobOrderReplacesTheJob := by
  unfold Obligations.JobOrderReplacesTheJob
  intro s ch f c hd hc h word gob perCut inRange answer
  have ⟨⟨_, _, _, hrow, _⟩, _⟩ := hd
  have hf := Frame.row_orderJob hrow
  have hexec : exec (.orderJob ch f) s = .next (h.takeJob f) :=
    congrArg Host.Outcome.next (State.receive_of_delivers hd _)
  have hrange : jobInRange (orderJob f) = true ↔ inRange := jobInRange_iff _
  have hrefusal := State.orderRefusal_job (s := h) (c := c) hc f
  rw [show orderAuthorization f = word 1 from rfl] at hrefusal
  refine ⟨fun hcode hrole hin => ?accepted, fun outcome number hcases => ?refused⟩
  case accepted =>
    have hnone : h.orderRefusal f true = none := by
      rw [hrefusal, if_neg (not_not.mpr hcode), if_neg (not_not.mpr hrole), if_neg (by simp [hrange.mpr hin])]
    rw [hexec, State.takeJob, hnone]
    exact congrArg Host.Outcome.next (State.acceptJob_eq hf)
  case refused =>
    have hsome : h.orderRefusal f true = some outcome ∧ outcome ≠ .refusedState ∧ number = byte outcome.code := by
      rw [hrefusal]
      rcases hcases with ⟨hcode, rfl, rfl⟩ | ⟨hcode, hrole, rfl, rfl⟩ | ⟨hcode, hrole, hout, rfl, rfl⟩
      · exact ⟨if_pos hcode, by decide, rfl⟩
      · exact ⟨(if_neg (not_not.mpr hcode)).trans (if_pos hrole), by decide, rfl⟩
      · refine ⟨?_, by decide, rfl⟩
        rw [if_neg (not_not.mpr hcode), if_neg (not_not.mpr hrole), if_pos (by simpa using mt hrange.mp hout)]
    obtain ⟨hsome, hstate, rfl⟩ := hsome
    rw [hexec, State.takeJob, hsome]
    obtain ⟨u, hu, hframe, hrequests⟩ := State.refuse_eq (s := h) hf hstate
    exact ⟨_, u, rfl, hu, hframe, hrequests⟩

/-! ### The glass of a close (R40, R41) -/

/-- Settles O48: the excess of the reject over the pull is the new carry, within 64 bits. -/
theorem closeConservesGlass : Obligations.CloseConservesGlass := by
  unfold Obligations.CloseConservesGlass
  intro pull reject carry hfits
  rw [nextCarry_of_lt (by omega), goodMass]
  omega

/-! ### The invariants at reset -/

theorem reset_allotBalance : State.reset.allotBalance := ⟨by decide, by simp [State.reset, Book.atReset]⟩

theorem reset_lineBalance : State.reset.lineBalance := by
  refine ⟨by decide, by simp [State.reset], rfl, fun _ => ⟨rfl, rfl⟩, by simp [State.reset], ?_⟩
  simp [State.reset, Book.atReset]

theorem reset_bookFormed : State.reset.bookFormed :=
  State.bookFormed_of_loading rfl (by simp [State.reset, Loader.atReset]) rfl rfl

theorem LinkChannel.atReset_formed : LinkChannel.atReset.formed := by
  show (0 : Nat) < 8
  decide

theorem reset_linkFormed : State.reset.link.formed := by
  refine ⟨LinkChannel.atReset_formed, LinkChannel.atReset_formed, ?_, ?_⟩
  · simp [Link.queueFormed, State.reset, Link.atReset]
  · simp [State.reset, Link.atReset]

theorem MeterEntry.atReset_formed : MeterEntry.atReset.formed none := by
  simp [MeterEntry.formed, MeterEntry.atReset, Config.counterLimit]

theorem reset_metersFormed : State.reset.metersFormed := by
  refine ⟨fun m => ?_, fun _ => rfl, fun _ => rfl⟩
  have hentry : State.reset.meter.entries[m] = MeterEntry.atReset := by simp [State.reset, MeterPort.atReset]
  rw [hentry]
  exact MeterEntry.atReset_formed

/-- At reset neither alert line has a mode to follow its group in (R181). -/
theorem reset_alertsFollow : State.reset.alertsFollow :=
  ⟨fun h => absurd rfl h, fun h => absurd rfl h, fun _ => ⟨rfl, rfl⟩⟩

/-- Settles O53: each invariant at reset by its own lemma. -/
theorem resetMeetsTheInvariants : Obligations.ResetMeetsTheInvariants := by
  unfold Obligations.ResetMeetsTheInvariants
  exact ⟨reset_channelsBalance [], reset_allotBalance, reset_lineBalance, reset_bookFormed, reset_linkFormed,
    reset_metersFormed, reset_countersHold [], reset_alertsFollow⟩

end Sys2Proof.Machine
end

section
/-! SUPPORT. The station table and the station-wide fields of an image, each as taken and when its clamp changes it (R82, R84, R106,
R174, R176, R178, R191, R192). -/

namespace Sys2Proof.Machine

open Sys2Proof

/-! ### The station table (R82, R106) -/

/-- What becomes of one place: 0 is passed over, a place out of range, the own number and a repeat are dropped, any other is
taken. -/
theorem takePlace_cases (own : Option Nat) (acc : Clamped (List Nat)) (p : Nat) :
    (p = 0 ∧ takePlace own acc p = acc)
      ∨ (p ≠ 0 ∧ (30 < p ∨ some p = own ∨ p ∈ acc.1) ∧ takePlace own acc p = (acc.1, true))
      ∨ (1 ≤ p ∧ p ≤ 30 ∧ some p ≠ own ∧ p ∉ acc.1 ∧ takePlace own acc p = (acc.1 ++ [p], acc.2)) := by
  unfold takePlace
  split
  · next hzero => exact .inl ⟨hzero, rfl⟩
  · next hzero =>
    split
    · next hdrop => exact .inr (.inl ⟨hzero, hdrop, rfl⟩)
    · next hkeep =>
      push Not at hkeep
      obtain ⟨hhigh, hown, hnew⟩ := hkeep
      exact .inr (.inr ⟨Nat.pos_of_ne_zero hzero, hhigh, hown, hnew, rfl⟩)

/-- The places taken are those from 1 to 30 other than the own number. -/
theorem mem_takePlaces (own : Option Nat) (places : List Nat) (n : Nat) :
    n ∈ (places.foldl (takePlace own) ([], false)).1 ↔ n ∈ places ∧ 1 ≤ n ∧ n ≤ 30 ∧ some n ≠ own := by
  induction places using List.reverseRecOn with
  | nil => simp
  | append_singleton places p ih =>
    rw [List.foldl_append, List.foldl_cons, List.foldl_nil, List.mem_append, List.mem_singleton]
    generalize places.foldl (takePlace own) ([], false) = acc at ih
    rcases takePlace_cases own acc p with ⟨hzero, h⟩ | ⟨-, hdrop, h⟩ | ⟨hlow, hhigh, hown, -, h⟩ <;> rw [h]
    · rw [ih]
      exact ⟨fun ⟨hn, hfits⟩ => ⟨.inl hn, hfits⟩, fun ⟨hn, hfits⟩ => ⟨hn.resolve_right (by omega), hfits⟩⟩
    · refine ⟨fun hn => ⟨.inl (ih.mp hn).1, (ih.mp hn).2⟩, ?_⟩
      rintro ⟨hn | rfl, hfits⟩
      · exact ih.mpr ⟨hn, hfits⟩
      · exact (hdrop.resolve_left (by omega)).resolve_left hfits.2.2
    · rw [List.mem_append, List.mem_singleton, ih]
      constructor
      · rintro (⟨hn, hfits⟩ | rfl)
        · exact ⟨.inl hn, hfits⟩
        · exact ⟨.inr rfl, hlow, hhigh, hown⟩
      · rintro ⟨hn | hn, hfits⟩
        · exact .inl ⟨hn, hfits⟩
        · exact .inr hn

/-- Each place is taken at its first occurrence, in image order. -/
theorem takePlaces_pairwise (own : Option Nat) (places : List Nat) :
    (places.foldl (takePlace own) ([], false)).1.Pairwise fun x y => places.idxOf x < places.idxOf y := by
  induction places using List.reverseRecOn with
  | nil => simp
  | append_singleton places p ih =>
    rw [List.foldl_append, List.foldl_cons, List.foldl_nil]
    have hmem := mem_takePlaces own places
    generalize places.foldl (takePlace own) ([], false) = acc at ih hmem
    have hold : acc.1.Pairwise fun x y => (places ++ [p]).idxOf x < (places ++ [p]).idxOf y := by
      refine ih.imp_of_mem fun {x y} hx hy h => ?_
      rwa [List.idxOf_append_of_mem ((hmem x).mp hx).1, List.idxOf_append_of_mem ((hmem y).mp hy).1]
    rcases takePlace_cases own acc p with ⟨-, h⟩ | ⟨-, -, h⟩ | ⟨hlow, hhigh, hown, hnew, h⟩ <;> rw [h]
    · exact hold
    · exact hold
    · have hp : p ∉ places := fun hin => hnew ((hmem p).mpr ⟨hin, hlow, hhigh, hown⟩)
      refine List.pairwise_append.mpr ⟨hold, List.pairwise_singleton _ _, fun x hx y hy => ?_⟩
      have hx' := ((hmem x).mp hx).1
      rw [List.mem_singleton.mp hy, List.idxOf_append_of_mem hx', List.idxOf_append_of_notMem hp]
      exact (List.idxOf_lt_length_of_mem hx').trans_le (Nat.le_add_right _ _)

/-- The clamp tells whether a place was dropped: without it every place but 0 is taken, with it fewer are. -/
theorem takePlaces_cases (own : Option Nat) (places : List Nat) :
    let kept := places.foldl (takePlace own) ([], false)
    (kept.2 = false ∧ kept.1 = places.filter fun n => n != 0)
      ∨ (kept.2 = true ∧ kept.1.length < (places.filter fun n => n != 0).length) := by
  dsimp only
  induction places using List.reverseRecOn with
  | nil => simp
  | append_singleton places p ih =>
    rw [List.foldl_append, List.foldl_cons, List.foldl_nil, List.filter_append]
    generalize places.foldl (takePlace own) ([], false) = acc at ih
    generalize places.filter (fun n => n != 0) = all at ih
    rcases takePlace_cases own acc p with ⟨hzero, h⟩ | ⟨hp, -, h⟩ | ⟨hp, -, -, -, h⟩ <;> rw [h]
    · simpa [hzero] using ih
    · have hle : acc.1.length ≤ all.length := by
        rcases ih with ⟨-, hall⟩ | ⟨-, hlt⟩
        · rw [hall]
        · exact hlt.le
      exact .inr ⟨rfl, by simpa [hp] using Nat.lt_succ_of_le hle⟩
    · have hp' : p ≠ 0 := by omega
      rcases ih with ⟨hflag, hall⟩ | ⟨hflag, hlt⟩
      · exact .inl ⟨hflag, by simp [hp', hall]⟩
      · exact .inr ⟨hflag, by simpa [hp'] using hlt⟩

/-- The 16 places of an image. -/
def imagePlaces (img : List Byte) : List Nat := (List.range 16).map fun i => imageByte img (133 + i)

theorem remainingPlaces_eq (img : List Byte) (own : Option Nat) :
    remainingPlaces img own = (imagePlaces img).foldl (takePlace own) ([], false) := rfl

theorem takeTable_eq (img : List Byte) (role : Role) (own : Option Nat) :
    (takeTable img role own).1
      = if role = .line then (remainingPlaces img own).1.take 4 else (remainingPlaces img own).1 := by
  cases role <;> rfl

theorem remainingPlaces_length (img : List Byte) (own : Option Nat) : (remainingPlaces img own).1.length ≤ 16 := by
  have hfilter : ((imagePlaces img).filter fun n => n != 0).length ≤ 16 :=
    (List.length_filter_le _ _).trans (by simp [imagePlaces])
  rw [remainingPlaces_eq]
  rcases takePlaces_cases own (imagePlaces img) with ⟨-, h⟩ | ⟨-, h⟩
  · rwa [h]
  · omega

/-- The table's clamp changes it exactly when it lacks a place other than 0. -/
theorem takeTable_clamped_iff (img : List Byte) (role : Role) (own : Option Nat) :
    (takeTable img role own).2 = true ↔ (takeTable img role own).1 ≠ (imagePlaces img).filter fun n => n != 0 := by
  have hcases := takePlaces_cases own (imagePlaces img)
  rw [← remainingPlaces_eq] at hcases
  generalize (imagePlaces img).filter (fun n => n != 0) = all at hcases ⊢
  unfold takeTable
  generalize remainingPlaces img own = kept at hcases ⊢
  rcases hcases with ⟨hflag, h⟩ | ⟨hflag, h⟩
  · subst h
    cases role <;> simp [hflag]
  · have hne {l : List Nat} (hl : l.length ≤ kept.1.length) : l ≠ all := fun heq => by
      rw [heq] at hl
      omega
    cases role
    · simpa [hflag] using hne (List.length_take_le' 4 kept.1)
    · simpa [hflag] using hne le_rfl
    · simpa [hflag] using hne le_rfl

/-! ### The station-wide codes (R174) -/

theorem bne_eq_decide_ne {α : Type} [DecidableEq α] (a b : α) : (a != b) = decide (a ≠ b) := by
  rw [bne, beq_eq_decide, decide_not]

theorem takeSource_eq (img : List Byte) :
    takeSource img = (if imageByte img 4 = 1 then .image else .straps, decide (1 < imageByte img 4)) := by
  unfold takeSource
  rcases imageByte img 4 with _ | _ | n <;> simp

theorem takeRate_eq (img : List Byte) :
    takeRate img = ([BitRate.r62, .r125, .r250].getD (imageByte img 7) .r125, decide (2 < imageByte img 7)) := by
  unfold takeRate
  rcases imageByte img 7 with _ | _ | _ | n <;> simp

theorem takePeriodLength_eq (img : List Byte) :
    takePeriodLength img
      = ([60, 300, 600, 900, 1800, 3600].getD (imageByte img 8) 900, decide (5 < imageByte img 8)) := by
  unfold takePeriodLength
  rcases imageByte img 8 with _ | _ | _ | _ | _ | _ | n <;> simp

theorem takeInterval_eq (img : List Byte) :
    takeInterval img = ([1, 2, 5, 10].getD (imageByte img 9) 10, decide (3 < imageByte img 9)) := by
  unfold takeInterval
  rcases imageByte img 9 with _ | _ | _ | _ | n <;> simp

theorem takeExternal_eq (img : List Byte) :
    takeExternal img = (decide (imageByte img 12 = 1), decide (1 < imageByte img 12)) := by
  unfold takeExternal
  rcases imageByte img 12 with _ | _ | n <;> simp

theorem takeBaud_eq (img : List Byte) :
    takeBaud img = ([MeterBaud.b9600, .b19200, .b38400].getD (imageByte img 35) .b9600, decide (2 < imageByte img 35)) := by
  unfold takeBaud
  rcases imageByte img 35 with _ | _ | _ | n <;> simp

theorem takeAlert_eq (img : List Byte) (i : Nat) :
    takeAlert img i = ({ mode := if imageByte img i = 1 then .pulse else .level, group := img.getD (i + 2) 0 },
      decide (1 < imageByte img i ∨ imageByte img (i + 1) ≠ 0)) := by
  have hgroup : byte (imageByte img (i + 2)) = img.getD (i + 2) 0 := by simp [byte, imageByte]
  have hstray : (imageByte img (i + 1) != 0) = decide (imageByte img (i + 1) ≠ 0) := bne_eq_decide_ne _ _
  unfold takeAlert
  rw [hgroup, hstray]
  rcases imageByte img i with _ | _ | n <;> simp

/-! ### Basis kind and job (R84, R176) -/

theorem takeBasis_furnace (img : List Byte) : takeBasis img .furnace = (.mass, decide (imageByte img 132 ≠ 1)) := by
  rw [takeBasis, bne_eq_decide_ne]

theorem takeBasis_pool (img : List Byte) :
    takeBasis img .pool
      = (if imageByte img 132 = 2 then .good else if imageByte img 132 = 3 then .runtime else .mass,
        decide (imageByte img 132 = 0 ∨ 3 < imageByte img 132)) := by
  unfold takeBasis basisOfCode
  rcases imageByte img 132 with _ | _ | _ | _ | n <;> simp

theorem takeJob_line (img : List Byte) :
    takeJob img .line = ({ gob := max 1 (imageField img 149 2), perCut := max 1 (min 4 (imageByte img 151)) },
      decide (imageField img 149 2 = 0 ∨ imageByte img 151 = 0 ∨ 4 < imageByte img 151)) := by
  have hchanged (g p : Nat) : ({ gob := max 1 g, perCut := max 1 (min 4 p) } : Job) ≠ { gob := g, perCut := p }
      ↔ g = 0 ∨ p = 0 ∨ 4 < p := by
    rw [Ne, Job.mk.injEq]
    omega
  simp only [takeJob, bne_eq_decide_ne, hchanged]

end Sys2Proof.Machine
end

section
/-! SUPPORT. The input lines, the channels and the meter entries of an image, each as taken and when its clamp changes it (R24, R29,
R30, R46, R177, R191, R192). -/

namespace Sys2Proof.Machine

open Sys2Proof

/-! ### The input lines (R24, R29) -/

/-- A line's coded role is the one of its code; the code 7 names none and is clamped. -/
theorem codedRole_eq (img : List Byte) (i : Fin 8) : codedRole img i =
    ([LineRole.unused, .energy, .cut, .reject, .running, .fault, .second].getD (imageByte img (27 + i.val) % 8) .unused,
      decide (imageByte img (27 + i.val) % 8 = 7)) := by
  have hlt : imageByte img (27 + i.val) % 8 < 8 := Nat.mod_lt _ (by decide)
  unfold codedRole
  generalize imageByte img (27 + i.val) % 8 = code at hlt ⊢
  interval_cases code <;> rfl

theorem codedRole_eq_iff (img : List Byte) (i : Fin 8) {r : LineRole} (hr : r ≠ .unused) :
    (codedRole img i).1 = r ↔ imageByte img (27 + i.val) % 8 = r.code := by
  have hlt : imageByte img (27 + i.val) % 8 < 8 := Nat.mod_lt _ (by decide)
  rw [codedRole_eq]
  generalize imageByte img (27 + i.val) % 8 = code at hlt ⊢
  cases r
  case unused => exact absurd rfl hr
  all_goals revert code; decide

/-- The coded role is clamped where the line is UNUSED by another code than 0. -/
theorem codedRole_clamped_iff (img : List Byte) (i : Fin 8) :
    (codedRole img i).2 = true ↔ (codedRole img i).1 = .unused ∧ imageByte img (27 + i.val) % 8 ≠ 0 := by
  have hlt : imageByte img (27 + i.val) % 8 < 8 := Nat.mod_lt _ (by decide)
  rw [codedRole_eq]
  generalize imageByte img (27 + i.val) % 8 = code at hlt ⊢
  revert code
  decide

/-- Step 1 keeps a line's coded role: it fits the station, and SECOND has no lower line (R29). -/
def roleStays (img : List Byte) (role : Role) (i : Fin 8) : Prop :=
  roleFits role (codedRole img i).1 = true
    ∧ ((codedRole img i).1 = .second → ∀ j : Fin 8, j < i → (codedRole img j).1 ≠ .second)

theorem roleStays_of_unused {img : List Byte} {role : Role} {i : Fin 8} (h : (codedRole img i).1 = .unused) :
    roleStays img role i := by
  simp [roleStays, h, roleFits]

theorem steppedRole_cases (img : List Byte) (role : Role) (i : Fin 8) :
    (roleStays img role i ∧ steppedRole img role i = codedRole img i)
      ∨ (¬roleStays img role i ∧ steppedRole img role i = (.unused, true)) := by
  have hlower : ((codedRole img i).1 == .second
      && (List.finRange 8).any fun j => decide (j < i) && (codedRole img j).1 == .second) = true
      ↔ ¬((codedRole img i).1 = .second → ∀ j : Fin 8, j < i → (codedRole img j).1 ≠ .second) := by
    simp
  unfold steppedRole
  dsimp only
  split
  · next hfits => exact .inr ⟨fun h => by simp [h.1] at hfits, rfl⟩
  · next hfits =>
    split
    · next hsecond => exact .inr ⟨fun h => hlower.mp hsecond h.2, rfl⟩
    · next hsecond => exact .inl ⟨⟨by simpa using hfits, not_not.mp (mt hlower.mpr hsecond)⟩, rfl⟩

theorem steppedRole_eq_iff (img : List Byte) (role : Role) (i : Fin 8) {r : LineRole} (hr : r ≠ .unused) :
    (steppedRole img role i).1 = r ↔ (codedRole img i).1 = r ∧ roleStays img role i := by
  rcases steppedRole_cases img role i with ⟨hstays, h⟩ | ⟨hstays, h⟩ <;> rw [h]
  · simp [hstays]
  · simp [hstays, hr.symm]

theorem steppedRole_energy_iff (img : List Byte) (role : Role) (i : Fin 8) :
    (steppedRole img role i).1 = .energy ↔ imageByte img (27 + i.val) % 8 = 1 := by
  rw [steppedRole_eq_iff img role i (by decide), codedRole_eq_iff img i (by decide)]
  refine and_iff_left_of_imp fun h => ?_
  have hcoded := (codedRole_eq_iff img i (r := .energy) (by decide)).mpr h
  simp [roleStays, hcoded, roleFits]

theorem steppedRole_clamped_iff (img : List Byte) (role : Role) (i : Fin 8) :
    (steppedRole img role i).2 = true
      ↔ (steppedRole img role i).1 = .unused ∧ imageByte img (27 + i.val) % 8 ≠ 0 := by
  rcases steppedRole_cases img role i with ⟨-, h⟩ | ⟨hstays, h⟩ <;> rw [h]
  · exact codedRole_clamped_iff img i
  · refine iff_of_true rfl ⟨rfl, fun hzero => hstays (roleStays_of_unused ?_)⟩
    rw [codedRole_eq, hzero]
    rfl

/-- Some channel as taken names the line. -/
def lineNamed (img : List Byte) (role : Role) (i : Fin 8) : Prop :=
  ∃ j : Fin 8, (takenSource img role j).1 = some (.line i)

/-- An ENERGY line that no channel names becomes UNUSED; every other line keeps the role of step 1 (R29). -/
theorem takeLine_role_cases (img : List Byte) (role : Role) (i : Fin 8) :
    ((steppedRole img role i).1 = .energy ∧ ¬lineNamed img role i ∧ (takeLine img role i).1.role = .unused
        ∧ (takeLine img role i).2 = true)
      ∨ (((steppedRole img role i).1 = .energy → lineNamed img role i)
        ∧ (takeLine img role i).1.role = (steppedRole img role i).1
        ∧ (takeLine img role i).2 = (steppedRole img role i).2) := by
  have hnamed : ((List.finRange 8).any fun j => (takenSource img role j).1 == some (.line i)) = true
      ↔ lineNamed img role i := by
    simp [lineNamed]
  unfold takeLine
  dsimp only
  by_cases henergy : (steppedRole img role i).1 = .energy <;> by_cases hline : lineNamed img role i
  · simp [hnamed.mpr hline, hline]
  · simp [Bool.eq_false_iff.mpr (mt hnamed.mp hline), hline, henergy]
  · simp [hnamed.mpr hline, hline]
  · simp [henergy]

theorem takeLine_role_iff (img : List Byte) (role : Role) (i : Fin 8) {r : LineRole} (hr : r ≠ .unused) :
    (takeLine img role i).1.role = r
      ↔ (codedRole img i).1 = r ∧ roleStays img role i ∧ (r = .energy → lineNamed img role i) := by
  rw [← and_assoc, ← steppedRole_eq_iff img role i hr]
  rcases takeLine_role_cases img role i with ⟨henergy, hnamed, h, -⟩ | ⟨hnamed, h, -⟩ <;> rw [h]
  · refine iff_of_false hr.symm ?_
    rintro ⟨rfl, himp⟩
    exact hnamed (himp henergy)
  · refine ⟨fun hrole => ⟨hrole, fun hre => hnamed (hrole.trans hre)⟩, And.left⟩

/-- A line's clamp changes it exactly when it is UNUSED by another code than 0. -/
theorem takeLine_clamped_iff (img : List Byte) (role : Role) (i : Fin 8) : (takeLine img role i).2 = true
    ↔ (takeLine img role i).1.role = .unused ∧ imageByte img (27 + i.val) % 8 ≠ 0 := by
  rcases takeLine_role_cases img role i with ⟨henergy, -, hrole, hflag⟩ | ⟨-, hrole, hflag⟩ <;> rw [hrole, hflag]
  · have hcode := (steppedRole_energy_iff img role i).mp henergy
    simp [hcode]
  · exact steppedRole_clamped_iff img role i

/-- A role other than SECOND and ENERGY is a line's when its code names it and it fits the station (R24, R29). -/
theorem takeLine_role_iff_code (img : List Byte) (role : Role) (i : Fin 8) {r : LineRole}
    (hr : r ≠ .unused ∧ r ≠ .energy ∧ r ≠ .second) :
    (takeLine img role i).1.role = r ↔ imageByte img (27 + i.val) % 8 = r.code ∧ roleFits role r = true := by
  obtain ⟨hunused, henergy, hsecond⟩ := hr
  rw [takeLine_role_iff img role i hunused, ← codedRole_eq_iff img i hunused]
  constructor
  · rintro ⟨hcoded, hstays, -⟩
    exact ⟨hcoded, hcoded ▸ hstays.1⟩
  · rintro ⟨hcoded, hfits⟩
    exact ⟨hcoded, ⟨hcoded ▸ hfits, fun h => absurd (hcoded.symm.trans h) hsecond⟩, fun h => absurd h henergy⟩

/-- SECOND is the role of the lowest line whose code names it (R29). -/
theorem takeLine_second_iff (img : List Byte) (role : Role) (i : Fin 8) : (takeLine img role i).1.role = .second
    ↔ imageByte img (27 + i.val) % 8 = 6 ∧ ∀ j : Fin 8, j < i → imageByte img (27 + j.val) % 8 ≠ 6 := by
  have hcode (j : Fin 8) : (codedRole img j).1 = .second ↔ imageByte img (27 + j.val) % 8 = 6 :=
    codedRole_eq_iff img j (by decide)
  rw [takeLine_role_iff img role i (by decide), ← hcode i]
  simp only [← hcode, ne_eq]
  constructor
  · rintro ⟨hcoded, ⟨-, hlowest⟩, -⟩
    exact ⟨hcoded, hlowest hcoded⟩
  · rintro ⟨hcoded, hlowest⟩
    exact ⟨hcoded, ⟨by simp [hcoded, roleFits], fun _ => hlowest⟩, by simp⟩

/-- ENERGY is the role of a line whose code names it and that a channel names (R29). -/
theorem takeLine_energy_iff (img : List Byte) (role : Role) (i : Fin 8) : (takeLine img role i).1.role = .energy
    ↔ imageByte img (27 + i.val) % 8 = 1 ∧ lineNamed img role i := by
  rw [takeLine_role_iff img role i (by decide), ← and_assoc, ← steppedRole_eq_iff img role i (by decide),
    steppedRole_energy_iff]
  simp

/-! ### The channels (R30) -/

/-- A channel's source by its code: 1 to 8 an input line, 9 to 16 a meter entry (R191). -/
theorem codedSource_eq_some_iff (img : List Byte) (i : Fin 8) (x : ChannelSource) :
    (codedSource img i).1 = some x ↔ imageByte img (100 + 4 * i.val) = x.code := by
  unfold codedSource
  generalize imageByte img (100 + 4 * i.val) = code
  dsimp only
  cases x with
  | line l =>
    split_ifs <;> simp [ChannelSource.code, Fin.ext_iff, Fin.ofNat] <;> omega
  | meter m =>
    split_ifs <;> simp [ChannelSource.code, Fin.ext_iff, Fin.ofNat] <;> omega

theorem codedSource_eq_none_iff (img : List Byte) (i : Fin 8) : (codedSource img i).1 = none
    ↔ imageByte img (100 + 4 * i.val) = 0 ∨ 16 < imageByte img (100 + 4 * i.val) := by
  unfold codedSource
  generalize imageByte img (100 + 4 * i.val) = code
  dsimp only
  split_ifs <;> simp <;> omega

theorem codedSource_clamped_iff (img : List Byte) (i : Fin 8) :
    (codedSource img i).2 = true ↔ 16 < imageByte img (100 + 4 * i.val) := by
  unfold codedSource
  generalize imageByte img (100 + 4 * i.val) = code
  dsimp only
  split_ifs <;> simp <;> omega

theorem sourceAllowed_line_iff (img : List Byte) (role : Role) (l : Fin 8) :
    sourceAllowed img role (some (.line l)) = true ↔ imageByte img (27 + l.val) % 8 = 1 := by
  simp only [sourceAllowed, beq_iff_eq, steppedRole_energy_iff]

/-- What becomes of a channel's coded source: it stays absent, it is refused, or it is taken (R30). -/
theorem takenSource_cases (img : List Byte) (role : Role) (i : Fin 8) :
    ((codedSource img i).1 = none ∧ takenSource img role i = codedSource img i)
      ∨ ∃ x, (codedSource img i).1 = some x
        ∧ ((¬(sourceAllowed img role (some x) = true ∧ ∀ j : Fin 8, j < i → (codedSource img j).1 ≠ some x)
            ∧ takenSource img role i = (none, true))
          ∨ ((sourceAllowed img role (some x) = true ∧ ∀ j : Fin 8, j < i → (codedSource img j).1 ≠ some x)
            ∧ takenSource img role i = codedSource img i)) := by
  unfold takenSource
  dsimp only
  cases hx : (codedSource img i).1 with
  | none => exact .inl ⟨rfl, by simp⟩
  | some x =>
    refine .inr ⟨x, rfl, ?_⟩
    have hrepeats : ((List.finRange 8).any fun j => decide (j < i) && (codedSource img j).1 == some x) = true
        ↔ ¬∀ j : Fin 8, j < i → (codedSource img j).1 ≠ some x := by
      simp
    rw [if_neg (by simp)]
    by_cases hallowed : sourceAllowed img role (some x) = true
    · rw [if_neg (by simp [hallowed])]
      by_cases hlower : ∀ j : Fin 8, j < i → (codedSource img j).1 ≠ some x
      · exact .inr ⟨⟨hallowed, hlower⟩, if_neg fun h => hrepeats.mp h hlower⟩
      · exact .inl ⟨fun h => hlower h.2, if_pos (hrepeats.mpr hlower)⟩
    · exact .inl ⟨fun h => hallowed h.1, if_pos (by simp [hallowed])⟩

/-- A channel takes the source of its code when it is allowed and no lower channel has the same code. -/
theorem takenSource_eq_some_iff (img : List Byte) (role : Role) (i : Fin 8) (x : ChannelSource) :
    (takenSource img role i).1 = some x ↔ imageByte img (100 + 4 * i.val) = x.code
      ∧ sourceAllowed img role (some x) = true
      ∧ ∀ j : Fin 8, j < i → imageByte img (100 + 4 * j.val) ≠ imageByte img (100 + 4 * i.val) := by
  have hlower : imageByte img (100 + 4 * i.val) = x.code →
      ((∀ j : Fin 8, j < i → (codedSource img j).1 ≠ some x)
        ↔ ∀ j : Fin 8, j < i → imageByte img (100 + 4 * j.val) ≠ imageByte img (100 + 4 * i.val)) := fun hcode => by
    simp only [ne_eq, codedSource_eq_some_iff, hcode]
  rcases takenSource_cases img role i with ⟨hnone, h⟩ | ⟨y, hy, ⟨hrefused, h⟩ | ⟨htaken, h⟩⟩ <;> rw [h]
  · rw [hnone]
    refine iff_of_false nofun fun hx => ?_
    rw [← codedSource_eq_some_iff, hnone] at hx
    exact nomatch hx.1
  · refine iff_of_false nofun fun ⟨hcode, hallowed, hlow⟩ => hrefused ?_
    obtain rfl : x = y := Option.some.inj (((codedSource_eq_some_iff img i x).mpr hcode).symm.trans hy)
    exact ⟨hallowed, (hlower hcode).mpr hlow⟩
  · constructor
    · intro hx
      obtain rfl : y = x := Option.some.inj (hy.symm.trans hx)
      have hcode := (codedSource_eq_some_iff img i y).mp hy
      exact ⟨hcode, htaken.1, (hlower hcode).mp htaken.2⟩
    · exact fun hx => (codedSource_eq_some_iff img i x).mpr hx.1

/-- A channel's source is clamped where it has none by another code than 0. -/
theorem takenSource_clamped_iff (img : List Byte) (role : Role) (i : Fin 8) : (takenSource img role i).2 = true
    ↔ (takenSource img role i).1 = none ∧ imageByte img (100 + 4 * i.val) ≠ 0 := by
  rcases takenSource_cases img role i with ⟨hnone, h⟩ | ⟨x, hx, ⟨-, h⟩ | ⟨-, h⟩⟩ <;> rw [h]
  · rw [codedSource_clamped_iff, hnone]
    have hcode := (codedSource_eq_none_iff img i).mp hnone
    simp only [true_and]
    omega
  · refine iff_of_true rfl ⟨rfl, fun hzero => ?_⟩
    rw [(codedSource_eq_none_iff img i).mpr (.inl hzero)] at hx
    exact nomatch hx
  · refine iff_of_false (fun hflag => ?_) fun hnone => nomatch hx.symm.trans hnone.1
    rw [(codedSource_eq_none_iff img i).mpr (.inr ((codedSource_clamped_iff img i).mp hflag))] at hx
    exact nomatch hx

/-- No two channels take one source (R30). -/
theorem takenSource_injective {img : List Byte} {role : Role} {i j : Fin 8} {x : ChannelSource}
    (hi : (takenSource img role i).1 = some x) (hj : (takenSource img role j).1 = some x) : i = j := by
  obtain ⟨hci, -, hli⟩ := (takenSource_eq_some_iff img role i x).mp hi
  obtain ⟨hcj, -, hlj⟩ := (takenSource_eq_some_iff img role j x).mp hj
  rcases lt_trichotomy i j with h | h | h
  · exact absurd (hci.trans hcj.symm) (hlj i h)
  · exact h
  · exact absurd (hcj.trans hci.symm) (hli j h)

theorem codedCarrier_eq (img : List Byte) (i : Fin 8) : codedCarrier img i =
    ([Carrier.gas, .gas, .electric, .oxygen, .air, .other].getD (imageByte img (101 + 4 * i.val)) .other,
      decide (imageByte img (101 + 4 * i.val) = 0 ∨ 5 < imageByte img (101 + 4 * i.val))) := by
  unfold codedCarrier
  rcases imageByte img (101 + 4 * i.val) with _ | _ | _ | _ | _ | _ | n <;> simp

theorem takeChannel_source (img : List Byte) (role : Role) (i : Fin 8) :
    (takeChannel img role i).1.map ChannelSetup.source = (takenSource img role i).1 := by
  unfold takeChannel
  dsimp only
  split <;> simp_all

/-- What a channel's setup holds besides its source. -/
theorem takeChannel_some {img : List Byte} {role : Role} {i : Fin 8} {setup : ChannelSetup}
    (h : (takeChannel img role i).1 = some setup) :
    setup.carrier = (codedCarrier img i).1
      ∧ ∀ l, setup.source = .line l → setup.pulse = max 1 (imageField img (102 + 4 * i.val) 2) := by
  unfold takeChannel at h
  dsimp only at h
  split at h
  · cases h
  · cases h
    exact ⟨rfl, fun _ _ => rfl⟩
  · cases h
    exact ⟨rfl, nofun⟩

/-- When a channel's clamp changes it: no source by another code than 0, a carrier code out of range, or a line's pulse value
of 0. -/
theorem takeChannel_clamped_iff (img : List Byte) (role : Role) (i : Fin 8) : (takeChannel img role i).2 = true
    ↔ ((takeChannel img role i).1 = none ∧ imageByte img (100 + 4 * i.val) ≠ 0)
      ∨ ∃ setup, (takeChannel img role i).1 = some setup
        ∧ ((imageByte img (101 + 4 * i.val) = 0 ∨ 5 < imageByte img (101 + 4 * i.val))
          ∨ ∃ l, setup.source = .line l ∧ imageField img (102 + 4 * i.val) 2 = 0) := by
  have hflag := takenSource_clamped_iff img role i
  unfold takeChannel
  dsimp only
  split
  · next hnone => simpa [hnone] using hflag
  · next l hl =>
    have hsource : (takenSource img role i).2 = false := by simpa [hl] using hflag
    simp [hsource, codedCarrier_eq]
  · next m hm =>
    have hsource : (takenSource img role i).2 = false := by simpa [hm] using hflag
    simp [hsource, codedCarrier_eq]

/-! ### The meter table (R46) -/

theorem codedMeter_eq_some_iff (img : List Byte) (m : Fin 8) (k : Nat × Nat) : codedMeter img m = some k
    ↔ (1 ≤ imageByte img (36 + 8 * m.val) ∧ imageByte img (36 + 8 * m.val) ≤ 127)
      ∧ k = (imageByte img (36 + 8 * m.val), imageByte img (37 + 8 * m.val) % 16) := by
  unfold codedMeter
  dsimp only
  split
  · refine iff_of_false nofun fun h => ?_
    omega
  · rw [Option.some.injEq, eq_comm]
    exact (and_iff_right (by omega)).symm

theorem codedMeter_eq_none_iff (img : List Byte) (m : Fin 8) : codedMeter img m = none
    ↔ ¬(1 ≤ imageByte img (36 + 8 * m.val) ∧ imageByte img (36 + 8 * m.val) ≤ 127) := by
  unfold codedMeter
  dsimp only
  split
  · refine iff_of_true rfl ?_
    omega
  · refine iff_of_false nofun ?_
    omega

/-- No lower entry has the address and the counter select of entry m. -/
def meterFirst (img : List Byte) (m : Fin 8) : Prop :=
  ∀ k : Fin 8, k < m → ¬(imageByte img (36 + 8 * k.val) = imageByte img (36 + 8 * m.val)
    ∧ imageByte img (37 + 8 * k.val) % 16 = imageByte img (37 + 8 * m.val) % 16)

/-- A repeated key is one that a lower entry has. -/
theorem meterRepeats_iff {img : List Byte} {m : Fin 8} {k : Nat × Nat} (h : codedMeter img m = some k) :
    ((List.finRange 8).any fun j => decide (j < m) && codedMeter img j == some k) = true ↔ ¬meterFirst img m := by
  obtain ⟨hrange, rfl⟩ := (codedMeter_eq_some_iff img m k).mp h
  simp only [List.any_eq_true, List.mem_finRange, true_and, Bool.and_eq_true, decide_eq_true_eq, beq_iff_eq,
    codedMeter_eq_some_iff, Prod.mk.injEq, meterFirst]
  push Not
  refine exists_congr fun j => and_congr_right fun _ => ⟨fun ⟨_, ha, hs⟩ => ⟨ha.symm, hs.symm⟩, fun ⟨ha, hs⟩ => ?_⟩
  exact ⟨by omega, ha.symm, hs.symm⟩

theorem modulusOfCode_eq (code : Nat) : modulusOfCode code
    = ([10 ^ 4, 10 ^ 5, 10 ^ 6, 10 ^ 7, 10 ^ 8, 10 ^ 9, 2 ^ 32].getD code (2 ^ 32), decide (6 < code)) := by
  unfold modulusOfCode
  rcases code with _ | _ | _ | _ | _ | _ | _ | n <;> simp

theorem channelNaming_eq_some_iff (img : List Byte) (role : Role) (m i : Fin 8) :
    channelNaming img role m = some i ↔ (takenSource img role i).1 = some (.meter m) := by
  simp only [channelNaming, find?_finRange_eq_some_iff, beq_iff_eq, beq_eq_false_iff_ne]
  refine and_iff_left_of_imp fun hi j hj hsame => ?_
  exact absurd (takenSource_injective hsame hi) hj.ne

/-- The meter entry that an image gives where its key is the first of its kind. -/
def meterSetupOf (img : List Byte) (role : Role) (m : Fin 8) : MeterSetup :=
  { address := byte (imageByte img (36 + 8 * m.val))
    select := byte (imageByte img (37 + 8 * m.val) % 16)
    modulus := (modulusOfCode (imageByte img (38 + 8 * m.val))).1
    scale := max 1 (imageField img (39 + 8 * m.val) 2)
    limit := max 1 (imageField img (41 + 8 * m.val) 2)
    feeds := channelNaming img role m }

/-- What becomes of a meter entry: it is empty, dropped as a repeat, or taken (R46). -/
theorem takeMeter_cases (img : List Byte) (role : Role) (m : Fin 8) :
    (¬(1 ≤ imageByte img (36 + 8 * m.val) ∧ imageByte img (36 + 8 * m.val) ≤ 127)
        ∧ takeMeter img role m = (none, decide (imageByte img (36 + 8 * m.val) ≠ 0)))
      ∨ ((1 ≤ imageByte img (36 + 8 * m.val) ∧ imageByte img (36 + 8 * m.val) ≤ 127) ∧ ¬meterFirst img m
        ∧ takeMeter img role m = (none, true))
      ∨ ((1 ≤ imageByte img (36 + 8 * m.val) ∧ imageByte img (36 + 8 * m.val) ≤ 127) ∧ meterFirst img m
        ∧ takeMeter img role m = (some (meterSetupOf img role m),
          decide (6 < imageByte img (38 + 8 * m.val) ∨ imageField img (39 + 8 * m.val) 2 = 0
            ∨ imageField img (41 + 8 * m.val) 2 = 0
            ∨ imageByte img (43 + 8 * m.val) ≠ fedCode (channelNaming img role m)))) := by
  unfold takeMeter
  cases hk : codedMeter img m with
  | none => exact .inl ⟨(codedMeter_eq_none_iff img m).mp hk, by rw [bne_eq_decide_ne]⟩
  | some k =>
    have hrepeats := meterRepeats_iff hk
    obtain ⟨hrange, rfl⟩ := (codedMeter_eq_some_iff img m k).mp hk
    right
    dsimp only
    by_cases hfirst : meterFirst img m
    · refine .inr ⟨hrange, hfirst, ?_⟩
      rw [if_neg fun h => hrepeats.mp h hfirst, bne_eq_decide_ne, modulusOfCode_eq, beq_eq_decide, beq_eq_decide]
      simp only [meterSetupOf, modulusOfCode_eq, Bool.decide_or, Bool.or_assoc]
    · exact .inl ⟨hrange, hfirst, if_pos (hrepeats.mpr hfirst)⟩

end Sys2Proof.Machine
end

section
/-! SUPPORT. The whole image: what CLAMPED stands for, and every field of the configuration (R173 to R178). -/

namespace Sys2Proof.Machine

open Sys2Proof

/-! ### The configuration and CLAMPED (R178) -/

section
variable (img : List Byte) (role : Role) (own : Option Nat)

theorem settingsOf_line (i : Fin 8) : (settingsOf img role own).lines[i] = (takeLine img role i).1 := by
  simp [settingsOf]

theorem settingsOf_channel (i : Fin 8) : (settingsOf img role own).channels[i] = (takeChannel img role i).1 := by
  simp [settingsOf]

theorem settingsOf_meter (m : Fin 8) : (settingsOf img role own).meters[m] = (takeMeter img role m).1 := by
  simp [settingsOf]

theorem settingsOf_channel_source (i : Fin 8) :
    (settingsOf img role own).channels[i].map ChannelSetup.source = (takenSource img role i).1 := by
  rw [settingsOf_channel, takeChannel_source]

/-- The clamps of the fields that an image has once. -/
def stationClamps : List Bool :=
  [(takeSource img).2, (takeRate img).2, (takePeriodLength img).2, (takeInterval img).2, (takeWaits img).2,
    (takeExternal img).2, (takeAlert img 21).2, (takeAlert img 24).2, (takeBaud img).2, (takeBasis img role).2,
    (takeTable img role own).2, (takeJob img role).2]

/-- CLAMPED stands for a clamp of a field of the station, of a line, of a channel or of a meter entry. -/
theorem imageClamped_iff : imageClamped img role own = true ↔ true ∈ stationClamps img role own
    ∨ ∃ i : Fin 8, (takeLine img role i).2 = true ∨ (takeChannel img role i).2 = true ∨ (takeMeter img role i).2 = true := by
  have hplaces : ((List.finRange 8).any fun i => (takeLine img role i).2 || (takeChannel img role i).2
      || (takeMeter img role i).2) = true ↔ ∃ i : Fin 8, (takeLine img role i).2 = true
        ∨ (takeChannel img role i).2 = true ∨ (takeMeter img role i).2 = true := by
    simp [or_assoc]
  have hreorder : imageClamped img role own = ((stationClamps img role own).any id || (List.finRange 8).any fun i =>
      (takeLine img role i).2 || (takeChannel img role i).2 || (takeMeter img role i).2) := by
    simp only [imageClamped, stationClamps, List.any_cons, List.any_nil, id, Bool.or_false]
    ac_rfl
  rw [hreorder, Bool.or_eq_true, hplaces]
  simp

end

section
variable {img : List Byte} {role : Role} {own : Option Nat}

theorem imageClamped_of_station (h : true ∈ stationClamps img role own) : imageClamped img role own = true :=
  (imageClamped_iff img role own).mpr (.inl h)

theorem imageClamped_of_line {i : Fin 8} (h : (takeLine img role i).2 = true) : imageClamped img role own = true :=
  (imageClamped_iff img role own).mpr (.inr ⟨i, .inl h⟩)

theorem imageClamped_of_channel {i : Fin 8} (h : (takeChannel img role i).2 = true) : imageClamped img role own = true :=
  (imageClamped_iff img role own).mpr (.inr ⟨i, .inr (.inl h)⟩)

theorem imageClamped_of_meter {m : Fin 8} (h : (takeMeter img role m).2 = true) : imageClamped img role own = true :=
  (imageClamped_iff img role own).mpr (.inr ⟨m, .inr (.inr h)⟩)

/-- A table that lacks a place other than 0 is clamped (R82, R106). -/
theorem imageClamped_of_table
    (h : (takeTable img role own).1 ≠ (imagePlaces img).filter fun n => n != 0) : imageClamped img role own = true :=
  imageClamped_of_station (by simp [stationClamps, (takeTable_clamped_iff img role own).mpr h])

/-- A station-wide code outside its table is clamped (R174). -/
theorem imageClamped_of_code (h : 1 < imageByte img 4 ∨ 2 < imageByte img 7 ∨ 5 < imageByte img 8 ∨ 3 < imageByte img 9
    ∨ 1 < imageByte img 12 ∨ 1 < imageByte img 21 ∨ imageByte img 22 ≠ 0 ∨ 1 < imageByte img 24 ∨ imageByte img 25 ≠ 0
    ∨ 2 < imageByte img 35) : imageClamped img role own = true := by
  refine imageClamped_of_station ?_
  simp only [stationClamps, takeSource_eq, takeRate_eq, takePeriodLength_eq, takeInterval_eq, takeExternal_eq,
    takeAlert_eq, takeBaud_eq, List.mem_cons, eq_comm (a := true), decide_eq_true_eq]
  tauto

end

/-- The job of a LINE and the basis kind of an apportioning station as taken, and what clamps them (R84, R176). -/
theorem imageJobAndBasis (img : List Byte) (role : Role) (own : Option Nat) :
    (role = .line → (takeJob img role).1 = { gob := max 1 (imageField img 149 2), perCut := max 1 (min 4 (imageByte img 151)) }
        ∧ (imageField img 149 2 = 0 ∨ imageByte img 151 = 0 ∨ 4 < imageByte img 151 → imageClamped img role own = true))
      ∧ (role = .furnace → (takeBasis img role).1 = .mass
        ∧ (imageByte img 132 ≠ 1 → imageClamped img role own = true))
      ∧ (role = .pool → (takeBasis img role).1
          = (if imageByte img 132 = 2 then .good else if imageByte img 132 = 3 then .runtime else .mass)
        ∧ (imageByte img 132 = 0 ∨ 3 < imageByte img 132 → imageClamped img role own = true)) := by
  refine ⟨?line, ?furnace, ?pool⟩
  case line =>
    rintro rfl
    rw [takeJob_line]
    exact ⟨rfl, fun h => imageClamped_of_station (by simp [stationClamps, takeJob_line, h])⟩
  case furnace =>
    rintro rfl
    rw [takeBasis_furnace]
    exact ⟨rfl, fun h => imageClamped_of_station (by simp [stationClamps, takeBasis_furnace, h])⟩
  case pool =>
    rintro rfl
    rw [takeBasis_pool]
    exact ⟨rfl, fun h => imageClamped_of_station (by simp [stationClamps, takeBasis_pool, h])⟩

/-! ### Channels and meter entries as taken (R30, R46) -/

/-- A channel is configured when its code names a meter entry or an ENERGY line and no lower channel has the same code. -/
theorem takeChannel_isSome_iff (img : List Byte) (role : Role) (i : Fin 8) : (takeChannel img role i).1.isSome = true
    ↔ ((9 ≤ imageByte img (100 + 4 * i.val) ∧ imageByte img (100 + 4 * i.val) ≤ 16)
        ∨ ∃ l : Fin 8, imageByte img (100 + 4 * i.val) = l.val + 1 ∧ imageByte img (27 + l.val) % 8 = 1)
      ∧ ∀ j : Fin 8, j < i → imageByte img (100 + 4 * j.val) ≠ imageByte img (100 + 4 * i.val) := by
  rw [← Option.isSome_map (f := ChannelSetup.source), takeChannel_source, Option.isSome_iff_exists]
  simp only [takenSource_eq_some_iff]
  constructor
  · rintro ⟨x, hcode, hallowed, hlower⟩
    refine ⟨?_, hlower⟩
    cases x with
    | line l => exact .inr ⟨l, hcode, (sourceAllowed_line_iff img role l).mp hallowed⟩
    | meter m =>
      have hm : imageByte img (100 + 4 * i.val) = m.val + 9 := hcode
      omega
  · rintro ⟨hmeter | ⟨l, hcode, henergy⟩, hlower⟩
    · refine ⟨.meter ⟨imageByte img (100 + 4 * i.val) - 9, by omega⟩, ?_, rfl, hlower⟩
      simp only [ChannelSource.code]
      omega
    · exact ⟨.line l, hcode, (sourceAllowed_line_iff img role l).mpr henergy, hlower⟩

/-- The source of a configured channel is the one that its code names. -/
theorem takeChannel_source_iff {img : List Byte} {role : Role} {i : Fin 8} {setup : ChannelSetup}
    (h : (takeChannel img role i).1 = some setup) (x : ChannelSource) :
    setup.source = x ↔ imageByte img (100 + 4 * i.val) = x.code := by
  have htaken : (takenSource img role i).1 = some setup.source := by rw [← takeChannel_source, h, Option.map_some]
  obtain ⟨hcode, -⟩ := (takenSource_eq_some_iff img role i setup.source).mp htaken
  constructor
  · rintro rfl
    exact hcode
  · rintro hx
    rw [← codedSource_eq_some_iff] at hcode hx
    exact Option.some.inj (hcode.symm.trans hx)

/-- The codes up to 8 are those of the lines (R191). -/
theorem takeChannel_line_iff {img : List Byte} {role : Role} {i : Fin 8} {setup : ChannelSetup}
    (h : (takeChannel img role i).1 = some setup) :
    (∃ l, setup.source = .line l) ↔ imageByte img (100 + 4 * i.val) ≤ 8 := by
  have hcode := (takeChannel_source_iff h setup.source).mp rfl
  cases hx : setup.source with
  | line l =>
    have hl : imageByte img (100 + 4 * i.val) = l.val + 1 := by rw [hcode, hx]; rfl
    exact iff_of_true ⟨l, rfl⟩ (by omega)
  | meter m =>
    have hm : imageByte img (100 + 4 * i.val) = m.val + 9 := by rw [hcode, hx]; rfl
    exact iff_of_false nofun (by omega)

theorem takeMeter_some_iff (img : List Byte) (role : Role) (m : Fin 8) (setup : MeterSetup) :
    (takeMeter img role m).1 = some setup ↔ (1 ≤ imageByte img (36 + 8 * m.val) ∧ imageByte img (36 + 8 * m.val) ≤ 127)
      ∧ meterFirst img m ∧ setup = meterSetupOf img role m := by
  rcases takeMeter_cases img role m with ⟨hempty, h⟩ | ⟨-, hrepeat, h⟩ | ⟨hrange, hfirst, h⟩ <;> rw [h]
  · exact iff_of_false nofun fun hsome => hempty hsome.1
  · exact iff_of_false nofun fun hsome => hrepeat hsome.2.1
  · rw [Option.some.injEq, eq_comm]
    exact ⟨fun hs => ⟨hrange, hfirst, hs⟩, fun hs => hs.2.2⟩

theorem takeMeter_isSome_iff (img : List Byte) (role : Role) (m : Fin 8) : (takeMeter img role m).1.isSome = true
    ↔ 1 ≤ imageByte img (36 + 8 * m.val) ∧ imageByte img (36 + 8 * m.val) ≤ 127 ∧ meterFirst img m := by
  rw [Option.isSome_iff_exists]
  simp only [takeMeter_some_iff]
  exact ⟨fun ⟨_, hrange, hfirst, _⟩ => ⟨hrange.1, hrange.2, hfirst⟩, fun ⟨hlow, hhigh, hfirst⟩ =>
    ⟨_, ⟨hlow, hhigh⟩, hfirst, rfl⟩⟩

/-- When a meter entry's clamp changes it: empty by another address than 0, a modulus code out of range, a scale or a limit of 0,
or a channel fed that is not the one that names it. -/
theorem takeMeter_clamped_iff (img : List Byte) (role : Role) (m : Fin 8) : (takeMeter img role m).2 = true
    ↔ ((takeMeter img role m).1 = none ∧ imageByte img (36 + 8 * m.val) ≠ 0)
      ∨ ∃ setup, (takeMeter img role m).1 = some setup
        ∧ (6 < imageByte img (38 + 8 * m.val) ∨ imageField img (39 + 8 * m.val) 2 = 0
          ∨ imageField img (41 + 8 * m.val) 2 = 0 ∨ imageByte img (43 + 8 * m.val) ≠ fedCode setup.feeds) := by
  rcases takeMeter_cases img role m with ⟨-, h⟩ | ⟨hrange, -, h⟩ | ⟨-, -, h⟩ <;> rw [h]
  · simp
  · refine iff_of_true rfl (.inl ⟨rfl, ?_⟩)
    omega
  · simp [meterSetupOf]

end Sys2Proof.Machine
end

section
/-! The image as taken (O8). -/

namespace Sys2Proof.Machine

open Sys2Proof

/-- The codes of a line's role that step 1 leaves: CUT, REJECT and RUNNING in a LINE alone, FAULT in every station (R24, R29). -/
theorem takeLine_levelRoles (img : List Byte) (role : Role) (i : Fin 8) :
    ((takeLine img role i).1.role = .cut ↔ imageByte img (27 + i.val) % 8 = 2 ∧ role = .line)
      ∧ ((takeLine img role i).1.role = .reject ↔ imageByte img (27 + i.val) % 8 = 3 ∧ role = .line)
      ∧ ((takeLine img role i).1.role = .running ↔ imageByte img (27 + i.val) % 8 = 4 ∧ role = .line)
      ∧ ((takeLine img role i).1.role = .fault ↔ imageByte img (27 + i.val) % 8 = 5) := by
  refine ⟨?_, ?_, ?_, ?_⟩ <;> rw [takeLine_role_iff_code img role i (by decide)] <;>
    cases role <;> simp [roleFits, LineRole.code]

/-- CLAMPED is clear when the fields of the station are in range and no clamp changes the job, the basis kind, a line, a channel or a
meter entry (R178). -/
theorem imageClamped_eq_false {img : List Byte} {role : Role} {own : Option Nat}
    (hcodes : imageByte img 4 ≤ 1 ∧ imageByte img 7 ≤ 2 ∧ imageByte img 8 ≤ 5 ∧ imageByte img 9 ≤ 3 ∧ imageByte img 12 ≤ 1
      ∧ imageByte img 21 ≤ 1 ∧ imageByte img 22 = 0 ∧ imageByte img 24 ≤ 1 ∧ imageByte img 25 = 0 ∧ imageByte img 35 ≤ 2)
    (hwaits : (takeWaits img).1 = (imageByte img 10, imageByte img 11))
    (htable : (takeTable img role own).1 = (imagePlaces img).filter fun n => n != 0)
    (hjob : (takeJob img role).2 = false) (hbasis : (takeBasis img role).2 = false)
    (hline : ∀ i : Fin 8, (takeLine img role i).2 = false) (hchannel : ∀ i : Fin 8, (takeChannel img role i).2 = false)
    (hmeter : ∀ m : Fin 8, (takeMeter img role m).2 = false) : imageClamped img role own = false := by
  have hw : (takeWaits img).2 = false := by
    have hdef : (takeWaits img).2 = ((takeWaits img).1 != (imageByte img 10, imageByte img 11)) := rfl
    simp [hdef, hwaits]
  have ht : (takeTable img role own).2 = false :=
    Bool.eq_false_iff.mpr fun h => (takeTable_clamped_iff img role own).mp h htable
  have hstation : true ∉ stationClamps img role own := by
    simp only [stationClamps, takeSource_eq, takeRate_eq, takePeriodLength_eq, takeInterval_eq, takeExternal_eq,
      takeAlert_eq, takeBaud_eq, hw, ht, hjob, hbasis, List.mem_cons, eq_comm (a := true), decide_eq_true_eq]
    simp
    omega
  refine Bool.eq_false_iff.mpr (mt (imageClamped_iff img role own).mp (not_or.mpr ⟨hstation, ?_⟩))
  simp [hline, hchannel, hmeter]

/-! ### Fields in range -/

section
variable {img : List Byte} {role : Role}

theorem takeJob_inRange
    (h : role = .line → 1 ≤ imageField img 149 2 ∧ 1 ≤ imageByte img 151 ∧ imageByte img 151 ≤ 4) :
    (takeJob img role).2 = false := by
  cases role with
  | line =>
    have hfields := h rfl
    rw [takeJob_line]
    exact decide_eq_false (by omega)
  | furnace => rfl
  | pool => rfl

theorem takeBasis_inRange (hfurnace : role = .furnace → imageByte img 132 = 1)
    (hpool : role = .pool → 1 ≤ imageByte img 132 ∧ imageByte img 132 ≤ 3) : (takeBasis img role).2 = false := by
  cases role with
  | line => rfl
  | furnace =>
    rw [takeBasis_furnace]
    exact decide_eq_false (not_not.mpr (hfurnace rfl))
  | pool =>
    have hcode := hpool rfl
    rw [takeBasis_pool]
    exact decide_eq_false (by omega)

theorem takeLine_inRange {i : Fin 8}
    (h : (takeLine img role i).1.role = .unused → imageByte img (27 + i.val) % 8 = 0) : (takeLine img role i).2 = false :=
  Bool.eq_false_iff.mpr fun hflag =>
    have ⟨hunused, hcode⟩ := (takeLine_clamped_iff img role i).mp hflag
    hcode (h hunused)

theorem takeChannel_inRange {i : Fin 8}
    (hnone : (takeChannel img role i).1 = none → imageByte img (100 + 4 * i.val) = 0)
    (hsome : ∀ setup, (takeChannel img role i).1 = some setup →
      1 ≤ imageByte img (101 + 4 * i.val) ∧ imageByte img (101 + 4 * i.val) ≤ 5
        ∧ (imageByte img (100 + 4 * i.val) ≤ 8 → 1 ≤ imageField img (102 + 4 * i.val) 2)) :
    (takeChannel img role i).2 = false := by
  refine Bool.eq_false_iff.mpr (mt (takeChannel_clamped_iff img role i).mp ?_)
  rintro (⟨habsent, hcode⟩ | ⟨setup, hsetup, hcarrier | ⟨l, hl, hzero⟩⟩)
  · exact hcode (hnone habsent)
  · have hfits := hsome setup hsetup
    omega
  · have hpulse := (hsome setup hsetup).2.2 ((takeChannel_line_iff hsetup).mp ⟨l, hl⟩)
    omega

theorem takeMeter_inRange {m : Fin 8}
    (hnone : (takeMeter img role m).1 = none → imageByte img (36 + 8 * m.val) = 0)
    (hsome : ∀ setup, (takeMeter img role m).1 = some setup →
      imageByte img (38 + 8 * m.val) ≤ 6 ∧ 1 ≤ imageField img (39 + 8 * m.val) 2 ∧ 1 ≤ imageField img (41 + 8 * m.val) 2
        ∧ imageByte img (43 + 8 * m.val) = fedCode setup.feeds) : (takeMeter img role m).2 = false := by
  refine Bool.eq_false_iff.mpr (mt (takeMeter_clamped_iff img role m).mp ?_)
  rintro (⟨habsent, hcode⟩ | ⟨setup, hsetup, hfield⟩)
  · exact hcode (hnone habsent)
  · have hfits := hsome setup hsetup
    omega

end

/-- Settles O8: each field by its own lemma, and CLAMPED by the fields whose clamps it stands for. -/
theorem imageFieldsAreTakenAndClamped : Obligations.ImageFieldsAreTakenAndClamped := by
  unfold Obligations.ImageFieldsAreTakenAndClamped
  intro img role own c byteAt word clamped places kept code source sourced address select
  have hline (i : Fin 8) : c.lines[i] = (takeLine img role i).1 := settingsOf_line img role own i
  have hchannel (i : Fin 8) : c.channels[i] = (takeChannel img role i).1 := settingsOf_channel img role own i
  have hmeter (m : Fin 8) : c.meters[m] = (takeMeter img role m).1 := settingsOf_meter img role own m
  have hsource (i : Fin 8) : c.channels[i].map ChannelSetup.source = (takenSource img role i).1 :=
    settingsOf_channel_source img role own i
  refine ⟨?table, ?codes, imageJobAndBasis img role own, fun i => ?lines, fun i => ?channels, fun m => ?meters, ?inRange⟩
  case table =>
    exact ⟨takePlaces_pairwise own places, mem_takePlaces own places, takeTable_eq img role own,
      remainingPlaces_length img own, imageClamped_of_table⟩
  case codes =>
    exact ⟨congrArg Prod.fst (takeSource_eq img), congrArg Prod.fst (takeRate_eq img),
      congrArg Prod.fst (takePeriodLength_eq img), congrArg Prod.fst (takeInterval_eq img),
      congrArg Prod.fst (takeExternal_eq img), congrArg Prod.fst (takeBaud_eq img), congrArg Prod.fst (takeAlert_eq img 21),
      congrArg Prod.fst (takeAlert_eq img 24), rfl, rfl, imageClamped_of_code⟩
  case lines =>
    simp only [hline, hsource]
    obtain ⟨hcut, hreject, hrunning, hfault⟩ := takeLine_levelRoles img role i
    exact ⟨hcut, hreject, hrunning, hfault, takeLine_second_iff img role i, takeLine_energy_iff img role i, rfl, rfl,
      fun hunused hcode => imageClamped_of_line ((takeLine_clamped_iff img role i).mpr ⟨hunused, hcode⟩)⟩
  case channels =>
    have hclamped := (takeChannel_clamped_iff img role i).mpr
    rw [hchannel]
    refine ⟨takeChannel_isSome_iff img role i, fun hnone hcode => imageClamped_of_channel (hclamped (.inl ⟨hnone, hcode⟩)),
      fun setup hsetup => ?_⟩
    obtain ⟨hcarrier, hpulse⟩ := takeChannel_some hsetup
    refine ⟨?_, fun hcode => imageClamped_of_channel (hclamped (.inr ⟨setup, hsetup, .inl hcode⟩)),
      fun l => takeChannel_source_iff hsetup (.line l), fun m => takeChannel_source_iff hsetup (.meter m), fun hlow => ?_⟩
    · rw [hcarrier, codedCarrier_eq]
      rfl
    · obtain ⟨l, hl⟩ := (takeChannel_line_iff hsetup).mpr hlow
      exact ⟨hpulse l hl, fun hzero => imageClamped_of_channel (hclamped (.inr ⟨setup, hsetup, .inr ⟨l, hl, hzero⟩⟩))⟩
  case meters =>
    have hclamped := (takeMeter_clamped_iff img role m).mpr
    simp only [hmeter, hsource]
    refine ⟨takeMeter_isSome_iff img role m, fun hnone hcode => imageClamped_of_meter (hclamped (.inl ⟨hnone, hcode⟩)),
      fun setup hsetup => ?_⟩
    obtain ⟨⟨-, hhigh⟩, -, rfl⟩ := (takeMeter_some_iff img role m setup).mp hsetup
    refine ⟨?address, ?select, ?modulus, rfl, rfl, channelNaming_eq_some_iff img role m,
      fun h => imageClamped_of_meter (hclamped (.inr ⟨_, hsetup, h⟩))⟩
    case address => exact Nat.mod_eq_of_lt (hhigh.trans_lt (by decide))
    case select => exact Nat.mod_eq_of_lt ((Nat.mod_lt _ (by decide)).trans (by decide : (16 : Nat) < 256))
    case modulus => exact congrArg Prod.fst (modulusOfCode_eq _)
  case inRange =>
    intro h4 h7 h8 h9 h12 h21 h22 h24 h25 h35 ht1 ht2 htable hjob hfurnace hpool hplaces hmeters
    exact imageClamped_eq_false ⟨h4, h7, h8, h9, h12, h21, h22, h24, h25, h35⟩ (Prod.ext ht1 ht2) htable
      (takeJob_inRange hjob) (takeBasis_inRange hfurnace hpool) (fun i => takeLine_inRange (hline i ▸ (hplaces i).1))
      (fun i => takeChannel_inRange (hchannel i ▸ (hplaces i).2.1) (hchannel i ▸ (hplaces i).2.2))
      fun m => takeMeter_inRange (hmeter m ▸ (hmeters m).1) (hmeter m ▸ (hmeters m).2)

end Sys2Proof.Machine
end

section
/-! SUPPORT. What the meter port makes of a reply, a poll and a round (R43 to R58). -/

namespace Sys2Proof.Machine

open Sys2Proof

/-! ### Valid readings (R44, R45) -/

/-- The ones' complement of a byte is 255 less the byte. -/
theorem not_eq_sub (b : Byte) : ~~~b = 255 - b := by bv_omega

theorem meterCheck_eq (bytes : List Byte) : meterCheck bytes = 255 - bytes.foldl (· + ·) 0 := not_eq_sub _

theorem ofBytes_four (b3 b2 b1 b0 : Byte) :
    ofBytes [b3, b2, b1, b0] = b3.toNat * 2 ^ 24 + b2.toNat * 2 ^ 16 + b1.toNat * 2 ^ 8 + b0.toNat := by
  simp only [ofBytes, List.foldl_cons, List.foldl_nil]
  ring

/-- The lowest bit of a byte tells whether its number is odd. -/
theorem getLsbD_zero_eq (b : Byte) : b.getLsbD 0 = (b.toNat % 2 == 1) := by
  simp [BitVec.getLsbD, Nat.testBit_zero, beq_eq_decide]

/-- What a reply whose eight bytes all came is read as. -/
theorem validReading_of_bytes (setup : MeterSetup) (request : MeterRequest) (a sel v3 v2 v1 v0 status check : Byte) :
    let value := v3.toNat * 2 ^ 24 + v2.toNat * 2 ^ 16 + v1.toNat * 2 ^ 8 + v0.toNat
    validReading setup request ⟨some a, some sel, some v3, some v2, some v1, some v0, some status, some check⟩
      = if check = 255 - (a + sel + v3 + v2 + v1 + v0 + status) ∧ a = request.address ∧ sel = request.select
          ∧ value < setup.modulus then some (value, status.toNat % 2 == 1) else none := by
  simp only [validReading, meterCheck_eq, ofBytes_four, getLsbD_zero_eq, List.foldl_cons, List.foldl_nil, zero_add]

/-- A reply that is a valid reading came whole. -/
theorem validReading_bytes {setup : MeterSetup} {request : MeterRequest} {reply : MeterReply} {r : Nat × Bool}
    (h : validReading setup request reply = some r) :
    ∃ a sel v3 v2 v1 v0 status check : Byte,
      reply = ⟨some a, some sel, some v3, some v2, some v1, some v0, some status, some check⟩ := by
  unfold validReading at h
  split at h
  · next a sel v3 v2 v1 v0 status check h1 h2 h3 h4 h5 h6 h7 h8 =>
    exact ⟨a, sel, v3, v2, v1, v0, status, check, by rw [← h1, ← h2, ← h3, ← h4, ← h5, ← h6, ← h7, ← h8]⟩
  · cases h

/-- Settles O19: by the tests of a reply whose bytes all came. -/
theorem validReplyMeetsEveryTest : Obligations.ValidReplyMeetsEveryTest := by
  unfold Obligations.ValidReplyMeetsEveryTest
  intro setup request reply value alarm
  constructor
  · intro h
    obtain ⟨a, sel, v3, v2, v1, v0, status, check, rfl⟩ := validReading_bytes h
    rw [validReading_of_bytes] at h
    split at h
    · next htests =>
      obtain ⟨rfl, rfl, rfl, hvalue⟩ := htests
      obtain ⟨rfl, rfl⟩ := Prod.mk.inj (Option.some.inj h)
      exact ⟨v3, v2, v1, v0, status, rfl, rfl, hvalue, rfl⟩
    · cases h
  · rintro ⟨v3, v2, v1, v0, status, rfl, rfl, hvalue, rfl⟩
    rw [validReading_of_bytes, if_pos ⟨rfl, rfl, rfl, hvalue⟩]

/-- The value of a valid reading is below the modulus (R45). -/
theorem validReading_lt {setup : MeterSetup} {request : MeterRequest} {reply : MeterReply} {r : Nat × Bool}
    (h : validReading setup request reply = some r) : r.1 < setup.modulus := by
  obtain ⟨-, -, -, -, -, -, -, hvalue, -⟩ := (validReplyMeetsEveryTest setup request reply r.1 r.2).mp h
  exact hvalue

/-! ### Rounds (R48, R49) -/

/-- The first configured entry from a place on, by the entries that are configured. -/
theorem Settings.meterFrom_eq_some_iff (c : Settings) (place : Nat) (m : Fin 8) :
    c.meterFrom place = some m ↔ (place ≤ m.val ∧ c.meters[m].isSome = true)
      ∧ ∀ j : Fin 8, j < m → place ≤ j.val → c.meters[j] = none := by
  simp [Settings.meterFrom, find?_finRange_eq_some_iff]

theorem Settings.meterFrom_eq_none_iff (c : Settings) (place : Nat) :
    c.meterFrom place = none ↔ ∀ m : Fin 8, place ≤ m.val → c.meters[m] = none := by
  simp [Settings.meterFrom]

/-- The poll that begins after that of entry m: of the lowest configured entry above, or none when there is none (R49). -/
theorem State.pollFrom_next (s : State) (c : Settings) (m : Fin 8) :
    (∀ k : Fin 8, m < k → c.meters[k].isSome = true → (∀ j : Fin 8, m < j → j < k → c.meters[j] = none) →
        (s.pollFrom c (m.val + 1)).meter.poll = some { entry := k, phase := .waitQuiet })
      ∧ ((∀ k : Fin 8, m < k → c.meters[k] = none) → (s.pollFrom c (m.val + 1)).meter.poll = none) := by
  refine ⟨fun k hmk hk hbetween => ?_, fun hnone => ?_⟩
  · have hfirst := (c.meterFrom_eq_some_iff (m.val + 1) k).mpr ⟨⟨hmk, hk⟩, fun j hjk hmj => hbetween j hmj hjk⟩
    simp [State.pollFrom, hfirst]
  · have hlast := (c.meterFrom_eq_none_iff (m.val + 1)).mpr hnone
    simp [State.pollFrom, hlast]

/-! ### Failed polls (R56) -/

/-- What a failed poll changes: the entry, the counter, METER-FAULT of the open entry at the third miss, and the alert lines. -/
theorem State.failPoll_eq (s : State) (m : Fin 8) :
    s.failPoll m
      = { s with
          book := { s.book with
            entries := flagOpenedIf (s.meter.entries[m].state ≠ .failed ∧ 3 ≤ s.meter.entries[m].miss + 1)
              EntryFlags.withMeterFault s.book.entries },
          meter := { s.meter with entries := s.meter.entries.set m s.meter.entries[m].failPoll,
                                  failedPolls := grow s.meter.failedPolls 1 },
          alerts := (s.failPoll m).alerts } := by
  have hfails : (s.meter.entries[m].state ≠ .failed ∧ s.meter.entries[m].failPoll.state = .failed)
      ↔ s.meter.entries[m].state ≠ .failed ∧ 3 ≤ s.meter.entries[m].miss + 1 := by
    simp only [MeterEntry.failPoll]
    split <;> simp_all
  unfold State.failPoll
  dsimp only
  split
  · next h => rw [flagOpenedIf_pos (hfails.mp h)]; rfl
  · next h => rw [flagOpenedIf_neg (hfails.not.mp h)]; rfl

/-! ### Good polls (R52 to R57) -/

/-- The delta of a reading against the reference, modulo the modulus; an entry without a reference counts as at 0 (R53). -/
def MeterEntry.delta (e : MeterEntry) (setup : MeterSetup) (value : Nat) : Nat :=
  (value + setup.modulus - e.reference.getD 0) % setup.modulus

/-- A reading is plausible: there is a reference, and the delta is within the limit times the rounds (R53). -/
abbrev MeterEntry.plausible (e : MeterEntry) (setup : MeterSetup) (value : Nat) : Prop :=
  e.reference.isSome = true ∧ e.delta setup value ≤ setup.limit * e.rounds

/-- A reading is a discontinuity: there is a reference, and the delta is past the limit times the rounds (R54). -/
abbrev MeterEntry.refuses (e : MeterEntry) (setup : MeterSetup) (value : Nat) : Prop :=
  e.reference.isSome = true ∧ setup.limit * e.rounds < e.delta setup value

/-- The state once a plausible reading of entry m is delivered, and as it was after any other (R53). -/
def State.creditReading (s : State) (c : Settings) (m : Fin 8) (setup : MeterSetup) (value : Nat) : State :=
  if s.meter.entries[m].plausible setup value then
    s.deliver c (.meter m) (s.meter.entries[m].delta setup value * setup.scale)
  else s

/-- A delivery changes the bank's channels and the open entry's flags only. -/
theorem State.deliver_frame (s : State) (c : Settings) (source : ChannelSource) (amount : Nat) :
    s.deliver c source amount
      = { s with bank := (s.deliver c source amount).bank,
                 book := { s.book with entries := (s.deliver c source amount).book.entries } } := by
  rcases s.deliver_cases c source amount with ⟨-, h⟩ | ⟨i, -, h⟩ <;> rw [h]
  rw [State.creditChannel_eq]

/-- A delivery goes by the bank and the entries alone. -/
theorem State.deliver_congr {s t : State} (hb : t.bank = s.bank) (he : t.book.entries = s.book.entries) (c : Settings)
    (source : ChannelSource) (amount : Nat) :
    (t.deliver c source amount).bank = (s.deliver c source amount).bank
      ∧ (t.deliver c source amount).book.entries = (s.deliver c source amount).book.entries := by
  cases h : c.channelOf source with
  | none => simp [State.deliver, h, hb, he]
  | some i => simp [State.deliver_some h, State.creditChannel_eq, hb, he]

/-- A flag of the open entry other than SATURATED may be set before a delivery or after it. -/
theorem State.deliver_flagOpen (s : State) (c : Settings) (source : ChannelSource) (amount : Nat)
    {f : EntryFlags → EntryFlags} (hf : ∀ x, f x.withSaturated = (f x).withSaturated) :
    (s.flagOpen f).deliver c source amount = (s.deliver c source amount).flagOpen f := by
  cases h : c.channelOf source with
  | none => simp [State.deliver, h]
  | some i =>
    have hcomm (test : Prop) [Decidable test] : flagOpenedIf test EntryFlags.withSaturated (flagOpened f s.book.entries)
        = flagOpened f (flagOpenedIf test EntryFlags.withSaturated s.book.entries) := by
      simpa only [flagOpenedIf_pos trivial] using flagOpenedIf_comm (fun x => (hf x).symm) test True s.book.entries
    simp [State.deliver_some h, State.creditChannel_eq, State.flagOpen, hcomm]

/-- A flag of the open entry other than SATURATED and DISCONTINUITY may be set before a reading is taken or after it. -/
theorem State.takeReading_flagOpen (s : State) (c : Settings) (m : Fin 8) (setup : MeterSetup) (delta : Nat)
    {f : EntryFlags → EntryFlags} (hsat : ∀ x, f x.withSaturated = (f x).withSaturated)
    (hdis : ∀ x, f x.withDiscontinuity = (f x).withDiscontinuity) :
    (s.flagOpen f).takeReading c m setup delta = (s.takeReading c m setup delta).flagOpen f := by
  have hcomm : flagOpened EntryFlags.withDiscontinuity (flagOpened f s.book.entries)
      = flagOpened f (flagOpened EntryFlags.withDiscontinuity s.book.entries) := by
    simpa only [flagOpenedIf_pos trivial] using flagOpenedIf_comm (fun x => (hdis x).symm) True True s.book.entries
  unfold State.takeReading
  rw [State.flagOpen_meter]
  split
  · exact s.deliver_flagOpen c _ _ hsat
  · simp [State.flagOpen, hcomm]

/-- A reading that an entry takes against its reference is credited or is a discontinuity (R53, R54). -/
theorem State.takeReading_eq {s : State} {m : Fin 8} {r : Nat} (hr : s.meter.entries[m].reference = some r) (c : Settings)
    (setup : MeterSetup) (value : Nat) :
    s.takeReading c m setup (meterDelta setup.modulus value r)
      = { s with
          bank := (s.creditReading c m setup value).bank,
          book := { s.book with
            entries := flagOpenedIf (s.meter.entries[m].refuses setup value) EntryFlags.withDiscontinuity
              (s.creditReading c m setup value).book.entries },
          meter := { s.meter with
            discontinuities := if s.meter.entries[m].refuses setup value then grow s.meter.discontinuities 1
              else s.meter.discontinuities } } := by
  have hdelta : meterDelta setup.modulus value r = s.meter.entries[m].delta setup value := by
    rw [MeterEntry.delta, hr]; rfl
  have href : s.meter.entries[m].reference.isSome = true := by rw [hr]; rfl
  rw [hdelta]
  rcases s.takeReading_cases c m setup (s.meter.entries[m].delta setup value) with ⟨hle, h⟩ | ⟨hlt, h⟩ <;> rw [h]
  · have hnot : ¬s.meter.entries[m].refuses setup value := fun h => absurd h.2 (Nat.not_lt.mpr hle)
    rw [State.creditReading, if_pos ⟨href, hle⟩, if_neg hnot, flagOpenedIf_neg hnot]
    exact s.deliver_frame _ _ _
  · have hnot : ¬s.meter.entries[m].plausible setup value := fun h => absurd h.2 (Nat.not_le.mpr hlt)
    have hrefuses : s.meter.entries[m].refuses setup value := ⟨href, hlt⟩
    rw [State.creditReading, if_neg hnot, if_pos hrefuses, flagOpenedIf_pos hrefuses]
    rfl

/-- A good poll's reading against the reference: nothing without one, else CATCH-UP of a FAILED entry and the reading (R52 to
R55). -/
def State.takeReference (s : State) (c : Settings) (m : Fin 8) (setup : MeterSetup) (value : Nat) : State :=
  match s.meter.entries[m].reference with
  | none => s
  | some r =>
    (if s.meter.entries[m].state = .failed then s.flagOpen EntryFlags.withCatchUp else s).takeReading c m setup
      (meterDelta setup.modulus value r)

theorem State.goodPoll_eq_takeReference (s : State) (c : Settings) (m : Fin 8) (setup : MeterSetup) (value : Nat)
    (alarm : Bool) : s.goodPoll c m setup value alarm
      = (((s.takeReference c m setup value).setMeter m (goodEntry value alarm)).takeAlarm alarm).refreshAlerts := rfl

theorem State.takeReference_none {s : State} {m : Fin 8} (h : s.meter.entries[m].reference = none) (c : Settings)
    (setup : MeterSetup) (value : Nat) : s.takeReference c m setup value = s := by
  simp only [State.takeReference, h]

theorem State.takeReference_some {s : State} {m : Fin 8} {r : Nat} (h : s.meter.entries[m].reference = some r) (c : Settings)
    (setup : MeterSetup) (value : Nat) : s.takeReference c m setup value
      = (if s.meter.entries[m].state = .failed then s.flagOpen EntryFlags.withCatchUp else s).takeReading c m setup
          (meterDelta setup.modulus value r) := by
  simp only [State.takeReference, h]

theorem State.takeReference_eq (s : State) (c : Settings) (m : Fin 8) (setup : MeterSetup) (value : Nat) :
    s.takeReference c m setup value
      = { s with
          bank := (s.creditReading c m setup value).bank,
          book := { s.book with
            entries := flagOpenedIf (s.meter.entries[m].state = .failed ∧ s.meter.entries[m].reference.isSome = true)
              EntryFlags.withCatchUp
              (flagOpenedIf (s.meter.entries[m].refuses setup value) EntryFlags.withDiscontinuity
                (s.creditReading c m setup value).book.entries) },
          meter := { s.meter with
            discontinuities := if s.meter.entries[m].refuses setup value then grow s.meter.discontinuities 1
              else s.meter.discontinuities } } := by
  obtain hr | ⟨r, hr⟩ := Option.eq_none_or_eq_some s.meter.entries[m].reference
  · have hnone : ¬s.meter.entries[m].reference.isSome = true := by rw [hr]; exact Bool.false_ne_true
    have hrefuses : ¬s.meter.entries[m].refuses setup value := fun h => hnone h.1
    rw [State.takeReference_none hr, State.creditReading, if_neg (fun h => hnone h.1), if_neg hrefuses,
      flagOpenedIf_neg hrefuses, flagOpenedIf_neg (fun h => hnone h.2)]
  · have hsome : s.meter.entries[m].reference.isSome = true := by rw [hr]; rfl
    rw [State.takeReference_some hr]
    by_cases hfailed : s.meter.entries[m].state = .failed
    · have hcatchUp : s.meter.entries[m].state = .failed ∧ s.meter.entries[m].reference.isSome = true := ⟨hfailed, hsome⟩
      rw [if_pos hfailed, State.takeReading_flagOpen (f := EntryFlags.withCatchUp) (hsat := fun _ => rfl)
        (hdis := fun _ => rfl), State.takeReading_eq hr, flagOpenedIf_pos hcatchUp]
      rfl
    · have hcatchUp : ¬(s.meter.entries[m].state = .failed ∧ s.meter.entries[m].reference.isSome = true) :=
        fun h => hfailed h.1
      rw [if_neg hfailed, State.takeReading_eq hr, flagOpenedIf_neg hcatchUp]

/-- What a good poll changes: the credit of a plausible reading, the entry, the alarm and discontinuity figures, the flags of the
open entry, and the alert lines. -/
theorem State.goodPoll_eq (s : State) (c : Settings) (m : Fin 8) (setup : MeterSetup) (value : Nat) (alarm : Bool) :
    s.goodPoll c m setup value alarm
      = { s with
          bank := (s.creditReading c m setup value).bank,
          book := { s.book with
            entries := flagOpenedIf (s.meter.entries[m].state = .failed ∧ s.meter.entries[m].reference.isSome = true)
              EntryFlags.withCatchUp
              (flagOpenedIf (s.meter.entries[m].refuses setup value) EntryFlags.withDiscontinuity
                (flagOpenedIf (alarm = true) EntryFlags.withMeterFault (s.creditReading c m setup value).book.entries)) },
          meter := { s.meter with
            entries := s.meter.entries.set m (goodEntry value alarm)
            discontinuities := if s.meter.entries[m].refuses setup value then grow s.meter.discontinuities 1
              else s.meter.discontinuities
            alarmSeen := s.meter.alarmSeen || alarm },
          alerts := (s.goodPoll c m setup value alarm).alerts } := by
  rw [flagOpenedIf_comm (f := EntryFlags.withDiscontinuity) (g := EntryFlags.withMeterFault) (fun _ => rfl),
    flagOpenedIf_comm (f := EntryFlags.withCatchUp) (g := EntryFlags.withMeterFault) (fun _ => rfl)]
  conv_lhs => rw [State.goodPoll_eq_takeReference, State.takeAlarm_eq]
  simp only [State.goodPoll_eq_takeReference, State.takeAlarm_eq, State.takeReference_eq]
  rfl

end Sys2Proof.Machine
end

section
/-! SUPPORT. Every command keeps the meter table formed (R47, R56). -/

namespace Sys2Proof.Machine

open Sys2Proof

/-! ### The runtime state of one entry (R47) -/

/-- An entry that fits an empty place has no reference, and so fits every meter entry. -/
theorem MeterEntry.formed.of_none {e : MeterEntry} (h : e.formed none) (setup : Option MeterSetup) : e.formed setup := by
  obtain ⟨hmiss, hlow, hhigh, hfailed, hno, hactive, href⟩ := h
  refine ⟨hmiss, hlow, hhigh, hfailed, hno, hactive, fun r hr => ?_⟩
  obtain ⟨m, hm, -⟩ := href r hr
  cases hm

/-- A valid reading makes an ACTIVE entry with a reference below the modulus (R52). -/
theorem goodEntry_formed {setup : MeterSetup} {value : Nat} (h : value < setup.modulus) (alarm : Bool) :
    (goodEntry value alarm).formed (some setup) := by
  refine ⟨by simp [goodEntry], by simp [goodEntry], by simp [goodEntry, Config.counterLimit], by simp [goodEntry],
    by simp [goodEntry], by simp [goodEntry], fun r hr => ⟨setup, rfl, ?_⟩⟩
  obtain rfl : value = r := Option.some.inj hr
  exact h

/-- A failed poll makes the entry FAILED at the third miss and keeps its reference (R56). -/
theorem MeterEntry.failPoll_formed {e : MeterEntry} {setup : Option MeterSetup} (h : e.formed setup) :
    e.failPoll.formed setup := by
  obtain ⟨hmiss, hlow, hhigh, hfailed, hno, hactive, href⟩ := h
  have hcount : e.failPoll.miss = min 3 (e.miss + 1) := rfl
  have hrounds : e.failPoll.rounds = min 65535 (e.rounds + 1) := rfl
  by_cases hthird : 3 ≤ e.miss + 1
  · have hstate : e.failPoll.state = .failed := if_pos hthird
    exact ⟨by omega, by omega, hold_le _ _, ⟨fun _ => by omega, fun _ => hstate⟩, by simp [hstate], by simp [hstate], href⟩
  · have hstate : e.failPoll.state = e.state := if_neg hthird
    refine ⟨by omega, by omega, hold_le _ _, ?_, hstate ▸ hno, hstate ▸ hactive, href⟩
    rw [hstate, hfailed]; omega

/-! ### What keeps the meter table -/

/-- The step from s to t keeps the loader's phase, the configuration and the form of every meter entry, and begins no poll in a
station without a configuration. -/
structure State.KeepsMeters (s t : State) : Prop where
  phase : t.loader.phase = s.loader.phase
  settings : t.settings = s.settings
  entries : ∀ m : Fin 8, s.meter.entries[m].formed (s.meterSetup m) → t.meter.entries[m].formed (s.meterSetup m)
  poll : s.settings = none → s.meter.poll = none → t.meter.poll = none

theorem State.meterSetup_congr {s t : State} (h : t.settings = s.settings) (m : Fin 8) : t.meterSetup m = s.meterSetup m := by
  rw [State.meterSetup, h, State.meterSetup]

theorem State.KeepsMeters.metersFormed {s t : State} (h : s.KeepsMeters t) (hs : s.metersFormed) : t.metersFormed := by
  obtain ⟨hentries, hphase, hpoll⟩ := hs
  refine ⟨fun m => ?_, fun hp => ?_, fun hc => ?_⟩
  · rw [State.meterSetup_congr h.settings]; exact h.entries m (hentries m)
  · rw [h.settings]; exact hphase (h.phase ▸ hp)
  · rw [h.settings] at hc; exact h.poll hc (hpoll hc)

theorem State.KeepsMeters.refl (s : State) : s.KeepsMeters s := ⟨rfl, rfl, fun _ => id, fun _ => id⟩

theorem State.KeepsMeters.trans {s t u : State} (h : s.KeepsMeters t) (k : t.KeepsMeters u) : s.KeepsMeters u := by
  refine ⟨k.phase.trans h.phase, k.settings.trans h.settings, fun m hm => ?_, fun hc hp => ?_⟩
  · have hk := k.entries m
    rw [State.meterSetup_congr h.settings] at hk
    exact hk (h.entries m hm)
  · exact k.poll (h.settings.trans hc) (h.poll hc hp)

/-- A step that leaves the loader, the configuration, the meter entries and the poll keeps the meter table. -/
theorem State.KeepsMeters.of_entries {s t : State} (hl : t.loader = s.loader) (hc : t.settings = s.settings)
    (he : t.meter.entries = s.meter.entries) (hp : t.meter.poll = s.meter.poll) : s.KeepsMeters t :=
  ⟨congrArg Loader.phase hl, hc, fun m hm => by rw [he]; exact hm, fun _ h => hp.trans h⟩

/-- A step that leaves the loader, the configuration and the meter port keeps the meter table. -/
theorem State.KeepsMeters.of_meter {s t : State} (hl : t.loader = s.loader := by simp) (hc : t.settings = s.settings := by simp)
    (hm : t.meter = s.meter := by simp) : s.KeepsMeters t := .of_entries hl hc (by rw [hm]) (by rw [hm])

/-- A step that may be left out keeps the meter table when it is taken, if it keeps it. -/
theorem State.KeepsMeters.ite {s t : State} (test : Prop) [Decidable test] (h : s.KeepsMeters t) :
    s.KeepsMeters (if test then t else s) := by
  split
  · exact h
  · exact .refl s

/-! ### Boundaries (R11, R57) -/

/-- Alarm-seen is all that a close changes in the meter port (R57). -/
theorem State.closeOpen_meter (s : State) (kind : EntryKind) :
    ∃ seen, (s.closeOpen kind).meter = { s.meter with alarmSeen := seen } := by
  unfold State.closeOpen
  split
  · refine ⟨false, ?_⟩
    dsimp only
    split
    · rw [State.strike_meter, State.queueTally_meter]; rfl
    · rw [State.queueTally_meter]; rfl
  · exact ⟨s.meter.alarmSeen, rfl⟩

theorem State.boundary_meter (s : State) (passed : Option Nat) (n : Period) (cause : Cause) :
    ∃ seen, (s.boundary passed n cause).meter = { s.meter with alarmSeen := seen } := by
  obtain ⟨seen, h⟩ := s.closeOpen_meter (if passed.isSome then .irregular else .regular)
  refine ⟨seen, ?_⟩
  rw [State.boundary_eq, ← h]
  dsimp only
  cases passed <;> split <;> simp [State.beforeOpen]

theorem State.boundary_keepsMeters (s : State) (passed : Option Nat) (n : Period) (cause : Cause) :
    s.KeepsMeters (s.boundary passed n cause) := by
  obtain ⟨seen, h⟩ := s.boundary_meter passed n cause
  exact .of_entries (by simp) (by simp) (by rw [h]) (by rw [h])

theorem State.ownExpiry_keepsMeters (s : State) : s.KeepsMeters s.ownExpiry := by
  unfold State.ownExpiry
  split
  · exact .refl s
  · next p _ => exact (s.boundary_keepsMeters none (p + 1) .ownExpiry).trans .of_meter

theorem State.soloEnd_keepsMeters (s : State) : s.KeepsMeters s.soloEnd :=
  (s.boundary_keepsMeters none 1 .soloStart).trans (by unfold State.soloEnd; exact .of_meter)

theorem State.heardMark_keepsMeters (s : State) (n : Period) (station : Nat) : s.KeepsMeters (s.heardMark n station) := by
  unfold State.heardMark
  split
  · exact s.boundary_keepsMeters _ _ _
  · split; · exact .of_meter
    split; · exact s.boundary_keepsMeters _ _ _
    split; · exact s.boundary_keepsMeters _ _ _
    exact .of_meter rfl rfl rfl
  · exact .refl s

theorem State.evidence_keepsMeters (s : State) (n : Period) (station : Nat) : s.KeepsMeters (s.evidence n station) := by
  unfold State.evidence
  split
  · exact s.boundary_keepsMeters _ _ _
  · split; · exact s.boundary_keepsMeters _ _ _
    split; · exact s.boundary_keepsMeters _ _ _
    exact .refl s
  · exact .refl s

theorem State.takeRecord_keepsMeters (s : State) (n : Period) (station : Nat) {take : State → State}
    (htake : ∀ u : State, u.KeepsMeters (take u)) : s.KeepsMeters (s.takeRecord n station take) := by
  rcases s.takeRecord_cases n station take with ⟨-, h⟩ | ⟨-, h⟩ <;> rw [h]
  · exact (s.evidence_keepsMeters n station).trans .of_meter
  · exact (s.evidence_keepsMeters n station).trans (htake _)

/-! ### Base ticks -/

theorem State.takeSample_keepsMeters (s : State) : s.KeepsMeters s.takeSample := by
  refine ⟨by simp, by simp, fun m hm => ?_, fun hc hp => ?_⟩
  · unfold State.takeSample
    split
    · exact hm
    · dsimp only; split <;> exact hm
  · simp [State.takeSample, hc, hp]

theorem State.discharge_keepsMeters (s : State) : s.KeepsMeters s.discharge := by
  have hstrikes : s.KeepsMeters (s.waitsOver.foldl State.strike s) := .of_meter
  exact ((hstrikes.trans (.ite _ (State.ownExpiry_keepsMeters _))).trans (.ite _ (State.soloEnd_keepsMeters _))).trans
    (.ite _ (State.takeSample_keepsMeters _))

theorem State.overdue_keepsMeters (s : State) : s.KeepsMeters s.overdue := .ite _ s.discharge_keepsMeters

theorem State.baseTick_keepsMeters (s : State) : s.KeepsMeters s.baseTick :=
  s.overdue_keepsMeters.trans (by unfold State.baseTick; exact .of_meter)

theorem State.secondPulse_keepsMeters (s : State) : s.KeepsMeters s.secondPulse := by
  unfold State.secondPulse
  split
  · exact .refl s
  · exact s.overdue_keepsMeters.trans .of_meter

/-! ### Polls (R50 to R56) -/

/-- A meter entry that takes a new state leaves the others as they are. -/
theorem meterEntries_set_other (entries : Vector MeterEntry 8) {m k : Fin 8} (h : k ≠ m) (e : MeterEntry) :
    (entries.set m e)[k] = entries[k] :=
  Vector.getElem_set_ne m.isLt k.isLt fun hv => h (Fin.ext hv.symm)

/-- The meter table stays formed when one entry takes a state that is formed where the entry was. -/
theorem State.set_formed {s : State} {m : Fin 8} {e : MeterEntry}
    (he : s.meter.entries[m].formed (s.meterSetup m) → e.formed (s.meterSetup m)) (k : Fin 8)
    (hk : s.meter.entries[k].formed (s.meterSetup k)) : (s.meter.entries.set m e)[k].formed (s.meterSetup k) := by
  by_cases h : k = m
  · subst h; simpa using he hk
  · rw [meterEntries_set_other _ h]; exact hk

theorem State.pollFrom_keepsMeters {s : State} {c : Settings} (hc : s.settings = some c) (place : Nat) :
    s.KeepsMeters (s.pollFrom c place) := by
  refine ⟨rfl, rfl, fun _ => id, fun hnone => ?_⟩
  cases hc.symm.trans hnone

theorem State.failPoll_keepsMeters (s : State) (m : Fin 8) : s.KeepsMeters (s.failPoll m) := by
  rw [State.failPoll_eq]
  exact ⟨rfl, rfl, State.set_formed MeterEntry.failPoll_formed, fun _ => id⟩

theorem State.pollFails_keepsMeters {s : State} {c : Settings} (hc : s.settings = some c) (m : Fin 8) :
    s.KeepsMeters (s.pollFails c m) :=
  (s.failPoll_keepsMeters m).trans (State.pollFrom_keepsMeters (by simpa using hc) _)

theorem State.goodPoll_keepsMeters {s : State} {c : Settings} {m : Fin 8} {setup : MeterSetup} {value : Nat}
    (hm : s.meterSetup m = some setup) (hvalue : value < setup.modulus) (alarm : Bool) :
    s.KeepsMeters (s.goodPoll c m setup value alarm) := by
  rw [State.goodPoll_eq]
  exact ⟨rfl, rfl, State.set_formed fun _ => hm ▸ goodEntry_formed hvalue alarm, fun _ => id⟩

theorem State.judgeReply_keepsMeters (s : State) (reply : MeterReply) : s.KeepsMeters (s.judgeReply reply) := by
  have harrived : s.KeepsMeters s.byteArrived := .of_entries rfl rfl rfl rfl
  unfold State.judgeReply
  split
  · next c p hc _ =>
    split
    · next request setup _ hsetup =>
      have hm : s.byteArrived.meterSetup p.entry = some setup := by simp [State.meterSetup, hc, ← hsetup]
      dsimp only
      split
      · next r hr =>
        exact (harrived.trans (State.goodPoll_keepsMeters hm (validReading_lt hr) r.2)).trans
          (State.pollFrom_keepsMeters (by simpa using hc) _)
      · exact harrived.trans (State.pollFails_keepsMeters (by simpa using hc) p.entry)
    · exact .refl s
  · exact .refl s

theorem State.sendRequest_keepsMeters (s : State) : s.KeepsMeters s.sendRequest := by
  refine ⟨by simp, by simp, fun m hm => ?_, fun hc hp => ?_⟩
  · unfold State.sendRequest
    repeat' split
    all_goals exact hm
  · simp [State.sendRequest, hc, hp]

/-! ### Start-up -/

/-- While loading lasts the meter table stays formed under whatever leaves the configuration and the meter port. -/
theorem State.metersFormed.loading {s t : State} (hs : s.metersFormed) (h : s.loader.phase ≠ .ended)
    (hc : t.settings = s.settings) (hm : t.meter = s.meter) : t.metersFormed := by
  obtain ⟨hentries, hphase, hpoll⟩ := hs
  have hnone : t.settings = none := hc.trans (hphase h)
  refine ⟨fun m => ?_, fun _ => hnone, fun _ => hm ▸ hpoll (hphase h)⟩
  rw [State.meterSetup_congr hc, hm]
  exact hentries m

/-- A load finds the meter entries without a reference, as they fit any meter table (R47). -/
theorem State.loadSucceeds_metersFormed {s : State} (hs : s.metersFormed) (h : s.loader.phase = .reading) (image : List Byte)
    (role : Role) (now : Nat) : (s.loadSucceeds image role now).metersFormed := by
  obtain ⟨hentries, hphase, -⟩ := hs
  have hnone (m : Fin 8) : s.meterSetup m = none := by simp [State.meterSetup, hphase (by simp [h])]
  let c := settingsOf image role (settleOwn image s.loader.straps)
  let u := s.configure c (settleOwn image s.loader.straps) (imageClamped image role (settleOwn image s.loader.straps)) image now
  have hloader : (s.loadSucceeds image role now).loader = u.loader := u.openNew_loader none .start
  have hsettings : (s.loadSucceeds image role now).settings = some c := u.openNew_settings none .start
  refine ⟨fun m => ?_, fun hp => ?_, fun hc => ?_⟩
  · rw [State.loadSucceeds_meter]
    exact MeterEntry.formed.of_none (hnone m ▸ hentries m) _
  · exact absurd (congrArg Loader.phase hloader) hp
  · cases hsettings.symm.trans hc

/-! ### The commands -/

/-- A received frame keeps the meter table when what its block does keeps it. -/
theorem State.receive_keepsMeters (s : State) (row : FrameRow) (ch : Chan) (f : Frame) {k : State → State}
    (hk : ∀ u : State, u.KeepsMeters (k u)) : s.KeepsMeters (s.receive row ch f k) := by
  have hheard : s.KeepsMeters (s.heard ch f) := .of_meter rfl rfl rfl
  exact State.receive_keeps (.refl s) .of_meter .of_meter .of_meter hheard (hheard.trans (hk _))

theorem State.query_keepsMeters (s : State) (f : Frame) {k : State → State} (hk : ∀ u : State, u.KeepsMeters (k u)) :
    s.KeepsMeters (s.query f k) := by
  have hcount : s.KeepsMeters s.countQuery := .of_meter
  exact State.query_keeps (hcount.trans .of_meter) (hcount.trans (hk _))

theorem State.unknownRequest_keepsMeters (s : State) (f : Frame) :
    s.KeepsMeters (if isOrder f then s.unknownOrder f else s.unknownQuery f) := by
  split
  · exact .of_meter
  · exact s.query_keepsMeters f fun u => .of_meter

section
variable (s : State)

theorem execWaitTimerExpiry_keepsMeters (number : Period) : EndsIn s.KeepsMeters (execWaitTimerExpiry number s) := by
  unfold execWaitTimerExpiry
  split
  · exact .ite (fun _ => .of_meter) (.refl s)
  · exact .next (.refl s)

theorem execQuietWaitTimeout_keepsMeters : EndsIn s.KeepsMeters (execQuietWaitTimeout s) := by
  unfold execQuietWaitTimeout
  split
  · next hc _ => exact .ite (fun _ => State.pollFails_keepsMeters hc _) (.refl s)
  · exact .next (.refl s)

theorem execRequestSent_keepsMeters : EndsIn s.KeepsMeters (execRequestSent s) := by
  unfold execRequestSent
  split
  · next hp =>
    refine .next ⟨rfl, rfl, fun _ => id, fun _ hnone => ?_⟩
    cases hp.symm.trans hnone
  · exact .next (.refl s)

theorem execReplyWindowClose_keepsMeters (window : WindowEnd) :
    EndsIn s.KeepsMeters (execReplyWindowClose window s) := by
  have hstarted (ago : Nat) : s.KeepsMeters (s.byteStarted ago) := .of_entries rfl rfl rfl rfl
  unfold execReplyWindowClose
  split
  · next hc _ =>
    exact .ite (fun _ => (hstarted _).trans (State.pollFails_keepsMeters (by simpa using hc) _)) (.refl s)
  · exact .next (.refl s)

theorem execFrameGoneOutWhole_keepsMeters (ch : Chan) : EndsIn s.KeepsMeters (execFrameGoneOutWhole ch s) := by
  unfold execFrameGoneOutWhole
  split
  · exact .next (.refl s)
  · exact .next (by split; exacts [.refl s, .of_meter])

theorem execEchoMismatch_keepsMeters (ch : Chan) : EndsIn s.KeepsMeters (execEchoMismatch ch s) := by
  unfold execEchoMismatch
  split
  · exact .next (.refl s)
  · refine .next ?_
    split
    · exact .refl s
    · split <;> exact .of_meter

theorem execInhibitedFrameEnd_keepsMeters (ch : Chan) : EndsIn s.KeepsMeters (execInhibitedFrameEnd ch s) := by
  unfold execInhibitedFrameEnd
  split
  · exact .next (.refl s)
  · exact .ite (fun _ => .of_meter) (.refl s)

end

/-- A read attempt is made while no entry has a reference, and so keeps the meter table formed. -/
theorem execImageReadAttempt_metersFormed {s : State} (hs : s.metersFormed) (memory : List Byte) (now : Nat) :
    EndsIn State.metersFormed (execImageReadAttempt memory now s) := by
  refine .ite (fun h => ?_) hs
  have hloading : s.loader.phase ≠ .ended := by simp [h]
  split
  · split
    · exact State.loadSucceeds_metersFormed hs h _ _ _
    · exact hs.loading hloading rfl rfl
  · exact hs.loading hloading (by simp) (by simp)

/-- Every command leaves the meter table formed. -/
theorem exec_metersFormed {s : State} (hs : s.metersFormed) (i : Instr) : EndsIn State.metersFormed (exec i s) := by
  have keeps {o : Host.Outcome State Fault Refusal} (h : EndsIn s.KeepsMeters o) : EndsIn State.metersFormed o :=
    h.mono fun _ ht => ht.metersFormed hs
  have level (line : Fin 8) (edge : Edge) : s.KeepsMeters (s.setLevel line edge) := .of_meter
  cases i with
  | hardwareReset => exact .next reset_metersFormed
  | resetRelease straps levels inhibitA inhibitB =>
    refine .ite (fun h => hs.loading ?_ rfl rfl) hs
    simp [s.inReset_iff.mp h]
  | imageReadAttempt memory now => exact execImageReadAttempt_metersFormed hs memory now
  | retryWaitEnd => exact .ite (fun h => hs.loading (by simp [h]) rfl rfl) hs
  | internalSecond => exact keeps (.next (by split; exacts [.refl s, s.baseTick_keepsMeters]))
  | secondPulse line => exact keeps (.ite (fun _ => (level _ _).trans (State.secondPulse_keepsMeters _)) (.refl s))
  | lossWatchExpiry => exact keeps (.ite (fun _ => .of_meter) (.refl s))
  | periodExpiry => exact keeps (.ite (fun _ => s.ownExpiry_keepsMeters) (.refl s))
  | soloWaitEnd => exact keeps (.ite (fun _ => s.soloEnd_keepsMeters) (.refl s))
  | sampleTick => exact keeps (.ite (fun _ => s.takeSample_keepsMeters) (.refl s))
  | waitTimerExpiry number => exact keeps (execWaitTimerExpiry_keepsMeters s number)
  | alertPulseEnd alert => cases alert <;> exact keeps (.next .of_meter)
  | energyPulse line => exact keeps (.ite (fun _ => .of_meter) (.refl s))
  | cutPulse line => exact keeps (.ite (fun _ => .of_meter) (.refl s))
  | rejectPulse line => exact keeps (.ite (fun _ => .of_meter) (.refl s))
  | runningLevelChange line edge => exact keeps (.ite (fun _ => level _ _) (.refl s))
  | faultLevelChange line edge => exact keeps (.ite (fun _ => .of_meter) (.refl s))
  | debouncedEdge line edge time => exact keeps (.ite (fun _ => .of_meter) (.refl s))
  | meterLineQuiet elapsed =>
    have hquiet : s.KeepsMeters (s.meterQuiet elapsed) := .of_entries rfl rfl rfl rfl
    exact keeps (.next (by split; exacts [.refl s, hquiet.trans (State.sendRequest_keepsMeters _)]))
  | quietWaitTimeout => exact keeps (execQuietWaitTimeout_keepsMeters s)
  | requestSent => exact keeps (execRequestSent_keepsMeters s)
  | replyReceived reply => exact keeps (.next (s.judgeReply_keepsMeters reply))
  | replyWindowClose window => exact keeps (execReplyWindowClose_keepsMeters s window)
  | strayMeterByte byte => exact keeps (.next (by split; exacts [.refl s, .of_entries rfl rfl rfl rfl]))
  | frameBegin ch elapsed => exact keeps (.next (by split; exacts [.refl s, .of_meter]))
  | defer ch => exact keeps (.next (by split; exacts [.refl s, .of_meter]))
  | frameGoneOutWhole ch => exact keeps (execFrameGoneOutWhole_keepsMeters s ch)
  | echoMismatch ch => exact keeps (execEchoMismatch_keepsMeters s ch)
  | inhibitActive ch => exact keeps (.next (by split; exacts [.refl s, .of_meter]))
  | inhibitReleased ch => exact keeps (.ite (fun _ => .of_meter) (.refl s))
  | receiveError ch raw => exact keeps (.ite (fun _ => .of_meter) (.refl s))
  | bitRateFixed ch rate => exact keeps (.ite (fun _ => .of_meter) (.refl s))
  | mark ch frame => exact keeps (.next (s.receive_keepsMeters _ _ _ fun u => u.heardMark_keepsMeters _ _))
  | tally ch frame =>
    exact keeps (.next (s.receive_keepsMeters _ _ _ fun u => u.takeRecord_keepsMeters _ _ fun _ => .of_meter))
  | allotment ch frame =>
    exact keeps (.next (s.receive_keepsMeters _ _ _ fun u => u.takeRecord_keepsMeters _ _ fun _ => .of_meter))
  | answerHeard ch frame => exact keeps (.next (s.receive_keepsMeters _ _ _ .refl))
  | queryResult ch frame =>
    exact keeps (.next (s.receive_keepsMeters _ _ _ fun u => u.query_keepsMeters _ fun _ => .of_meter))
  | queryLatest ch frame =>
    exact keeps (.next (s.receive_keepsMeters _ _ _ fun u => u.query_keepsMeters _ fun _ => .of_meter))
  | queryCampaign ch frame =>
    exact keeps (.next (s.receive_keepsMeters _ _ _ fun u => u.query_keepsMeters _ fun _ => .of_meter))
  | queryCondition ch frame => exact keeps (.next (s.receive_keepsMeters _ _ _ fun _ => .of_meter))
  | queryChannels ch frame =>
    exact keeps (.next (s.receive_keepsMeters _ _ _ fun u => u.query_keepsMeters _ fun _ => .of_meter))
  | unknownRequest ch frame => exact keeps (.next (s.receive_keepsMeters _ _ _ fun u => u.unknownRequest_keepsMeters frame))
  | orderZero ch frame => exact keeps (.next (s.receive_keepsMeters _ _ _ fun _ => .of_meter))
  | orderJob ch frame => exact keeps (.next (s.receive_keepsMeters _ _ _ fun _ => .of_meter))
  | receiverStart ch => exact keeps (.ite (fun _ => .of_meter) (.refl s))
  | inhibitedFrameEnd ch => exact keeps (execInhibitedFrameEnd_keepsMeters s ch)

/-- Settles O59: a failed poll, a valid reading and a load leave the meter entries formed, and no other command changes one but
by a hardware reset. -/
theorem stepKeepsTheMetersFormed : Obligations.StepKeepsTheMetersFormed := by
  unfold Obligations.StepKeepsTheMetersFormed
  intro s t hs h
  exact step_keeps (fun _ _ hu => hu) (fun i _ hu => exec_metersFormed hu i) hs h

end Sys2Proof.Machine
end

section
/-! SUPPORT. The commands of the meter port: sample ticks, requests, replies and failed polls (R43 to R58). -/

namespace Sys2Proof.Machine

open Sys2Proof

/-! ### Sample ticks (R48, R49, R58) -/

/-- A configured station takes a sample tick: an overrun while a round is in progress, else a round (R48, R58). -/
theorem State.takeSample_eq {s : State} {c : Settings} (hc : s.settings = some c) :
    s.takeSample = if s.meter.poll.isSome
      then { s with time := { s.time with sampleDue := false },
                    meter := { s.meter with overruns := grow s.meter.overruns 1 } }
      else State.pollFrom { s with time := { s.time with sampleDue := false } } c 0 := by
  unfold State.takeSample
  split
  · next hnone => cases hc.symm.trans hnone
  · next hsome =>
    obtain rfl := Option.some.inj (hc.symm.trans hsome)
    rfl

/-- Settles O17: a sample tick counts an overrun while a round is in progress, and else starts one at the first configured
entry. -/
theorem sampleTickStartsARoundOrOverruns : Obligations.SampleTickStartsARoundOrOverruns := by
  unfold Obligations.SampleTickStartsARoundOrOverruns
  intro s c hc hdue
  have hexec : exec .sampleTick s = .next s.takeSample := congrArg Host.Outcome.next (if_pos hdue)
  rw [hexec, State.takeSample_eq hc]
  refine ⟨fun hpoll hempty => ?empty, fun m hpoll hm hfirst => ?round, fun hpoll => by rw [if_pos hpoll]; rfl⟩
  case empty =>
    have hnone : c.meterFrom 0 = none := (c.meterFrom_eq_none_iff 0).mpr fun m _ => hempty m
    rw [if_neg (by simp [hpoll]), State.pollFrom, hnone, Option.map_none, ← hpoll]
  case round =>
    have hsome : c.meterFrom 0 = some m := (c.meterFrom_eq_some_iff 0 m).mpr ⟨⟨Nat.zero_le _, hm⟩, fun j hj _ => hfirst j hj⟩
    rw [if_neg (by simp [hpoll]), State.pollFrom, hsome, Option.map_some]

/-! ### Requests (R43, R44, R50) -/

/-- The request to a meter entry, with its check byte worked out (R44). -/
theorem MeterSetup.request_eq (setup : MeterSetup) : setup.request =
    { address := setup.address, select := setup.select, check := 255 - (setup.address + setup.select) } := by
  simp [MeterSetup.request, meterCheck_eq]

/-- A poll that waits for quiet sends its request on a quiet line (R50 step 1). -/
theorem State.sendRequest_of_waitQuiet {s : State} {c : Settings} {m : Fin 8} {setup : MeterSetup}
    (hc : s.settings = some c) (hm : c.meters[m] = some setup)
    (hp : s.meter.poll = some { entry := m, phase := .waitQuiet }) :
    s.sendRequest = { s with meter := { s.meter with
      poll := if 30 ≤ s.meter.quietTime then some { entry := m, phase := .sending setup.request } else s.meter.poll } } := by
  have hsend : s.sendRequest = if 30 ≤ s.meter.quietTime
      then { s with meter := { s.meter with poll := some { entry := m, phase := .sending setup.request } } } else s := by
    simp only [State.sendRequest, hc, hp, hm, Config.meterQuietBits]
  rw [hsend]
  split <;> rfl

/-- Without a poll that waits for quiet nothing is sent. -/
theorem State.sendRequest_of_not_waitQuiet {s : State}
    (h : ∀ m : Fin 8, s.meter.poll ≠ some { entry := m, phase := .waitQuiet }) : s.sendRequest = s := by
  unfold State.sendRequest
  split
  · next p _ hp =>
    split
    · next hphase _ => exact absurd (by rw [hp, ← hphase]) (h p.entry)
    · rfl
  · rfl

theorem exec_meterLineQuiet {s : State} (h : s.loader.phase ≠ .held) (elapsed : Nat) :
    exec (.meterLineQuiet elapsed) s = .next (s.meterQuiet elapsed).sendRequest := by
  show Host.Outcome.next (if s.inReset then s else _) = _
  rw [if_neg (fun hr => h (s.inReset_iff.mp hr))]

/-- A byte outside a reply window and a request starts the quiet anew (R43, R51). -/
theorem exec_strayMeterByte {s : State} (h : s.loader.phase ≠ .held) (ht : s.meter.transmitting = false)
    (hw : s.meter.inWindow = false) (byte : Option Byte) : exec (.strayMeterByte byte) s = .next s.byteArrived := by
  show Host.Outcome.next (if s.inReset || s.meter.transmitting || s.meter.inWindow then s else _) = _
  have hr : s.inReset = false := by simpa [State.inReset] using h
  simp [ht, hw, hr]

/-- What MTX and MDIR show outside a request: the idle level (R43). -/
theorem MeterPort.serialWave_of_idle {m : MeterPort} (h : m.transmitting = false) :
    m.serialWave = [] ∧ m.lineAtRest = some .high := by
  refine ⟨?_, by simp [MeterPort.lineAtRest, h]⟩
  unfold MeterPort.serialWave
  split
  · next hp => simp [MeterPort.transmitting, hp] at h
  · rfl

/-- Settles O18: the quiet lets the request out, and the poll's phase tells what the line does. -/
theorem requestGoesOutAndOpensItsWindow : Obligations.RequestGoesOutAndOpensItsWindow := by
  unfold Obligations.RequestGoesOutAndOpensItsWindow
  refine ⟨fun s c m setup elapsed hheld hc hm hp => ?quiet, fun s elapsed hheld hp => ?noPoll,
    fun m h => MeterPort.serialWave_of_idle h, fun s m request byte => ⟨fun hp => ?sending, fun hheld ht hw => ?stray⟩⟩
  case quiet =>
    rw [exec_meterLineQuiet hheld, State.sendRequest_of_waitQuiet (s := s.meterQuiet elapsed) hc hm hp,
      MeterSetup.request_eq]
    rfl
  case noPoll =>
    rw [exec_meterLineQuiet hheld, State.sendRequest_of_not_waitQuiet (s := s.meterQuiet elapsed) hp]
    rfl
  case sending =>
    have htransmitting : s.meter.transmitting = true := by simp [MeterPort.transmitting, hp]
    refine ⟨⟨{ s with meter := { s.meter with poll := some { entry := m, phase := .window request } } }, ?_, rfl,
      htransmitting, rfl⟩, ?_, by simp [MeterPort.lineAtRest, htransmitting], ?_⟩
    · show execRequestSent s = _
      simp only [execRequestSent, hp]
    · simp only [MeterPort.serialWave, hp]
      rfl
    · show Host.Outcome.next (if s.inReset || s.meter.transmitting || s.meter.inWindow then s else _) = _
      simp [htransmitting]
  case stray =>
    rw [exec_strayMeterByte hheld ht hw]
    rfl

/-! ### Failed polls (R45, R49, R50, R56) -/

/-- A configured meter entry that is FAILED sets METER (R56, R57). -/
theorem State.meterCondition_of_failed {s : State} {c : Settings} {m : Fin 8} (hc : s.settings = some c)
    (hm : c.meters[m].isSome = true) (hfailed : s.meter.entries[m].state = .failed) : s.meterCondition = true := by
  have hany : s.meterFailed = true := by
    simp only [State.meterFailed, hc, List.any_eq_true]
    exact ⟨m, List.mem_finRange m, by rw [hm, hfailed]; rfl⟩
  simp [State.meterCondition, hany]

/-- What a failed poll changes, with the poll that begins after it (R49, R56). -/
theorem State.pollFails_eq (s : State) (c : Settings) (m : Fin 8) :
    s.pollFails c m
      = { s with
          book := { s.book with
            entries := flagOpenedIf (s.meter.entries[m].state ≠ .failed ∧ 3 ≤ s.meter.entries[m].miss + 1)
              EntryFlags.withMeterFault s.book.entries },
          meter := { s.meter with entries := s.meter.entries.set m s.meter.entries[m].failPoll,
                                  failedPolls := grow s.meter.failedPolls 1,
                                  poll := (s.pollFails c m).meter.poll },
          alerts := (s.pollFails c m).alerts } := by
  rw [State.pollFails, State.failPoll_eq]
  rfl

/-- A reply that is no valid reading fails its poll, its eighth byte started one byte time ago (R45, R50). -/
theorem State.judgeReply_invalid {s : State} {c : Settings} {m : Fin 8} {setup : MeterSetup} {request : MeterRequest}
    {reply : MeterReply} (hc : s.settings = some c) (hm : c.meters[m] = some setup)
    (hp : s.meter.poll = some { entry := m, phase := .window request }) (hr : validReading setup request reply = none) :
    s.judgeReply reply = (s.byteStarted 10).pollFails c m := by
  simp only [State.judgeReply, hc, hp, hm, hr]
  rfl

theorem exec_quietWaitTimeout {s : State} {c : Settings} {m : Fin 8} (hc : s.settings = some c)
    (hp : s.meter.poll = some { entry := m, phase := .waitQuiet }) (hquiet : s.meter.quietTime < 30) :
    exec .quietWaitTimeout s = .next (s.pollFails c m) := by
  show execQuietWaitTimeout s = _
  simp only [execQuietWaitTimeout, hc, hp, Config.meterQuietBits, hquiet, if_true]

theorem exec_replyWindowClose {s : State} {c : Settings} {m : Fin 8} {request : MeterRequest} {window : WindowEnd}
    (hc : s.settings = some c) (hp : s.meter.poll = some { entry := m, phase := .window request })
    (hshort : window.received < 8) :
    exec (.replyWindowClose window) s
      = .next ((s.byteStarted (window.sinceStart.getD s.meter.quietTime)).pollFails c m) := by
  show execReplyWindowClose window s = _
  simp only [execReplyWindowClose, hc, hp, hshort, if_true]

/-- Settles O22: each of the three events fails the poll, with the quiet counted from the last byte that started. -/
theorem failedPollCountsAMiss : Obligations.FailedPollCountsAMiss := by
  unfold Obligations.FailedPollCountsAMiss
  intro s c m setup request reply window command quiet hc hm hevent
  let u := s.byteStarted quiet
  have hexec : exec command s = .next (u.pollFails c m) := by
    rcases hevent with ⟨rfl, hp, hquiet, rfl⟩ | ⟨rfl, hr, hp, rfl⟩ | ⟨rfl, hshort, hp, rfl⟩
    · exact exec_quietWaitTimeout hc hp hquiet
    · exact congrArg Host.Outcome.next (State.judgeReply_invalid hc hm hp hr)
    · exact exec_replyWindowClose hc hp hshort
  have hentries : (u.pollFails c m).meter.entries = s.meter.entries.set m s.meter.entries[m].failPoll := by
    rw [State.pollFails_eq]; rfl
  have hentry : (u.pollFails c m).meter.entries[m] = s.meter.entries[m].failPoll := by
    simp [hentries]
  obtain ⟨hnext, hlast⟩ := (u.failPoll m).pollFrom_next c m
  refine ⟨_, hexec, ?frame, ?flags, hentry, fun k hk => ?others, ?failedPolls, ?alarmSeen, ?overruns, ?discontinuities,
    ?quietTime, fun hthird => ?condition, hnext, hlast⟩
  case others => rw [hentries, meterEntries_set_other _ hk]
  case condition =>
    refine State.meterCondition_of_failed ((State.pollFails_settings _ _ _).trans hc) (by rw [hm]; rfl) ?_
    rw [hentry]
    exact if_pos hthird
  all_goals rw [State.pollFails_eq]; rfl

/-! ### Good polls (R47, R49, R52 to R57) -/

/-- The credit of a reading goes by the bank, the entries of the book and the meter entry. -/
theorem State.creditReading_congr {s t : State} (hb : t.bank = s.bank) (he : t.book.entries = s.book.entries)
    (hm : t.meter.entries = s.meter.entries) (c : Settings) (m : Fin 8) (setup : MeterSetup) (value : Nat) :
    (t.creditReading c m setup value).bank = (s.creditReading c m setup value).bank
      ∧ (t.creditReading c m setup value).book.entries = (s.creditReading c m setup value).book.entries := by
  unfold State.creditReading
  rw [hm]
  split
  · exact State.deliver_congr hb he _ _ _
  · exact ⟨hb, he⟩

/-- A valid reading makes a good poll, and the next poll begins (R49, R50 step 3). -/
theorem State.judgeReply_valid {s : State} {c : Settings} {m : Fin 8} {setup : MeterSetup} {request : MeterRequest}
    {reply : MeterReply} {value : Nat} {alarm : Bool} (hc : s.settings = some c) (hm : c.meters[m] = some setup)
    (hp : s.meter.poll = some { entry := m, phase := .window request })
    (hr : validReading setup request reply = some (value, alarm)) :
    s.judgeReply reply = (s.byteArrived.goodPoll c m setup value alarm).pollFrom c (m.val + 1) := by
  simp only [State.judgeReply, hc, hp, hm, hr]

/-- Settles O20: the good poll of the reading, then the next poll. -/
theorem validReplyIsCreditedOrRefused : Obligations.ValidReplyIsCreditedOrRefused := by
  unfold Obligations.ValidReplyIsCreditedOrRefused
  intro s c m setup request reply value alarm hc hm hp hr
  let u := s.byteArrived
  have hexec : exec (.replyReceived reply) s = .next ((u.goodPoll c m setup value alarm).pollFrom c (m.val + 1)) :=
    congrArg Host.Outcome.next (State.judgeReply_valid hc hm hp hr)
  obtain ⟨hbank, hcredited⟩ := State.creditReading_congr (s := s) (t := u) rfl rfl rfl c m setup value
  have hentries : (u.goodPoll c m setup value alarm).meter.entries = s.meter.entries.set m (goodEntry value alarm) := by
    rw [State.goodPoll_eq]; rfl
  obtain ⟨hnext, hlast⟩ := (u.goodPoll c m setup value alarm).pollFrom_next c m
  refine ⟨_, hexec, ?frame, ?bank, ?flags, ?entry, fun k hk => ?others, ?discontinuities, ?alarmSeen, ?failedPolls, ?overruns,
    ?quietTime, hnext, hlast⟩
  case bank =>
    rw [State.pollFrom_bank, State.goodPoll_eq]
    exact hbank
  case flags =>
    rw [State.pollFrom_book, State.goodPoll_eq, hcredited]
    rfl
  case entry =>
    show (u.goodPoll c m setup value alarm).meter.entries[m] = _
    simp [hentries, goodEntry]
  case others =>
    show (u.goodPoll c m setup value alarm).meter.entries[k] = _
    rw [hentries, meterEntries_set_other _ hk]
  all_goals rw [State.goodPoll_eq]; rfl

end Sys2Proof.Machine
end

section
/-! SUPPORT. What a step can do to the campaign totals, said once: a run of a few kinds of book steps (R61, R66 to R69, R71, R75,
R76, R78, R81). -/

namespace Sys2Proof.Machine

open Sys2Proof

/-! ### What the totals rest on -/

/-- The entry x has the figures of e that the campaign totals rest on: E and the residue of an apportioning part; the stations of a
LINE part and, where x is STRUCK, the carrier totals, shares and result of an entry already STRUCK. -/
structure Entry.SameFigures (x e : Entry) : Prop where
  apportioning : ∀ p, x.part = .apportioning p → ∃ q, e.part = .apportioning q ∧ p.e = q.e ∧ p.residue = q.residue
  line : ∀ p, x.part = .line p → ∃ q, e.part = .line q ∧ p.shares.map ShareItem.station = q.shares.map ShareItem.station
    ∧ (x.state = .struck → e.state = .struck ∧ x.carriers = e.carriers ∧ p = q)

/-- An entry that differs in its flags, its timer and the like alone. -/
theorem Entry.SameFigures.of_eq {x e : Entry} (hpart : x.part = e.part) (hstate : x.state = e.state)
    (hcarriers : x.carriers = e.carriers) : x.SameFigures e :=
  ⟨fun p hp => ⟨p, hpart ▸ hp, rfl, rfl⟩, fun p hp => ⟨p, hpart ▸ hp, rfl, fun h => ⟨hstate ▸ h, hcarriers, rfl⟩⟩⟩

theorem Entry.SameFigures.refl (e : Entry) : e.SameFigures e := .of_eq rfl rfl rfl

/-- The step from s to t leaves the campaign totals and what they rest on: it may take entries out and change what is no figure of
an entry. -/
structure State.KeepsTotals (s t : State) : Prop where
  phase : t.loader.phase ≠ .ended → s.loader.phase ≠ .ended
  settings : t.settings = s.settings
  stations : t.subscriptions.map Peer.station = s.subscriptions.map Peer.station
  allot : t.book.allot = s.book.allot
  energy : t.book.line.energy = s.book.line.energy
  shares : t.book.line.shares = s.book.line.shares
  eLine : t.book.line.eLine = s.book.line.eLine
  entries : ∀ x ∈ t.book.entries, ∃ e ∈ s.book.entries, x.SameFigures e

/-- A step that leaves the loader, the configuration, the subscription table and the book. -/
theorem State.KeepsTotals.of_book {s t : State} (hl : t.loader = s.loader := by simp) (hc : t.settings = s.settings := by simp)
    (hs : t.subscriptions = s.subscriptions := by simp) (hb : t.book = s.book := by simp) : s.KeepsTotals t := by
  refine ⟨fun h => hl ▸ h, hc, by rw [hs], by rw [hb], by rw [hb], by rw [hb], by rw [hb], fun x hx => ?_⟩
  exact ⟨x, hb ▸ hx, .refl x⟩

theorem State.KeepsTotals.refl (s : State) : s.KeepsTotals s := .of_book

/-- A step that changes entries alone in the book, none of them in its figures. -/
theorem State.KeepsTotals.of_entries {s t : State} (hl : t.loader = s.loader) (hc : t.settings = s.settings)
    (hs : t.subscriptions = s.subscriptions) (ha : t.book.allot = s.book.allot) (hline : t.book.line = s.book.line)
    (he : ∀ x ∈ t.book.entries, ∃ e ∈ s.book.entries, x.SameFigures e) : s.KeepsTotals t :=
  ⟨fun h => hl ▸ h, hc, by rw [hs], ha, by rw [hline], by rw [hline], by rw [hline], he⟩

/-- A step that flags the open entry. -/
theorem State.KeepsTotals.of_flagged {s t : State} (test : Prop) [Decidable test] (f : EntryFlags → EntryFlags)
    (hb : t.book = { s.book with entries := flagOpenedIf test f s.book.entries }) (hl : t.loader = s.loader := by simp)
    (hc : t.settings = s.settings := by simp) (hs : t.subscriptions = s.subscriptions := by simp) : s.KeepsTotals t := by
  refine .of_entries hl hc hs (by rw [hb]) (by rw [hb]) fun x hx => ?_
  rw [hb] at hx
  obtain ⟨e, he, rfl⟩ := List.mem_map.mp hx
  refine ⟨e, he, ?_⟩
  split <;> exact .of_eq rfl rfl rfl

/-- An entry with the figures of one in the book is put back. -/
theorem State.putEntry_keepsTotals {s : State} {e x : Entry} (he : e ∈ s.book.entries) (h : x.SameFigures e) :
    s.KeepsTotals (s.putEntry x) := by
  refine .of_entries rfl rfl rfl rfl rfl fun y hy => ?_
  rcases mem_replaceEntry hy with rfl | ⟨hy, -⟩
  · exact ⟨e, he, h⟩
  · exact ⟨y, hy, .refl y⟩

/-! ### The steps of the book -/

/-- The kinds of steps that a command makes the book of: one that keeps the totals and what they rest on, a hardware reset, a
configuration taken, the figures of a close, strikes of entries that the book held together, a zero boundary, a new entry, and the
revisions of a STRUCK entry. -/
inductive State.BookStep : State → State → Prop
  | keeps {s t : State} (h : s.KeepsTotals t) : State.BookStep s t
  | reset (s : State) (rest : List Instr) : State.BookStep s { State.reset with pending := rest }
  | configure {s : State} (h : s.loader.phase = .reading) (img : List Byte) (role : Role) (own : Option Nat) (clamped : Bool)
      (image : List Byte) (now : Nat) : State.BookStep s (s.configure (settingsOf img role own) own clamped image now)
  | close {s : State} {c : Settings} {e : Entry} (hc : s.settings = some c) (he : e ∈ s.book.entries) (kind : EntryKind) :
      State.BookStep s (s.fixFigures c (closedEntry s c kind e))
  | strikes {s : State} (es : List Entry) (h : ∀ e ∈ es, e ∈ s.book.entries) : State.BookStep s (es.foldl State.strike s)
  | zero (s : State) : State.BookStep s s.zeroBoundary
  | add (s : State) (number : Option Period) (cause : Cause) : State.BookStep s (s.addEntry number cause)
  | reviseLine {s : State} {e : Entry} {p : LinePart} {i : ShareItem} (he : e ∈ s.book.entries) (hs : e.state = .struck)
      (hp : e.part = .line p) (hi : i ∈ p.shares) (t : TakenShare) : State.BookStep s (s.reviseLine e p i t)
  | reviseAllot {s : State} {e : Entry} {p : AllotPart} (he : e ∈ s.book.entries) (hp : e.part = .apportioning p) (role : Role)
      (n : Period) (station basis : Nat) : State.BookStep s (s.reviseAllot role n e p station basis)

/-- Some book steps, one after the other. -/
def State.BookRun : State → State → Prop := Relation.ReflTransGen State.BookStep

theorem State.BookRun.refl (s : State) : s.BookRun s := Relation.ReflTransGen.refl

theorem State.BookRun.trans {s t u : State} (h : s.BookRun t) (k : t.BookRun u) : s.BookRun u :=
  Relation.ReflTransGen.trans h k

theorem State.BookStep.run {s t : State} (h : s.BookStep t) : s.BookRun t := .single h

theorem State.KeepsTotals.run {s t : State} (h : s.KeepsTotals t) : s.BookRun t := (State.BookStep.keeps h).run

/-- A step that may be left out. -/
theorem State.BookRun.ite {s t : State} (test : Prop) [Decidable test] (h : s.BookRun t) :
    s.BookRun (if test then t else s) := by
  split
  · exact h
  · exact .refl s

/-- What every book step keeps, a run of them keeps. -/
theorem State.BookRun.keeps {P : State → Prop} (hstep : ∀ s t : State, s.BookStep t → P s → P t) {s t : State}
    (h : s.BookRun t) (hs : P s) : P t := by
  induction h with
  | refl => exact hs
  | tail _ hlast ih => exact hstep _ _ hlast ih

theorem State.strike_run {s : State} {e : Entry} (he : e ∈ s.book.entries) : s.BookRun (s.strike e) :=
  (State.BookStep.strikes [e] (by simpa using he)).run

/-! ### Boundaries (R11, R66 to R69) -/

theorem mem_replaceEntry_self {e x : Entry} {es : List Entry} (he : e ∈ es) (h : e.number = x.number) :
    x ∈ replaceEntry x es :=
  List.mem_map.mpr ⟨e, he, by simp [h]⟩

theorem State.closeOpen_run (s : State) (kind : EntryKind) : s.BookRun (s.closeOpen kind) := by
  unfold State.closeOpen
  split
  · next c e hc he =>
    obtain ⟨-, hm⟩ := State.openEntry_some he
    have htold : s.BookRun ((s.fixFigures c (closedEntry s c kind e)).queueTally (closedEntry s c kind e)) :=
      (State.BookStep.close hc hm kind).run.trans (State.KeepsTotals.of_book).run
    have hclosed : closedEntry s c kind e
        ∈ ((s.fixFigures c (closedEntry s c kind e)).queueTally (closedEntry s c kind e)).book.entries := by
      rw [State.queueTally_book]
      exact mem_replaceEntry_self hm rfl
    dsimp only
    split
    · exact htold.trans (State.strike_run hclosed)
    · exact htold
  · exact .refl s

/-- Entries are taken out of the book. -/
theorem State.dropEntries_run (s : State) {entries : List Entry} (h : entries.Sublist s.book.entries) :
    s.BookRun { s with book := { s.book with entries := entries } } :=
  State.KeepsTotals.run (.of_entries rfl rfl rfl rfl rfl fun x hx => ⟨x, h.subset hx, .refl x⟩)

theorem State.evict_run (s : State) : s.BookRun s.evict := by
  unfold State.evict
  split
  · exact .refl s
  · split
    · exact .refl s
    · next e rest he =>
      have hstruck : s.BookRun (if e.state = .settling then s.strike e else s) := .ite _ (State.strike_run (by simp [he]))
      exact hstruck.trans (State.dropEntries_run _ (List.drop_sublist _ _))

theorem State.removeNumber_run (s : State) (number : Option Period) : s.BookRun (s.removeNumber number) := by
  unfold State.removeNumber
  split
  · exact .refl s
  · split
    · exact .refl s
    · next e he => exact (State.strike_run (State.held_some he).2).trans (State.dropEntries_run _ List.filter_sublist)

theorem State.openNew_run (s : State) (number : Option Period) (cause : Cause) : s.BookRun (s.openNew number cause) :=
  ((s.evict_run.trans (State.removeNumber_run _ number)).trans (.ite _ (State.BookStep.zero _).run)).trans
    (State.BookStep.add _ number cause).run

theorem State.recordJump_keepsTotals (s : State) (k : Nat) : s.KeepsTotals (s.recordJump k) := by
  obtain ⟨skipped, hline⟩ : ∃ n, (s.recordJump k).book.line = { s.book.line with skipped := n } := by
    show ∃ n, (if s.isLine then _ else _) = _
    split <;> exact ⟨_, rfl⟩
  exact ⟨id, rfl, rfl, rfl, by rw [hline], by rw [hline], by rw [hline], fun x hx => ⟨x, hx, .refl x⟩⟩

theorem State.boundary_run (s : State) (passed : Option Nat) (n : Period) (cause : Cause) :
    s.BookRun (s.boundary passed n cause) := by
  have hclear (u : State) : u.BookRun u.clearTimebase := (State.KeepsTotals.of_book).run
  have hbefore : s.BookRun (s.beforeOpen passed) := by
    cases passed with
    | none => exact (s.closeOpen_run _).trans (hclear _)
    | some k => exact ((s.closeOpen_run _).trans (State.recordJump_keepsTotals _ k).run).trans (hclear _)
  rw [State.boundary_eq]
  refine (hbefore.trans (State.openNew_run _ (some n) cause)).trans (State.KeepsTotals.run ?_)
  dsimp only
  split <;> exact .of_book

theorem State.ownExpiry_run (s : State) : s.BookRun s.ownExpiry := by
  unfold State.ownExpiry
  split
  · exact .refl s
  · next p _ => exact (s.boundary_run none (p + 1) .ownExpiry).trans (State.KeepsTotals.of_book).run

theorem State.soloEnd_run (s : State) : s.BookRun s.soloEnd :=
  (s.boundary_run none 1 .soloStart).trans (by unfold State.soloEnd; exact (State.KeepsTotals.of_book).run)

theorem State.heardMark_run (s : State) (n : Period) (station : Nat) : s.BookRun (s.heardMark n station) := by
  unfold State.heardMark
  split
  · exact s.boundary_run _ _ _
  · split; · exact (State.KeepsTotals.of_book).run
    split; · exact s.boundary_run _ _ _
    split; · exact s.boundary_run _ _ _
    exact State.KeepsTotals.run (.of_book rfl rfl rfl rfl)
  · exact .refl s

theorem State.evidence_run (s : State) (n : Period) (station : Nat) : s.BookRun (s.evidence n station) := by
  unfold State.evidence
  split
  · exact s.boundary_run _ _ _
  · split; · exact s.boundary_run _ _ _
    split; · exact s.boundary_run _ _ _
    exact .refl s
  · exact .refl s

/-! ### Base ticks (R8, R70) -/

theorem State.discharge_run (s : State) : s.BookRun s.discharge := by
  have hstrikes : s.BookRun (s.waitsOver.foldl State.strike s) :=
    (State.BookStep.strikes _ fun e he => s.waitsOver_sublist.subset he).run
  exact ((hstrikes.trans (.ite _ (State.ownExpiry_run _))).trans (.ite _ (State.soloEnd_run _))).trans
    (.ite _ (State.KeepsTotals.of_book).run)

theorem State.overdue_run (s : State) : s.BookRun s.overdue := .ite _ s.discharge_run

theorem State.countTick_keepsTotals (s : State) : s.KeepsTotals s.countTick := by
  have htick (e : Entry) : e.tick.SameFigures e := by unfold Entry.tick; split <;> exact .of_eq rfl rfl rfl
  unfold State.countTick
  split
  · exact .refl s
  · split
    · refine .of_entries rfl rfl rfl rfl rfl fun x hx => ?_
      obtain ⟨e, he, rfl⟩ := List.mem_map.mp hx
      exact ⟨e, he, htick e⟩
    · exact .refl s

theorem State.baseTick_run (s : State) : s.BookRun s.baseTick := s.overdue_run.trans (State.countTick_keepsTotals _).run

theorem State.secondPulse_run (s : State) : s.BookRun s.secondPulse := by
  unfold State.secondPulse
  split
  · exact .refl s
  · exact (s.overdue_run.trans (State.KeepsTotals.of_book (t := s.overdue.toExternal)).run).trans
      (State.countTick_keepsTotals _).run

/-! ### Tallies and allotments (R85 to R92, R110 to R116) -/

theorem State.dropLate_keepsTotals (s : State) : s.KeepsTotals s.dropLate :=
  .of_entries rfl rfl rfl rfl rfl fun x hx => ⟨x, hx, .refl x⟩

theorem State.takeRecord_run (s : State) (n : Period) (station : Nat) {take : State → State}
    (htake : ∀ u : State, u.BookRun (take u)) : s.BookRun (s.takeRecord n station take) := by
  rcases s.takeRecord_cases n station take with ⟨-, h⟩ | ⟨-, h⟩ <;> rw [h]
  · exact (s.evidence_run n station).trans (State.dropLate_keepsTotals _).run
  · exact (s.evidence_run n station).trans (htake _)

/-- An entry with the figures of one in the book is put back, and then strikes where the test holds. -/
theorem State.putAndStrike_run {s : State} {e x : Entry} (he : e ∈ s.book.entries) (h : x.SameFigures e)
    (hn : e.number = x.number) {test : Prop} [Decidable test] :
    s.BookRun (if test then (s.putEntry x).strike x else s.putEntry x) :=
  (State.putEntry_keepsTotals he h).run.trans (.ite _ (State.strike_run (mem_replaceEntry_self he hn)))

theorem State.tallyToBook_run (s : State) (f : Frame) : s.BookRun (s.tallyToBook f) := by
  unfold State.tallyToBook
  split
  · next c e _ he =>
    obtain ⟨-, hm⟩ := State.held_some he
    split
    · exact .refl s
    · next p hp =>
      have hlast : s.BookRun (s.updateLastBasis f.source.toNat (tallyBasis c.basis f)) := (State.KeepsTotals.of_book).run
      refine hlast.trans ?_
      dsimp only
      split
      · exact .refl _
      · have htaken (items : List ContributorItem) (b : Nat) :
            ({ e with part := .apportioning { p with items := items, b := b } } : Entry).SameFigures e := by
          refine ⟨?_, by rintro q ⟨⟩⟩
          rintro q ⟨⟩
          exact ⟨p, hp, rfl, rfl⟩
        exact State.putAndStrike_run (s := s.updateLastBasis _ _) hm (htaken _ _) rfl
      · unfold State.tallyStruck
        split
        · exact .refl _
        · split
          · exact .refl _
          · split
            · exact (State.BookStep.reviseAllot (s := s.updateLastBasis _ _) hm hp _ _ _ _).run
            · exact (State.dropLate_keepsTotals _).run
  · exact s.dropLate_keepsTotals.run

/-- Replacing an item of a share list leaves the stations. -/
theorem replaceShare_stations (i : ShareItem) (items : List ShareItem) :
    (replaceShare i items).map ShareItem.station = items.map ShareItem.station := by
  rw [replaceShare, List.map_map]
  refine List.map_congr_left fun x _ => ?_
  by_cases h : x.station = i.station <;> simp [h]

theorem State.allotmentToBook_run (s : State) (f : Frame) : s.BookRun (s.allotmentToBook f) := by
  unfold State.allotmentToBook
  split
  · exact s.dropLate_keepsTotals.run
  · next e he =>
    obtain ⟨-, hm⟩ := State.held_some he
    split
    · exact .refl s
    · next p hp =>
      split
      · exact (State.KeepsTotals.of_book).run
      · next t _ =>
        split
        · exact .refl s
        · next i hi =>
          split
          · exact .refl s
          · next hstate =>
            have htaken : ({ e with part := .line { p with shares := replaceShare (receivedItem i.station t) p.shares } }
                : Entry).SameFigures e := by
              refine ⟨by rintro q ⟨⟩, ?_⟩
              rintro q ⟨⟩
              exact ⟨p, hp, replaceShare_stations _ _, fun h => by cases hstate.symm.trans h⟩
            unfold State.allotmentSettling
            dsimp only
            split
            · exact State.putAndStrike_run hm htaken rfl
            · exact .ite _ (State.putEntry_keepsTotals hm htaken).run
          · next hstate =>
            exact .ite _ (State.BookStep.reviseLine hm hstate hp (List.mem_of_find?_eq_some hi) t).run

end Sys2Proof.Machine
end

section
/-! SUPPORT. Every command is a run of book steps. -/

namespace Sys2Proof.Machine

open Sys2Proof

/-! ### Measurement and the meter port -/

theorem State.deliver_keepsTotals (s : State) (c : Settings) (source : ChannelSource) (amount : Nat) :
    s.KeepsTotals (s.deliver c source amount) := by
  rcases s.deliver_cases c source amount with ⟨-, h⟩ | ⟨i, -, h⟩ <;> rw [h]
  · exact .refl s
  · exact .of_flagged _ _ (by rw [State.creditChannel_eq])

theorem State.energyPulse_run (s : State) (line : Fin 8) : s.BookRun (s.energyPulse line) := by
  unfold State.energyPulse
  split
  · exact .refl s
  · exact (s.deliver_keepsTotals _ _ _).run

theorem State.flagOpen_keepsTotals (s : State) (f : EntryFlags → EntryFlags) : s.KeepsTotals (s.flagOpen f) :=
  .of_flagged True f (by rw [flagOpenedIf_pos trivial]; rfl)

theorem State.saturateIf_run (s : State) (test : Bool) : s.BookRun (s.saturateIf test) :=
  (State.KeepsTotals.of_flagged (test = true) EntryFlags.withSaturated (by rw [State.saturateIf_eq])).run

theorem State.cutPulse_run (s : State) : s.BookRun s.cutPulse := by
  refine .trans ?_ (State.saturateIf_run _ _)
  exact State.KeepsTotals.run (.of_book rfl rfl rfl rfl)

theorem State.rejectPulse_run (s : State) : s.BookRun s.rejectPulse := by
  refine .trans ?_ (State.saturateIf_run _ _)
  exact State.KeepsTotals.run (.of_book rfl rfl rfl rfl)

theorem State.setLevel_run (s : State) (line : Fin 8) (edge : Edge) : s.BookRun (s.setLevel line edge) :=
  (State.KeepsTotals.of_book).run

theorem State.refreshAlerts_run (s : State) : s.BookRun s.refreshAlerts := (State.KeepsTotals.of_book).run

theorem State.faultChange_run (s : State) (line : Fin 8) (edge : Edge) : s.BookRun (s.faultChange line edge) := by
  unfold State.faultChange
  dsimp only
  split
  · exact ((s.setLevel_run line edge).trans (State.flagOpen_keepsTotals _ _).run).trans (State.refreshAlerts_run _)
  · exact (s.setLevel_run line edge).trans (State.refreshAlerts_run _)

theorem State.goodPoll_run (s : State) (c : Settings) (m : Fin 8) (setup : MeterSetup) (value : Nat) (alarm : Bool) :
    s.BookRun (s.goodPoll c m setup value alarm) := by
  have hreading (u : State) (delta : Nat) : u.BookRun (u.takeReading c m setup delta) := by
    rcases u.takeReading_cases c m setup delta with ⟨-, h⟩ | ⟨-, h⟩ <;> rw [h]
    · exact (u.deliver_keepsTotals _ _ _).run
    · exact (u.flagOpen_keepsTotals _).run.trans (State.KeepsTotals.run (.of_book rfl rfl rfl rfl))
  have hend (u : State) : u.BookRun ((u.setMeter m (goodEntry value alarm)).takeAlarm alarm).refreshAlerts :=
    State.KeepsTotals.run (.of_flagged (alarm = true) EntryFlags.withMeterFault (by rw [State.takeAlarm_eq]; rfl))
  unfold State.goodPoll
  dsimp only
  refine .trans ?_ (hend _)
  split
  · exact .refl s
  · split
    · exact (s.flagOpen_keepsTotals _).run.trans (hreading _ _)
    · exact hreading s _

theorem State.pollFrom_run (s : State) (c : Settings) (place : Nat) : s.BookRun (s.pollFrom c place) :=
  (State.KeepsTotals.of_book).run

theorem State.pollFails_run (s : State) (c : Settings) (m : Fin 8) : s.BookRun (s.pollFails c m) := by
  have hfail : s.KeepsTotals (s.failPoll m) :=
    .of_flagged (s.meter.entries[m].state ≠ .failed ∧ 3 ≤ s.meter.entries[m].miss + 1) EntryFlags.withMeterFault
      (by rw [State.failPoll_eq])
  exact hfail.run.trans (State.pollFrom_run _ _ _)

theorem State.judgeReply_run (s : State) (reply : MeterReply) : s.BookRun (s.judgeReply reply) := by
  have harrived : s.BookRun s.byteArrived := (State.KeepsTotals.of_book).run
  unfold State.judgeReply
  split
  · split
    · dsimp only
      split
      · exact (harrived.trans (State.goodPoll_run _ _ _ _ _ _)).trans (State.pollFrom_run _ _ _)
      · exact harrived.trans (State.pollFails_run _ _ _)
    · exact .refl s
  · exact .refl s

/-! ### Requests and start-up -/

theorem State.query_run (s : State) (f : Frame) {k : State → State} (hk : ∀ u : State, u.BookRun (k u)) :
    s.BookRun (s.query f k) := by
  have hcount : s.BookRun s.countQuery := (State.KeepsTotals.of_book).run
  exact State.query_keeps (hcount.trans (State.KeepsTotals.of_book).run) (hcount.trans (hk _))

theorem State.unknownRequest_run (s : State) (f : Frame) :
    s.BookRun (if isOrder f then s.unknownOrder f else s.unknownQuery f) := by
  split
  · exact (State.KeepsTotals.of_book).run
  · exact s.query_run f fun u => (State.KeepsTotals.of_book).run

theorem State.answerOrder_run (s : State) (f : Frame) (outcome : RequestOutcome) (body : List Byte) :
    s.BookRun (s.answerOrder f outcome body) := (State.KeepsTotals.of_book).run

theorem State.takeZero_run (s : State) (f : Frame) : s.BookRun (s.takeZero f) := by
  unfold State.takeZero
  split
  · exact (State.KeepsTotals.of_book).run
  · have hpending : s.BookRun { s.countAccepted with book := { s.book with zeroPending := true } } :=
      State.KeepsTotals.run (.of_entries rfl rfl rfl rfl rfl fun x hx => ⟨x, hx, .refl x⟩)
    exact hpending.trans (State.answerOrder_run _ _ _ _)

theorem State.takeJob_run (s : State) (f : Frame) : s.BookRun (s.takeJob f) := by
  unfold State.takeJob
  split
  · exact (State.KeepsTotals.of_book).run
  · have hjob : s.BookRun { s.countAccepted with bank := { s.bank with job := orderJob f } } :=
      State.KeepsTotals.run (.of_book rfl rfl rfl rfl)
    exact (hjob.trans (State.flagOpen_keepsTotals _ _).run).trans (State.answerOrder_run _ _ _ _)

/-- A step that leaves the configuration, the subscription table and the book, and from a phase before the end of loading. -/
theorem State.KeepsTotals.of_loading {s t : State} (hp : s.loader.phase ≠ .ended) (hc : t.settings = s.settings)
    (hs : t.subscriptions = s.subscriptions) (hb : t.book = s.book) : s.KeepsTotals t :=
  ⟨fun _ => hp, hc, by rw [hs], by rw [hb], by rw [hb], by rw [hb], by rw [hb], fun x hx => ⟨x, hb ▸ hx, .refl x⟩⟩

theorem State.loadSucceeds_run {s : State} (h : s.loader.phase = .reading) (image : List Byte) (role : Role) (now : Nat) :
    s.BookRun (s.loadSucceeds image role now) := by
  have hconfigured := State.BookStep.configure h image role (settleOwn image s.loader.straps)
    (imageClamped image role (settleOwn image s.loader.straps)) image now
  exact (hconfigured.run.trans (State.openNew_run _ none .start)).trans (State.KeepsTotals.run (.of_book rfl rfl rfl rfl))

/-! ### The commands -/

theorem State.receive_run (s : State) (row : FrameRow) (ch : Chan) (f : Frame) {k : State → State}
    (hk : ∀ u : State, u.BookRun (k u)) : s.BookRun (s.receive row ch f k) := by
  have hheard : s.BookRun (s.heard ch f) := State.KeepsTotals.run (.of_book rfl rfl rfl rfl)
  exact State.receive_keeps (.refl s) (State.KeepsTotals.of_book).run (State.KeepsTotals.of_book).run
    (State.KeepsTotals.of_book).run hheard (hheard.trans (hk _))

section
variable (s : State)

theorem execImageReadAttempt_run (memory : List Byte) (now : Nat) :
    EndsIn s.BookRun (execImageReadAttempt memory now s) := by
  refine .ite (fun h => ?_) (.refl s)
  have hloading : s.loader.phase ≠ .ended := by simp [h]
  split
  · split
    · exact State.loadSucceeds_run h _ _ _
    · exact State.KeepsTotals.run (.of_loading hloading (by simp) (by simp) (by simp))
  · exact State.KeepsTotals.run (.of_loading hloading (by simp) (by simp) (by simp))

theorem execWaitTimerExpiry_run (number : Period) : EndsIn s.BookRun (execWaitTimerExpiry number s) := by
  unfold execWaitTimerExpiry
  split
  · next he => exact .ite (fun _ => State.strike_run (State.held_some he).2) (.refl s)
  · exact .next (.refl s)

theorem execQuietWaitTimeout_run : EndsIn s.BookRun (execQuietWaitTimeout s) := by
  unfold execQuietWaitTimeout
  split
  · exact .ite (fun _ => s.pollFails_run _ _) (.refl s)
  · exact .next (.refl s)

theorem execRequestSent_run : EndsIn s.BookRun (execRequestSent s) := by
  unfold execRequestSent
  split
  · exact .next (State.KeepsTotals.run (.of_book rfl rfl rfl rfl))
  · exact .next (.refl s)

theorem execReplyWindowClose_run (window : WindowEnd) : EndsIn s.BookRun (execReplyWindowClose window s) := by
  unfold execReplyWindowClose
  split
  · exact .ite (fun _ => .trans (State.KeepsTotals.run .of_book) (State.pollFails_run _ _ _)) (.refl s)
  · exact .next (.refl s)

theorem execFrameGoneOutWhole_run (ch : Chan) : EndsIn s.BookRun (execFrameGoneOutWhole ch s) := by
  unfold execFrameGoneOutWhole
  split
  · exact .next (.refl s)
  · exact .next (by split; exacts [.refl s, State.KeepsTotals.run (.of_book rfl rfl rfl rfl)])

theorem execEchoMismatch_run (ch : Chan) : EndsIn s.BookRun (execEchoMismatch ch s) := by
  unfold execEchoMismatch
  split
  · exact .next (.refl s)
  · refine .next ?_
    split
    · exact .refl s
    · split <;> exact State.KeepsTotals.run (.of_book rfl rfl rfl rfl)

theorem execInhibitedFrameEnd_run (ch : Chan) : EndsIn s.BookRun (execInhibitedFrameEnd ch s) := by
  unfold execInhibitedFrameEnd
  split
  · exact .next (.refl s)
  · exact .ite (fun _ => State.KeepsTotals.run (.of_book rfl rfl rfl rfl)) (.refl s)

/-- Every command is a run of book steps. -/
theorem exec_run (i : Instr) : EndsIn s.BookRun (exec i s) := by
  have same {t : State} (hl : t.loader = s.loader := by simp) (hc : t.settings = s.settings := by simp)
      (hs : t.subscriptions = s.subscriptions := by simp) (hb : t.book = s.book := by simp) : s.BookRun t :=
    State.KeepsTotals.run (.of_book hl hc hs hb)
  cases i with
  | hardwareReset => exact .next (State.BookStep.reset s s.pending).run
  | resetRelease straps levels inhibitA inhibitB =>
    refine .ite (fun h => State.KeepsTotals.run (.of_loading ?_ rfl rfl rfl)) (.refl s)
    simp [s.inReset_iff.mp h]
  | imageReadAttempt memory now => exact execImageReadAttempt_run s memory now
  | retryWaitEnd => exact .ite (fun h => State.KeepsTotals.run (.of_loading (by simp [h]) rfl rfl rfl)) (.refl s)
  | internalSecond => exact .next (by split; exacts [.refl s, s.baseTick_run])
  | secondPulse line => exact .ite (fun _ => (s.setLevel_run _ _).trans (State.secondPulse_run _)) (.refl s)
  | lossWatchExpiry =>
    refine .ite (fun _ => .trans (.trans ?_ (State.flagOpen_keepsTotals _ _).run) (State.refreshAlerts_run _)) (.refl s)
    exact same rfl rfl rfl rfl
  | periodExpiry => exact .ite (fun _ => s.ownExpiry_run) (.refl s)
  | soloWaitEnd => exact .ite (fun _ => s.soloEnd_run) (.refl s)
  | sampleTick => exact .ite (fun _ => same) (.refl s)
  | waitTimerExpiry number => exact execWaitTimerExpiry_run s number
  | alertPulseEnd alert => cases alert <;> exact .next (same rfl rfl rfl rfl)
  | energyPulse line => exact .ite (fun _ => (s.setLevel_run _ _).trans (State.energyPulse_run _ _)) (.refl s)
  | cutPulse line => exact .ite (fun _ => (s.setLevel_run _ _).trans (State.cutPulse_run _)) (.refl s)
  | rejectPulse line => exact .ite (fun _ => (s.setLevel_run _ _).trans (State.rejectPulse_run _)) (.refl s)
  | runningLevelChange line edge => exact .ite (fun _ => s.setLevel_run _ _) (.refl s)
  | faultLevelChange line edge => exact .ite (fun _ => s.faultChange_run _ _) (.refl s)
  | debouncedEdge line edge time => exact .ite (fun _ => same) (.refl s)
  | meterLineQuiet elapsed => exact .next (by split; exacts [.refl s, same])
  | quietWaitTimeout => exact execQuietWaitTimeout_run s
  | requestSent => exact execRequestSent_run s
  | replyReceived reply => exact .next (s.judgeReply_run reply)
  | replyWindowClose window => exact execReplyWindowClose_run s window
  | strayMeterByte byte => exact .next (by split; exacts [.refl s, same])
  | frameBegin ch elapsed => exact .next (by split; exacts [.refl s, same])
  | defer ch => exact .next (by split; exacts [.refl s, same rfl rfl rfl rfl])
  | frameGoneOutWhole ch => exact execFrameGoneOutWhole_run s ch
  | echoMismatch ch => exact execEchoMismatch_run s ch
  | inhibitActive ch => exact .next (by split; exacts [.refl s, same rfl rfl rfl rfl])
  | inhibitReleased ch => exact .ite (fun _ => same rfl rfl rfl rfl) (.refl s)
  | receiveError ch raw => exact .ite (fun _ => same) (.refl s)
  | bitRateFixed ch rate => exact .ite (fun _ => same rfl rfl rfl rfl) (.refl s)
  | mark ch frame => exact .next (s.receive_run _ _ _ fun u => u.heardMark_run _ _)
  | tally ch frame => exact .next (s.receive_run _ _ _ fun u => u.takeRecord_run _ _ fun v => v.tallyToBook_run frame)
  | allotment ch frame =>
    exact .next (s.receive_run _ _ _ fun u => u.takeRecord_run _ _ fun v => v.allotmentToBook_run frame)
  | answerHeard ch frame => exact .next (s.receive_run _ _ _ .refl)
  | queryResult ch frame =>
    exact .next (s.receive_run _ _ _ fun u => u.query_run _ fun _ => (State.KeepsTotals.of_book).run)
  | queryLatest ch frame =>
    exact .next (s.receive_run _ _ _ fun u => u.query_run _ fun _ => (State.KeepsTotals.of_book).run)
  | queryCampaign ch frame =>
    exact .next (s.receive_run _ _ _ fun u => u.query_run _ fun _ => (State.KeepsTotals.of_book).run)
  | queryCondition ch frame => exact .next (s.receive_run _ _ _ fun _ => State.KeepsTotals.run .of_book)
  | queryChannels ch frame =>
    exact .next (s.receive_run _ _ _ fun u => u.query_run _ fun _ => (State.KeepsTotals.of_book).run)
  | unknownRequest ch frame => exact .next (s.receive_run _ _ _ fun u => u.unknownRequest_run frame)
  | orderZero ch frame => exact .next (s.receive_run _ _ _ fun u => u.takeZero_run frame)
  | orderJob ch frame => exact .next (s.receive_run _ _ _ fun u => u.takeJob_run frame)
  | receiverStart ch => exact .ite (fun _ => same rfl rfl rfl rfl) (.refl s)
  | inhibitedFrameEnd ch => exact execInhibitedFrameEnd_run s ch

end

/-- What every book step keeps and no waiting command changes, every step of the station keeps. -/
theorem step_keeps_of_bookStep {P : State → Prop}
    (hpending : ∀ (s : State) (rest : List Instr), P s → P { s with pending := rest })
    (hstep : ∀ s t : State, s.BookStep t → P s → P t) {s t : State} (hs : P s) (h : step s = .next t) : P t :=
  step_keeps hpending (fun i u hu => (exec_run u i).mono fun _ hrun => hrun.keeps hstep hu) hs h

end Sys2Proof.Machine
end

section
/-! SUPPORT. What strikes and revisions add to the campaign totals (R75 to R79). -/

namespace Sys2Proof.Machine

open Sys2Proof

/-! ### Figures as totals (R77) -/

theorem total_add (a b : Nat) : total (a + b) = total a + total b := BitVec.ofNat_add a b

/-- A part and what it leaves of a figure make up the figure, as totals. -/
theorem total_sub_add {a b : Nat} (h : b ≤ a) : total (a - b) + total b = total a := by
  rw [← total_add, Nat.sub_add_cancel h]

@[simp] theorem total_zero : total 0 = 0 := rfl

/-! ### The apportioning totals (R76, R79) -/

/-- Measured Wh equal allotted plus undistributed Wh (R76). -/
def AllotTotals.balanced (t : AllotTotals) : Prop := t.measured = t.allotted + t.undistributed

/-- A strike splits the E it adds to the measured Wh into the shares and the residue (R76). -/
theorem AllotTotals.balanced.addStrike {t : AllotTotals} (h : t.balanced) (numbered : Bool) {p : AllotPart}
    (hp : p.residueWithin) : (t.addStrike numbered p).balanced := by
  have hsplit := total_sub_add hp
  unfold AllotTotals.balanced at h ⊢
  simp only [AllotTotals.addStrike, h, ← hsplit]
  ring

/-- A revision moves Wh between the shares and the residue of one E (R79). -/
theorem AllotTotals.balanced.addRevision {t : AllotTotals} (h : t.balanced) {old new : AllotPart} (he : new.e = old.e)
    (hold : old.residueWithin) (hnew : new.residueWithin) : (t.addRevision old new).balanced := by
  have hsplit := (total_sub_add hold).trans ((congrArg total he).symm.trans (total_sub_add hnew).symm)
  unfold AllotTotals.balanced at h ⊢
  simp only [AllotTotals.addRevision, h]
  linear_combination hsplit

/-- The residue of worked-out items is what the shares leave of E (R95). -/
theorem AllotPart.withItems_residueWithin (p : AllotPart) (role : Role) (items : List ContributorItem) :
    (p.withItems role items).residueWithin := Nat.sub_le _ _

/-! ### The LINE totals (R75) -/

theorem carrierSum_cons (c : Carrier × Nat) (carriers : List (Carrier × Nat)) :
    carrierSum (c :: carriers) = c.2 + carrierSum carriers := by simp [carrierSum]

theorem shareSum_cons (i : ShareItem) (items : List ShareItem) : shareSum (i :: items) = i.share + shareSum items := by
  simp [shareSum]

theorem EnergyTotals.sum_add (t : EnergyTotals) (k : Carrier) (n : Nat) : (t.add k n).sum = t.sum + total n := by
  cases k <;> simp only [EnergyTotals.add, EnergyTotals.sum] <;> ring

/-- The energy totals grow together by the sum of the carrier totals. -/
theorem EnergyTotals.sum_addAll (t : EnergyTotals) (carriers : List (Carrier × Nat)) :
    (t.addAll carriers).sum = t.sum + total (carrierSum carriers) := by
  unfold EnergyTotals.addAll
  induction carriers generalizing t with
  | nil => simp [carrierSum]
  | cons c carriers ih =>
    rw [List.foldl_cons, ih, EnergyTotals.sum_add, carrierSum_cons, total_add]
    ring

theorem shareTotalSum_eq (shares : List (Nat × Total)) : shareTotalSum shares = (shares.map Prod.snd).sum := by
  rw [shareTotalSum, ← List.sum_eq_foldl]

/-- The table of share totals keeps its stations. -/
@[simp] theorem addShareTotal_stations (station : Nat) (n : Total) (shares : List (Nat × Total)) :
    (addShareTotal station n shares).map Prod.fst = shares.map Prod.fst := by
  rw [addShareTotal, List.map_map]
  refine List.map_congr_left fun x _ => ?_
  dsimp only [Function.comp]
  split <;> rfl

theorem addShareTotal_of_not_mem {station : Nat} {shares : List (Nat × Total)} (h : station ∉ shares.map Prod.fst) (n : Total) :
    addShareTotal station n shares = shares := by
  refine (List.map_congr_left fun x hx => if_neg fun hn => h ?_).trans (List.map_id shares)
  exact hn ▸ List.mem_map_of_mem hx

/-- The share totals grow together by what the total of a station of the table grows by. -/
theorem shareTotalSum_addShareTotal {station : Nat} {shares : List (Nat × Total)} (hnodup : (shares.map Prod.fst).Nodup)
    (h : station ∈ shares.map Prod.fst) (n : Total) :
    shareTotalSum (addShareTotal station n shares) = shareTotalSum shares + n := by
  rw [shareTotalSum_eq, shareTotalSum_eq]
  induction shares with
  | nil => simp at h
  | cons x shares ih =>
    rw [List.map_cons, List.nodup_cons] at hnodup
    rw [addShareTotal, List.map_cons, ← addShareTotal, List.map_cons, List.sum_cons, List.map_cons, List.sum_cons]
    by_cases hx : x.1 = station
    · rw [addShareTotal_of_not_mem (hx ▸ hnodup.1), if_pos hx]
      ring
    · rw [if_neg hx, ih hnodup.2 (by simpa [Ne.symm hx] using h)]
      ring

theorem addShares_cons (i : ShareItem) (items : List ShareItem) (shares : List (Nat × Total)) :
    addShares (i :: items) shares = addShares items (addShareTotal i.station (total i.share) shares) := rfl

@[simp] theorem addShares_stations (items : List ShareItem) (shares : List (Nat × Total)) :
    (addShares items shares).map Prod.fst = shares.map Prod.fst := by
  induction items generalizing shares with
  | nil => rfl
  | cons i items ih => rw [addShares_cons, ih, addShareTotal_stations]

/-- The share totals grow together by the sum of the shares, each station being one of the table. -/
theorem shareTotalSum_addShares {shares : List (Nat × Total)} (hnodup : (shares.map Prod.fst).Nodup) {items : List ShareItem}
    (h : ∀ i ∈ items, i.station ∈ shares.map Prod.fst) :
    shareTotalSum (addShares items shares) = shareTotalSum shares + total (shareSum items) := by
  induction items generalizing shares with
  | nil => simp [addShares, shareSum]
  | cons i items ih =>
    rw [List.forall_mem_cons] at h
    rw [addShares_cons, ih (by simpa using hnodup) (by simpa using h.2), shareTotalSum_addShareTotal hnodup h.1,
      shareSum_cons, total_add]
    ring

/-- Replacing an item moves a sum over the items from the old item's summand to the new one's. -/
theorem sum_replaceShare (figure : ShareItem → Nat) {i old : ShareItem} {items : List ShareItem}
    (hnodup : (items.map ShareItem.station).Nodup) (hold : old ∈ items) (hstation : i.station = old.station) :
    ((replaceShare i items).map figure).sum + figure old = (items.map figure).sum + figure i := by
  induction items with
  | nil => simp at hold
  | cons x items ih =>
    rw [List.map_cons, List.nodup_cons] at hnodup
    rw [replaceShare, List.map_cons, ← replaceShare, List.map_cons, List.sum_cons, List.map_cons, List.sum_cons]
    rcases List.mem_cons.mp hold with rfl | hold
    · have hrest : replaceShare i items = items :=
        (List.map_congr_left fun y hy => if_neg fun hn : y.station = i.station =>
          hnodup.1 (hstation ▸ hn ▸ List.mem_map_of_mem hy)).trans (List.map_id items)
      rw [if_pos hstation.symm, hrest]
      omega
    · have hx : x.station ≠ i.station := fun hn => hnodup.1 (hn ▸ hstation ▸ List.mem_map_of_mem hold)
      have hrest := ih hnodup.2 hold
      rw [if_neg hx]
      omega

/-- The E_line total is the sum of the energy totals and the share totals (R75). -/
def LineTotals.balanced (t : LineTotals) : Prop := t.eLine = t.energy.sum + shareTotalSum t.shares

theorem LineTotals.zero_balanced (stations : List Nat) : (LineTotals.zero stations).balanced := by
  have hshares : shareTotalSum (stations.map fun n => (n, (0 : Total))) = 0 := by
    simp [shareTotalSum_eq, Function.comp_def]
  show (0 : Total) = EnergyTotals.zero.sum + shareTotalSum (stations.map fun n => (n, (0 : Total)))
  rw [hshares]
  rfl

/-- A strike adds the entry's E_line, which is the sum of its carrier totals and its shares (R75, R120). -/
theorem LineTotals.balanced.addStrike {t : LineTotals} (h : t.balanced) (hnodup : (t.shares.map Prod.fst).Nodup) (e : Entry)
    {p : LinePart} {r : LineResult} (hstations : ∀ i ∈ p.shares, i.station ∈ t.shares.map Prod.fst)
    (hr : r.eLine = carrierSum e.carriers + shareSum p.shares) : (t.addStrike e p r).balanced := by
  unfold LineTotals.balanced at h ⊢
  simp only [LineTotals.addStrike, h, hr, total_add, EnergyTotals.sum_addAll, shareTotalSum_addShares hnodup hstations]
  ring

/-- A revision moves one share and the E_line that it is part of (R79, R125). -/
theorem LineTotals.balanced.addRevision {t : LineTotals} (h : t.balanced) (hnodup : (t.shares.map Prod.fst).Nodup)
    {station oldShare newShare oldLine newLine : Nat} (hstation : station ∈ t.shares.map Prod.fst)
    (hmoved : newLine + oldShare = oldLine + newShare) (oldEstimated newEstimated : Bool) :
    (t.addRevision station oldShare newShare oldLine newLine oldEstimated newEstimated).balanced := by
  have htotals : total newLine + total oldShare = total oldLine + total newShare := by
    rw [← total_add, hmoved, total_add]
  unfold LineTotals.balanced at h ⊢
  simp only [LineTotals.addRevision, h, shareTotalSum_addShareTotal hnodup hstation]
  linear_combination htotals

end Sys2Proof.Machine
end

section
/-! SUPPORT. Every book step keeps measured equal allotted plus undistributed (R76, R77). -/

namespace Sys2Proof.Machine

open Sys2Proof

theorem State.putEntry_allotBalance {s : State} (hs : s.allotBalance) {x : Entry}
    (hx : ∀ p, x.part = .apportioning p → p.residueWithin) {totals : AllotTotals} (ht : totals.balanced) {t : State}
    (he : t.book.entries = replaceEntry x s.book.entries) (ha : t.book.allot = totals) : t.allotBalance := by
  refine ⟨ha ▸ ht, fun y hy => ?_⟩
  rw [he] at hy
  rcases mem_replaceEntry hy with rfl | ⟨hy, -⟩
  · exact hx
  · exact hs.2 y hy

/-- The totals after a strike or a revision, which adds nothing for an entry from before a zero boundary (R81). -/
theorem AllotTotals.balanced.unless {t u : AllotTotals} (ht : t.balanced) (hu : u.balanced) (preZero : Bool) :
    (if preZero then t else u).balanced := by
  cases preZero <;> assumption

/-- A strike leaves a residue within E (R95, R99). -/
theorem State.struckEntry_residueWithin (s : State) (e : Entry) :
    ∀ p, (s.struckEntry e).part = .apportioning p → p.residueWithin := by
  intro p hp
  cases hpart : e.part with
  | line q => simp [State.struckEntry, hpart, Entry.withShares, Entry.struckNow] at hp
  | apportioning q =>
    cases hn : e.number <;> simp only [State.struckEntry, hpart, hn, RolePart.apportioning.injEq] at hp
    · subst hp
      exact le_refl q.e
    · obtain rfl : _ = p := RolePart.apportioning.inj hp
      exact q.withItems_residueWithin _ _

theorem State.strike_allotBalance {s : State} (hs : s.allotBalance) (e : Entry) : (s.strike e).allotBalance := by
  have hbalanced : s.book.allot.balanced := hs.1
  have hentries := s.strike_entries e
  rcases s.strike_cases e with ⟨-, h⟩ | ⟨hs', p, -, h⟩ | ⟨hs', p, -, -, h⟩ | ⟨hs', p, n, -, -, h⟩
  · rwa [h]
  all_goals
    rw [if_neg hs'] at hentries
    refine State.putEntry_allotBalance hs (s.struckEntry_residueWithin e) ?_ hentries rfl
    rw [h]
  · exact hbalanced
  · exact hbalanced.unless (hbalanced.addStrike _ (p := { p with residue := some p.e }) (Nat.le_refl p.e)) _
  · rw [State.strikeAllot, State.handOver_book]
    exact hbalanced.unless (hbalanced.addStrike _ (p.withItems_residueWithin _ _)) _

theorem State.strikes_allotBalance {s : State} (hs : s.allotBalance) (es : List Entry) :
    (es.foldl State.strike s).allotBalance := by
  induction es generalizing s with
  | nil => exact hs
  | cons e es ih => exact ih (s.strike_allotBalance hs e)

theorem State.KeepsTotals.allotBalance {s t : State} (h : s.KeepsTotals t) (hs : s.allotBalance) : t.allotBalance := by
  obtain ⟨hbalanced, hwithin⟩ := hs
  refine ⟨by rw [h.allot]; exact hbalanced, fun x hx p hp => ?_⟩
  obtain ⟨e, he, hsame⟩ := h.entries x hx
  obtain ⟨q, hq, hpe, hresidue⟩ := hsame.apportioning p hp
  have := hwithin e he q hq
  unfold AllotPart.residueWithin at this ⊢
  rwa [hpe, hresidue]

theorem closingPart_residueWithin (c : Settings) (b : Bank) (numbered : Bool) :
    ∀ p, closingPart c b numbered = .apportioning p → p.residueWithin := by
  intro p hp
  by_cases hr : c.role = .line
  · rw [closingPart_line hr] at hp
    cases hp
  · rw [closingPart_of_ne hr] at hp
    cases hp
    exact Nat.zero_le _

theorem openPart_residueWithin (c : Settings) : ∀ p, openPart c = .apportioning p → p.residueWithin := by
  intro p hp
  by_cases hr : c.role = .line
  · rw [openPart_line hr] at hp
    cases hp
  · rw [openPart_of_ne hr] at hp
    cases hp
    exact Nat.zero_le _

theorem State.reviseAllot_allotBalance {s : State} (hs : s.allotBalance) {e : Entry} {p : AllotPart}
    (he : e ∈ s.book.entries) (hp : e.part = .apportioning p) (role : Role) (n : Period) (station basis : Nat) :
    (s.reviseAllot role n e p station basis).allotBalance := by
  have hbalanced : s.book.allot.balanced := hs.1
  let q : AllotPart := { p with revision := p.revision + 1 }
  let new := q.withItems role (receiveItem station basis p.items)
  have hnew : new.residueWithin := q.withItems_residueWithin role _
  have hbook := congrArg State.book (State.reviseAllot_eq s role n e p station basis)
  dsimp only at hbook
  rw [State.handOver_book] at hbook
  refine State.putEntry_allotBalance hs (x := (e.withItems q role (receiveItem station basis p.items)).revised)
    (totals := if e.flags.preZero then s.book.allot else s.book.allot.addRevision p new) ?_ ?_ ?_ ?_
  · rintro r ⟨⟩
    exact hnew
  · exact hbalanced.unless (hbalanced.addRevision (old := p) (new := new) rfl (hs.2 e he p hp) hnew) _
  · rw [hbook]; rfl
  · rw [hbook]; rfl

/-- Every book step keeps measured equal allotted plus undistributed, and the residue of every entry within its E. -/
theorem State.BookStep.allotBalance {s t : State} (h : s.BookStep t) (hs : s.allotBalance) : t.allotBalance := by
  cases h with
  | keeps h => exact h.allotBalance hs
  | reset rest => exact reset_allotBalance
  | configure => exact hs
  | @close c e hc he kind =>
    exact State.putEntry_allotBalance hs (x := closedEntry s c kind e) (closingPart_residueWithin c s.bank _) hs.1 rfl rfl
  | strikes es => exact s.strikes_allotBalance hs es
  | zero =>
    refine ⟨rfl, fun x hx => ?_⟩
    obtain ⟨e, he, rfl⟩ := List.mem_map.mp hx
    exact hs.2 e he
  | add number cause =>
    unfold State.addEntry
    split
    · exact hs
    · refine ⟨hs.1, ?_⟩
      rw [List.forall_mem_append, List.forall_mem_singleton]
      exact ⟨hs.2, openPart_residueWithin _⟩
  | reviseLine he _ hp hi t => exact State.putEntry_allotBalance hs (by rintro r ⟨⟩) hs.1 rfl rfl
  | reviseAllot he hp role n station basis => exact s.reviseAllot_allotBalance hs he hp role n station basis

/-- Settles O55: every command is a run of book steps, and each of them keeps the relation. -/
theorem stepKeepsMeasuredEqualAllottedPlusUndistributed : Obligations.StepKeepsMeasuredEqualAllottedPlusUndistributed := by
  unfold Obligations.StepKeepsMeasuredEqualAllottedPlusUndistributed
  intro s t hs h
  exact step_keeps_of_bookStep (fun _ _ hu => hu) (fun _ _ hstep => hstep.allotBalance) hs h

end Sys2Proof.Machine
end

section
/-! SUPPORT. Every book step keeps the E_line total equal to the energy totals and the share totals together (R75, R77). -/

namespace Sys2Proof.Machine

open Sys2Proof

/-! ### Entries that fit the subscription table -/

theorem Entry.lineFits_of_apportioning {e : Entry} {p : AllotPart} (h : e.part = .apportioning p) (stations : List Nat) :
    e.lineFits stations := by
  intro q hq
  cases h.symm.trans hq

/-- An entry that is not STRUCK fits by the stations of its share list alone. -/
theorem Entry.lineFits_of_stations {e : Entry} {p : LinePart} {stations : List Nat} (hp : e.part = .line p)
    (hs : e.state ≠ .struck) (hnodup : (p.shares.map ShareItem.station).Nodup)
    (hmem : ∀ n ∈ p.shares.map ShareItem.station, n ∈ stations) : e.lineFits stations := by
  intro q hq
  obtain rfl : p = q := RolePart.line.inj (hp.symm.trans hq)
  exact ⟨hnodup, fun i hi => hmem _ (List.mem_map_of_mem hi), fun h => absurd h hs⟩

theorem Entry.SameFigures.lineFits {x e : Entry} (h : x.SameFigures e) {stations : List Nat} (he : e.lineFits stations) :
    x.lineFits stations := by
  intro p hp
  obtain ⟨q, hq, hstations, hstruck⟩ := h.line p hp
  obtain ⟨hnodup, hmem, hresult⟩ := he q hq
  refine ⟨hstations ▸ hnodup, fun i hi => ?_, fun hs => ?_⟩
  · obtain ⟨j, hj, hji⟩ := List.mem_map.mp (hstations ▸ List.mem_map_of_mem (f := ShareItem.station) hi)
    exact hji ▸ hmem j hj
  · obtain ⟨hs', hcarriers, rfl⟩ := hstruck hs
    exact hcarriers ▸ hresult hs'

/-- An entry with a share list of the same stations and its result worked out fits as before (R63, R120). -/
theorem Entry.lineFits.withShares {e : Entry} {p : LinePart} {stations : List Nat} (he : e.lineFits stations)
    (hp : e.part = .line p) {shares : List ShareItem}
    (hshares : shares.map ShareItem.station = p.shares.map ShareItem.station) {x : Entry}
    (hpart : x.part = (e.withShares p shares).part) (hcarriers : x.carriers = e.carriers) : x.lineFits stations := by
  intro q hq
  obtain ⟨hnodup, hmem, -⟩ := he p hp
  obtain rfl : { p with shares := shares, result := some (lineResult e.carriers { p with shares := shares }) } = q :=
    RolePart.line.inj (hpart.symm.trans hq)
  refine ⟨hshares ▸ hnodup, fun i hi => ?_, fun _ => ⟨_, rfl, by rw [hcarriers]; rfl⟩⟩
  obtain ⟨j, hj, hji⟩ := List.mem_map.mp (hshares ▸ List.mem_map_of_mem (f := ShareItem.station) hi)
  exact hji ▸ hmem j hj

/-- Completing a share list leaves its stations (R117). -/
theorem completeShare_station (table : List Peer) (i : ShareItem) : (completeShare table i).station = i.station := by
  unfold completeShare
  split
  · rfl
  · split <;> rfl

theorem completeShares_stations (table : List Peer) (items : List ShareItem) :
    (items.map (completeShare table)).map ShareItem.station = items.map ShareItem.station := by
  rw [List.map_map]
  exact List.map_congr_left fun i _ => completeShare_station table i

theorem State.struckEntry_lineFits (s : State) {e : Entry} {stations : List Nat} (he : e.lineFits stations) :
    (s.struckEntry e).lineFits stations := by
  cases hp : e.part with
  | line p =>
    obtain ⟨-, -, -, -, hcarriers, -⟩ := s.struckEntry_fields e
    exact he.withShares hp (completeShares_stations s.subscriptions p.shares) (by simp only [State.struckEntry, hp]; rfl) hcarriers
  | apportioning p =>
    cases hn : e.number <;>
      exact Entry.lineFits_of_apportioning (by simp only [State.struckEntry, hp, hn, Entry.withItems, Entry.struckNow]; rfl) _

/-! ### What keeps the relation -/

/-- A step that leaves the configuration and the stations of the tables keeps the relation, when the new totals are balanced and
the new entries fit. -/
theorem State.lineBalance.of_fits {s t : State} (hs : s.lineBalance) (hphase : t.loader.phase ≠ .ended → s.loader.phase ≠ .ended)
    (hc : t.settings = s.settings) (hstations : t.subscriptions.map Peer.station = s.subscriptions.map Peer.station)
    (hbalanced : t.book.line.balanced) (hshares : t.book.line.shares.map Prod.fst = s.book.line.shares.map Prod.fst)
    (hempty : s.settings = none → s.book.entries = [] → t.book.entries = [])
    (hfits : ∀ x ∈ t.book.entries, x.lineFits (s.subscriptions.map Peer.station)) : t.lineBalance := by
  obtain ⟨-, hnodup, hfst, hload, htable, -⟩ := hs
  refine ⟨hbalanced, hstations ▸ hnodup, by rw [hshares, hstations, hfst], fun hp => ?_, fun c hset hr => ?_, ?_⟩
  · obtain ⟨hentries, hnone⟩ := hload (hphase hp)
    exact ⟨hempty hnone hentries, hc.trans hnone⟩
  · rw [hstations]
    exact htable c (hc ▸ hset) hr
  · rw [hstations]
    exact hfits

theorem State.lineBalance.line_balanced {s : State} (hs : s.lineBalance) : s.book.line.balanced := hs.1

theorem State.lineBalance.stations_nodup {s : State} (hs : s.lineBalance) : (s.book.line.shares.map Prod.fst).Nodup := by
  obtain ⟨-, hnodup, hfst, -⟩ := hs
  exact hfst ▸ hnodup

/-- The share totals have the stations of the subscription table. -/
theorem State.lineBalance.mem_shares {s : State} (hs : s.lineBalance) {n : Nat} (h : n ∈ s.subscriptions.map Peer.station) :
    n ∈ s.book.line.shares.map Prod.fst := by
  obtain ⟨-, -, hfst, -⟩ := hs
  exact hfst ▸ h

theorem State.lineBalance.fits {s : State} (hs : s.lineBalance) :
    ∀ e ∈ s.book.entries, e.lineFits (s.subscriptions.map Peer.station) := by
  obtain ⟨-, -, -, -, -, hfits⟩ := hs
  exact hfits

/-- A configured LINE has the subscription table of its configuration. -/
theorem State.lineBalance.table_eq {s : State} (hs : s.lineBalance) {c : Settings} (hc : s.settings = some c)
    (hr : c.role = .line) : c.table = s.subscriptions.map Peer.station := by
  obtain ⟨-, -, -, -, htable, -⟩ := hs
  exact htable c hc hr

/-- An entry that fits is put back, with totals that stay balanced. -/
theorem State.lineBalance.putEntry {s t : State} (hs : s.lineBalance) {x : Entry} (hl : t.loader = s.loader)
    (hc : t.settings = s.settings) (hstations : t.subscriptions.map Peer.station = s.subscriptions.map Peer.station)
    (he : t.book.entries = replaceEntry x s.book.entries) (hx : x.lineFits (s.subscriptions.map Peer.station))
    (hbalanced : t.book.line.balanced) (hshares : t.book.line.shares.map Prod.fst = s.book.line.shares.map Prod.fst) :
    t.lineBalance := by
  refine hs.of_fits (by rw [hl]; exact id) hc hstations hbalanced hshares (fun _ hnil => by rw [he, hnil]; rfl) fun y hy => ?_
  rw [he] at hy
  rcases mem_replaceEntry hy with rfl | ⟨hy, -⟩
  · exact hx
  · exact hs.fits y hy

/-- The totals after a strike or a revision, which adds nothing for an entry from before a zero boundary (R81). -/
theorem LineTotals.balanced.unless {t u : LineTotals} (ht : t.balanced) (hu : u.balanced) (preZero : Bool) :
    (if preZero then t else u).balanced := by
  cases preZero <;> assumption

theorem State.KeepsTotals.lineBalance {s t : State} (h : s.KeepsTotals t) (hs : s.lineBalance) : t.lineBalance := by
  have hbalanced := hs.line_balanced
  unfold LineTotals.balanced at hbalanced
  rw [← h.energy, ← h.shares, ← h.eLine] at hbalanced
  refine hs.of_fits h.phase h.settings h.stations hbalanced (by rw [h.shares]) (fun _ hnil => ?_) fun x hx => ?_
  · refine List.eq_nil_iff_forall_not_mem.mpr fun x hx => ?_
    obtain ⟨e, he, -⟩ := h.entries x hx
    simp [hnil] at he
  · obtain ⟨e, he, hsame⟩ := h.entries x hx
    exact hsame.lineFits (hs.fits e he)

/-! ### Strikes and revisions (R75, R79) -/

theorem State.strikeLine_line (s : State) (e : Entry) (p : LinePart) : (s.strikeLine e p).book.line =
    if e.flags.preZero then s.book.line else
      s.book.line.addStrike (e.withShares p (p.shares.map (completeShare s.subscriptions))).struckNow
        { p with shares := p.shares.map (completeShare s.subscriptions) }
        (lineResult e.carriers { p with shares := p.shares.map (completeShare s.subscriptions) }) := rfl

theorem LineTotals.addStrike_stations (t : LineTotals) (e : Entry) (p : LinePart) (r : LineResult) :
    (t.addStrike e p r).shares.map Prod.fst = t.shares.map Prod.fst := addShares_stations _ _

theorem State.strike_stations (s : State) (e : Entry) :
    (s.strike e).subscriptions.map Peer.station = s.subscriptions.map Peer.station := by
  obtain ⟨-, -, -, h⟩ := (s.strike_strikesKeep e).same
  exact h

/-- The strike of an entry that fits the subscription table, in the book or not. -/
theorem State.strike_lineBalance {s : State} (hs : s.lineBalance) {e : Entry}
    (he : e.lineFits (s.subscriptions.map Peer.station)) : (s.strike e).lineBalance := by
  have hentries := s.strike_entries e
  have hfits := s.struckEntry_lineFits he
  rcases s.strike_cases e with ⟨-, h⟩ | ⟨hs', p, hp, h⟩ | ⟨hs', p, -, -, h⟩ | ⟨hs', p, n, -, -, h⟩
  · rwa [h]
  all_goals
    rw [if_neg hs'] at hentries
    refine hs.putEntry (by simp) (by simp) (s.strike_stations e) hentries hfits ?_ ?_ <;> rw [h]
  · rw [State.strikeLine_line]
    obtain ⟨-, hmem, -⟩ := he p hp
    refine hs.line_balanced.unless (hs.line_balanced.addStrike hs.stations_nodup _ (fun i hi => hs.mem_shares ?_) rfl) _
    obtain ⟨j, hj, rfl⟩ := List.mem_map.mp hi
    exact completeShare_station s.subscriptions j ▸ hmem j hj
  · rw [State.strikeLine_line]
    split
    · rfl
    · exact LineTotals.addStrike_stations _ _ _ _
  · exact hs.line_balanced
  · rfl
  · rw [State.strikeAllot, State.handOver_book]
    exact hs.line_balanced
  · rw [State.strikeAllot, State.handOver_book]
    rfl

theorem State.strikes_lineBalance {s : State} (hs : s.lineBalance) {es : List Entry}
    (he : ∀ e ∈ es, e.lineFits (s.subscriptions.map Peer.station)) : (es.foldl State.strike s).lineBalance := by
  induction es generalizing s with
  | nil => exact hs
  | cons e es ih =>
    rw [List.forall_mem_cons] at he
    exact ih (State.strike_lineBalance hs he.1) (by rw [State.strike_stations]; exact he.2)

/-- The revision of a STRUCK entry moves its E_line and one share by the same (R125). -/
theorem State.reviseLine_lineBalance {s : State} (hs : s.lineBalance) {e : Entry} {p : LinePart} {i : ShareItem}
    (he : e ∈ s.book.entries) (hstruck : e.state = .struck) (hp : e.part = .line p) (hi : i ∈ p.shares) (t : TakenShare) :
    (s.reviseLine e p i t).lineBalance := by
  have hfits := hs.fits e he
  obtain ⟨hnodup, hmem, hresult⟩ := hfits p hp
  obtain ⟨r, hr, hline⟩ := hresult hstruck
  have hsum : shareSum (replaceShare (receivedItem i.station t) p.shares) + i.share = shareSum p.shares + t.share :=
    sum_replaceShare ShareItem.share hnodup hi rfl
  have hbook := s.reviseLine_book e p i (t := t) rfl
  refine hs.putEntry (x := (e.withShares p (replaceShare (receivedItem i.station t) p.shares)).revised) rfl rfl
    (setLast_stations _ _ _) (by rw [hbook]) (hfits.withShares hp (replaceShare_stations _ _) rfl rfl) ?_ ?_ <;> rw [hbook]
  · refine hs.line_balanced.unless
      (hs.line_balanced.addRevision hs.stations_nodup (hs.mem_shares (hmem i hi)) ?_ _ _) _
    have hnew : (lineResult e.carriers { p with shares := replaceShare (receivedItem i.station t) p.shares }).eLine
        = carrierSum e.carriers + shareSum (replaceShare (receivedItem i.station t) p.shares) := rfl
    rw [hnew, hr, Option.map_some, Option.getD_some, hline]
    omega
  · dsimp only
    split
    · rfl
    · exact addShareTotal_stations _ _ _

/-! ### The close, the open and the load (R63, R106) -/

/-- A closed LINE entry lists the subscribed stations, the lead-in none (R63). -/
theorem closedEntry_lineFits {s : State} {c : Settings} (hs : s.lineBalance) (hc : s.settings = some c) (kind : EntryKind)
    (e : Entry) : (closedEntry s c kind e).lineFits (s.subscriptions.map Peer.station) := by
  have hpart : (closedEntry s c kind e).part = closingPart c s.bank e.number.isSome := rfl
  by_cases hr : c.role = .line
  · obtain ⟨-, hnodup, -⟩ := id hs
    rw [closingPart_line hr, hs.table_eq hc hr] at hpart
    refine Entry.lineFits_of_stations hpart (by simp [closedEntry_fields]) ?_ ?_
    · cases e.number <;> simp [Function.comp_def, absentShare]
      simpa using hnodup
    · cases e.number <;> simp [Function.comp_def, absentShare]
  · rw [closingPart_of_ne hr] at hpart
    exact Entry.lineFits_of_apportioning hpart _

/-- A new entry has no share (R66). -/
theorem newEntry_lineFits (s : State) (c : Settings) (number : Option Period) (cause : Cause) (stations : List Nat) :
    (newEntry s c number cause).lineFits stations := by
  have hpart : (newEntry s c number cause).part = openPart c := rfl
  by_cases hr : c.role = .line
  · rw [openPart_line hr] at hpart
    exact Entry.lineFits_of_stations hpart (by simp [newEntry]) (by simp) (by simp)
  · rw [openPart_of_ne hr] at hpart
    exact Entry.lineFits_of_apportioning hpart _

/-- The station table of an image lists no station twice (R82, R106). -/
theorem takeTable_nodup (img : List Byte) (role : Role) (own : Option Nat) : (takeTable img role own).1.Nodup := by
  have hplaces : (remainingPlaces img own).1.Nodup := by
    rw [remainingPlaces_eq]
    exact (takePlaces_pairwise own (imagePlaces img)).imp fun h heq => absurd (heq ▸ h) (lt_irrefl _)
  rw [takeTable_eq]
  split
  · exact (List.take_sublist _ _).nodup hplaces
  · exact hplaces

/-- A load sets the totals to 0 for the stations of the new subscription table (R106, R179). -/
theorem State.configure_lineBalance {s : State} (hs : s.lineBalance) (h : s.loader.phase = .reading) (img : List Byte)
    (role : Role) (own : Option Nat) (clamped : Bool) (image : List Byte) (now : Nat) :
    (s.configure (settingsOf img role own) own clamped image now).lineBalance := by
  obtain ⟨-, -, -, hload, -⟩ := hs
  obtain ⟨hnil, -⟩ := hload (by simp [h])
  let c := settingsOf img role own
  have hstations : (if c.role = .line then c.table.map Peer.fresh else []).map Peer.station
      = if c.role = .line then c.table else [] := by
    split <;> simp [Function.comp_def, Peer.fresh]
  have hnodup : (if c.role = .line then c.table else []).Nodup := by
    split
    · exact takeTable_nodup img role own
    · exact List.nodup_nil
  refine ⟨LineTotals.zero_balanced _, ?_, ?_, fun hp => absurd rfl hp, ?_, ?_⟩
  · exact hstations ▸ hnodup
  · refine Eq.trans ?_ hstations.symm
    simp [State.configure, LineTotals.zero, Function.comp_def, c]
  · rintro c' ⟨⟩ hr
    exact (hstations.trans (if_pos hr)).symm
  · intro x hx
    change x ∈ s.book.entries at hx
    rw [hnil] at hx
    cases hx

/-! ### Every step -/

/-- Every book step keeps the relation of the LINE totals, and every entry fitting the subscription table. -/
theorem State.BookStep.lineBalance {s t : State} (h : s.BookStep t) (hs : s.lineBalance) : t.lineBalance := by
  cases h with
  | keeps h => exact h.lineBalance hs
  | reset rest => exact reset_lineBalance
  | configure h img role own clamped image now => exact State.configure_lineBalance hs h img role own clamped image now
  | @close c e hc he kind =>
    exact hs.putEntry rfl rfl rfl rfl (closedEntry_lineFits hs hc kind e) hs.line_balanced rfl
  | strikes es h => exact State.strikes_lineBalance hs fun e he => hs.fits e (h e he)
  | zero =>
    refine hs.of_fits id rfl rfl (LineTotals.zero_balanced _) ?_ (fun _ hnil => ?_) fun x hx => ?_
    · obtain ⟨-, -, hfst, -⟩ := hs
      rw [hfst]
      simp [State.zeroBoundary, LineTotals.zero, Function.comp_def]
    · simp [State.zeroBoundary, hnil]
    · obtain ⟨e, he, rfl⟩ := List.mem_map.mp hx
      exact hs.fits e he
  | add number cause =>
    unfold State.addEntry
    split
    · exact hs
    · next c hc =>
      refine hs.of_fits id rfl rfl hs.line_balanced rfl (fun hnone => by simp [hc] at hnone) ?_
      rw [List.forall_mem_append, List.forall_mem_singleton]
      exact ⟨hs.fits, newEntry_lineFits _ _ _ _ _⟩
  | reviseLine he hstruck hp hi t => exact State.reviseLine_lineBalance hs he hstruck hp hi t
  | @reviseAllot e p he hp role n station basis =>
    refine hs.putEntry (x := (e.withItems { p with revision := p.revision + 1 } role (receiveItem station basis p.items)).revised)
      (by simp) (by simp) (by simp) ?_ (Entry.lineFits_of_apportioning rfl _) ?_ ?_ <;>
      rw [State.reviseAllot_eq, State.handOver_book]
    · rfl
    · exact hs.line_balanced
    · rfl

/-- Settles O56: every command is a run of book steps, and each of them keeps the relation. -/
theorem stepKeepsTheLineTotalRelation : Obligations.StepKeepsTheLineTotalRelation := by
  unfold Obligations.StepKeepsTheLineTotalRelation
  intro s t hs h
  exact step_keeps_of_bookStep (fun _ _ hu => hu) (fun _ _ hstep => hstep.lineBalance) hs h

end Sys2Proof.Machine
end

section
/-! SUPPORT. The strike of a LINE entry, figure by figure (R70 to R72, R75, R117 to R122). -/

namespace Sys2Proof.Machine

open Sys2Proof

/-! ### What the totals of a carrier and of a station grow by (R75) -/

/-- The figure of one carrier in an entry's carrier totals. -/
def carrierFigure (carriers : List (Carrier × Nat)) (k : Carrier) : Nat := ((carriers.filter fun x => x.1 = k).map Prod.snd).sum

/-- The figure of one station in a share list. -/
def shareFigure (items : List ShareItem) (station : Nat) : Nat :=
  ((items.filter fun i => i.station = station).map ShareItem.share).sum

theorem carrierFigure_cons (c : Carrier × Nat) (carriers : List (Carrier × Nat)) (k : Carrier) :
    carrierFigure (c :: carriers) k = (if c.1 = k then c.2 else 0) + carrierFigure carriers k := by
  unfold carrierFigure
  by_cases h : c.1 = k <;> simp [h]

theorem shareFigure_cons (i : ShareItem) (items : List ShareItem) (station : Nat) :
    shareFigure (i :: items) station = (if i.station = station then i.share else 0) + shareFigure items station := by
  unfold shareFigure
  by_cases h : i.station = station <;> simp [h]

/-- Each energy total grows by the figure of its carrier. -/
theorem EnergyTotals.addAll_eq (t : EnergyTotals) (carriers : List (Carrier × Nat)) :
    t.addAll carriers =
      { gas := t.gas + total (carrierFigure carriers .gas), electric := t.electric + total (carrierFigure carriers .electric)
        oxygen := t.oxygen + total (carrierFigure carriers .oxygen), air := t.air + total (carrierFigure carriers .air)
        other := t.other + total (carrierFigure carriers .other) } := by
  induction carriers generalizing t with
  | nil => simp [EnergyTotals.addAll, carrierFigure]
  | cons c carriers ih =>
    obtain ⟨k, n⟩ := c
    rw [EnergyTotals.addAll, List.foldl_cons, ← EnergyTotals.addAll, ih]
    simp only [carrierFigure_cons, total_add]
    cases k <;> simp [EnergyTotals.add, add_assoc]

/-- Each share total grows by the figure of its station. -/
theorem addShares_eq (items : List ShareItem) (shares : List (Nat × Total)) :
    addShares items shares = shares.map fun x => (x.1, x.2 + total (shareFigure items x.1)) := by
  induction items generalizing shares with
  | nil => simp [addShares, shareFigure]
  | cons i items ih =>
    rw [addShares_cons, ih, addShareTotal, List.map_map]
    refine List.map_congr_left fun x _ => ?_
    simp only [Function.comp, shareFigure_cons, total_add]
    by_cases h : x.1 = i.station
    · simp [h, add_assoc]
    · simp [h, Ne.symm h]

/-! ### Last shares (R119) -/

/-- The row of a station after a strike: the share of its last RECEIVED item, if it has one. -/
def Peer.afterShares (items : List ShareItem) (x : Peer) : Peer :=
  match items.reverse.find? fun i => i.station = x.station ∧ i.state = .received with
  | some i => { x with last := some i.share }
  | none => x

theorem Peer.afterShares_station (items : List ShareItem) (x : Peer) : (x.afterShares items).station = x.station := by
  unfold Peer.afterShares
  split <;> rfl

/-- One more item replaces the last share of its station when it is RECEIVED. -/
theorem Peer.afterShares_append (items : List ShareItem) (i : ShareItem) (x : Peer) :
    x.afterShares (items ++ [i])
      = if x.station = i.station ∧ i.state = .received then { x with last := some i.share } else x.afterShares items := by
  unfold Peer.afterShares
  rw [List.reverse_append, List.reverse_singleton, List.singleton_append, List.find?_cons]
  by_cases h : x.station = i.station ∧ i.state = .received
  · rw [if_pos h]
    simp [h.1, h.2]
  · rw [if_neg h]
    have hno : decide (i.station = x.station ∧ i.state = .received) = false := by
      rw [decide_eq_false_iff_not]
      exact fun hi => h ⟨hi.1.symm, hi.2⟩
    rw [hno]

theorem updateLastShares_eq (items : List ShareItem) (table : List Peer) :
    updateLastShares items table = table.map (Peer.afterShares items) := by
  induction items using List.reverseRecOn with
  | nil => exact (List.map_id table).symm
  | append_singleton items i ih =>
    have hlast : updateLastShares (items ++ [i]) table = if i.state = .received
        then setLast i.station i.share (updateLastShares items table) else updateLastShares items table := by
      rw [updateLastShares, List.foldl_append]
      rfl
    rw [hlast, ih]
    by_cases h : i.state = .received
    · rw [if_pos h, setLast, List.map_map]
      refine List.map_congr_left fun x _ => ?_
      simp only [Function.comp, Peer.afterShares_station, Peer.afterShares_append, h, and_true]
    · rw [if_neg h]
      refine List.map_congr_left fun x _ => ?_
      rw [Peer.afterShares_append, if_neg fun hx => h hx.2]

/-! ### The strike -/

/-- A wait timer's expiry strikes the SETTLING entry that has waited its wait (R70, R71). -/
theorem execWaitTimerExpiry_strikes {s : State} {c : Settings} {n : Period} {e : Entry} (hc : s.settings = some c)
    (he : s.held n = some e) (hs : e.state = .settling) (hwait : c.wait ≤ e.timer.getD 0) :
    exec (.waitTimerExpiry n) s = .next (s.strike e) := by
  have hover : e.waitOver c.wait = true := by simp [Entry.waitOver, hs, hwait]
  show execWaitTimerExpiry n s = _
  simp only [execWaitTimerExpiry, hc, he, hover, if_true]

theorem Settings.wait_line {c : Settings} (h : c.role = .line) : c.wait = c.t2 := by
  simp only [Settings.wait, h]

theorem Settings.wait_of_ne {c : Settings} (h : c.role ≠ .line) : c.wait = c.t1 := by
  cases hr : c.role with
  | line => exact absurd hr h
  | furnace => simp only [Settings.wait, hr]
  | pool => simp only [Settings.wait, hr]

theorem State.strike_line {s : State} {e : Entry} {p : LinePart} (hs : e.state ≠ .struck) (hp : e.part = .line p) :
    s.strike e = s.strikeLine e p := by
  simp only [State.strike, if_neg hs, hp]

/-- The entries held after a strike: the struck entry for its number, the others as before. -/
theorem State.held_strike {s : State} {e : Entry} (hs : e.state ≠ .struck) :
    (∀ n, e.number = some n → (s.held n).isSome = true → (s.strike e).held n = some (s.struckEntry e))
      ∧ ∀ n, e.number ≠ some n → (s.strike e).held n = s.held n := by
  have hput (n : Period) : (s.strike e).held n = (s.putEntry (s.struckEntry e)).held n := by
    rw [State.held, s.strike_entries e, if_neg hs]
    rfl
  refine ⟨fun n hn hheld => ?_, fun n hn => ?_⟩
  · obtain ⟨old, hold⟩ := Option.isSome_iff_exists.mp hheld
    rw [hput, State.held_putEntry_same hold ((s.struckEntry_number e).trans hn)]
  · rw [hput, State.held_putEntry_other _ (by rwa [s.struckEntry_number e])]

/-- Settles O39: the wait in a LINE is T2, and the strike of a LINE entry moves each total by the figure it counts. -/
theorem lineStrikesWhenItsWaitEnds : Obligations.LineStrikesWhenItsWaitEnds := by
  unfold Obligations.LineStrikesWhenItsWaitEnds
  refine ⟨fun s c n e hc hrole he hs hwait => execWaitTimerExpiry_strikes hc he hs (by rwa [Settings.wait_line hrole]), ?_⟩
  intro s e p hs hp shares eLine estimated count energy share used add t
  have hshares : p.shares.map (completeShare s.subscriptions) = shares := rfl
  have ht : t = s.strikeLine e p := State.strike_line hs hp
  have hr : s.struckEntry e = (e.withShares p shares).struckNow := by simp only [State.struckEntry, hp, hshares]
  obtain ⟨hheld, hother⟩ := State.held_strike (s := s) hs
  rw [hr] at hheld
  refine ⟨(e.withShares p shares).struckNow, ?_, sharesExcluded_iff shares, ?_, ?_, ?_, hheld, hother⟩
  · simp only [Entry.struckNow, Entry.withShares_flags]
    rfl
  · rw [ht]
    show ({ s.strikeLine e p with subscriptions := updateLastShares shares s.subscriptions } : State) = _
    rw [updateLastShares_eq]
    rfl
  · rw [ht]
    show ({ s.book with entries := replaceEntry (e.withShares p shares).struckNow s.book.entries
                        line := if e.flags.preZero then s.book.line else
                          s.book.line.addStrike (e.withShares p shares).struckNow { p with shares := shares }
                            (lineResult e.carriers { p with shares := shares }) } : Book) = _
    rw [replaceEntry_eq, LineTotals.addStrike, EnergyTotals.addAll_eq, addShares_eq, totalOf_eq, totalOf_eq]
    rfl
  · rw [ht]
    rfl

end Sys2Proof.Machine
end

section
/-! SUPPORT. The strike of an apportioning station's entry, figure by figure (R70 to R72, R76, R93 to R100). -/

namespace Sys2Proof.Machine

open Sys2Proof

/-- The station that the strike of a numbered entry hands its ALLOTMENT over from (R93 to R99). -/
def State.struckAllot (s : State) (role : Role) (e : Entry) (p : AllotPart) (items : List ContributorItem) : State :=
  let t := s.afterStrike (e.withItems p role items).struckNow
  { t with book := { t.book with allot :=
      if e.flags.preZero then s.book.allot else s.book.allot.addStrike true (p.withItems role items) } }

theorem State.strikeAllot_eq (s : State) (role : Role) (n : Period) (e : Entry) (p : AllotPart) :
    s.strikeAllot role n e p =
      let items := s.contributors.map (completeItem p.items)
      (s.struckAllot role e p items).handOver (allotmentRecord n (e.withItems p role items).flags (p.withItems role items)) := rfl

theorem State.role_getD {s : State} {c : Settings} (hc : s.settings = some c) : s.role.getD .pool = c.role := by
  rw [State.role, hc]
  rfl

theorem State.strike_allot {s : State} {c : Settings} {e : Entry} {p : AllotPart} {n : Period} (hc : s.settings = some c)
    (hs : e.state ≠ .struck) (hp : e.part = .apportioning p) (hn : e.number = some n) :
    s.strike e = s.strikeAllot c.role n e p := by
  simp only [State.strike, if_neg hs, hp, hn, State.role_getD hc]

theorem State.strike_leadIn {s : State} {e : Entry} {p : AllotPart} (hs : e.state ≠ .struck) (hp : e.part = .apportioning p)
    (hn : e.number = none) : s.strike e = s.strikeLeadIn e p := by
  simp only [State.strike, if_neg hs, hp, hn]

/-- The lead-in's whole E is measured and undistributed (R76, R99). -/
theorem AllotTotals.addStrike_leadIn (t : AllotTotals) {p : AllotPart} (hb : p.b = 0) :
    t.addStrike false { p with residue := some p.e } =
      { t with measured := t.measured + total p.e, undistributed := t.undistributed + total p.e } := by
  simp [AllotTotals.addStrike, hb, totalOf_eq]

/-- Putting back an entry of a number known otherwise. -/
theorem map_number_eq {x : Entry} {number : Option Period} (h : x.number = number) (es : List Entry) :
    (es.map fun y => if y.number = number then x else y) = replaceEntry x es := by
  subst h
  exact (replaceEntry_eq x es).symm

/-- The strike of a numbered entry ends the STARTING condition (R23). -/
theorem starting_of_numbered (t : TimeBase) {e : Entry} {n : Period} (h : e.number = some n) :
    { t with starting := t.starting && e.number.isNone } = { t with starting := false } := by
  simp [h]

/-- Settles O40: the wait in an apportioning station is T1, and the strike completes the items of a numbered entry, or leaves the
lead-in's E as its residue. -/
theorem apportioningEntryStrikesWhenItsWaitEnds : Obligations.ApportioningEntryStrikesWhenItsWaitEnds := by
  unfold Obligations.ApportioningEntryStrikesWhenItsWaitEnds
  refine ⟨fun s c n e hc hrole he hs hwait => execWaitTimerExpiry_strikes hc he hs (by rwa [Settings.wait_of_ne hrole]),
    ?numbered, ?leadIn⟩
  case numbered =>
    intro s c n e p hc he hs hp items listed b residue estimated struck
    obtain ⟨hn, -⟩ := State.held_some he
    have hitems : s.contributors.map (completeItem p.items) = items := rfl
    have hstruck : p.withItems c.role items = struck := rfl
    have hstrike : s.strike e = (s.struckAllot c.role e p items).handOver
        (allotmentRecord n (e.withItems p c.role items).flags struck) := by
      rw [State.strike_allot hc hs hp hn, State.strikeAllot_eq, hitems, ← hstruck]
    have hadded : s.book.allot.addStrike true struck =
        { measured := s.book.allot.measured + BitVec.ofNat 48 p.e
          allotted := s.book.allot.allotted + BitVec.ofNat 48 (p.e - residue)
          undistributed := s.book.allot.undistributed + BitVec.ofNat 48 residue
          basis := s.book.allot.basis + BitVec.ofNat 48 b
          struck := s.book.allot.struck + 1 } := by
      rw [AllotTotals.addStrike, totalOf_eq]
      rfl
    have htotals : (s.struckAllot c.role e p items).book.allot
        = if e.flags.preZero then s.book.allot else s.book.allot.addStrike true struck := rfl
    refine ⟨s.struckAllot c.role e p items, (e.withItems p c.role items).struckNow, hstrike, ?_, ?_, fun hz => ?_,
      fun hz => ?_, rfl⟩
    · rw [map_number_eq (x := (e.withItems p c.role items).struckNow) hn, ← starting_of_numbered s.time hn]
      rfl
    · simp only [Entry.struckNow, Entry.withItems_saturated]
      rfl
    · rw [htotals, if_pos hz]
    · rw [htotals, if_neg (by simp [hz]), hadded]
      exact ⟨rfl, rfl, rfl, rfl, rfl⟩
  case leadIn =>
    intro s e p hn hs hp hitems hb hresidue hestimated
    refine ⟨s.strikeLeadIn e p, State.strike_leadIn hs hp hn, ?_, ?_, ?_⟩
    · have htime : { s.time with starting := s.time.starting && e.number.isNone } = s.time := by simp [hn]
      calc s.strikeLeadIn e p
          = { s with time := { s.time with starting := s.time.starting && e.number.isNone }
                     book := (s.strikeLeadIn e p).book, alerts := (s.strikeLeadIn e p).alerts } := rfl
        _ = _ := by rw [htime]
    · rw [map_number_eq
        (x := { e with state := .struck, timer := none, part := .apportioning { p with residue := some p.e } }) hn]
      show ({ s.book with entries := _, allot := if e.flags.preZero then _ else s.book.allot.addStrike _ _ } : Book) = _
      rw [AllotTotals.addStrike_leadIn _ hb]
      rfl
    · show (s.alerts.estimatedStrike || e.flags.estimated) = _
      rw [hestimated, Bool.or_false]

end Sys2Proof.Machine
end

section
/-! SUPPORT. ZERO orders and the zero boundary (R41, R80, R81, R162, R163, R165, R166). -/

namespace Sys2Proof.Machine

open Sys2Proof

/-! ### The order -/

/-- A frame of the row of ZERO is an ORDER of code 1 (R187, R188). -/
theorem Frame.row_orderZero {f : Frame} (h : f.row = .orderZero) : isOrder f = true ∧ requestCode f = 1 := by
  have hquery (item part : Nat) : queryRow item part ≠ .orderZero := by
    unfold queryRow
    dsimp only
    split <;> split <;> simp
  unfold Frame.row at h
  split at h
  case h_4 => exact absurd h (hquery _ _)
  case h_5 hkind =>
    refine ⟨by simpa [isOrder] using BitVec.eq_of_toNat_eq (y := 5#4) hkind, ?_⟩
    split at h
    · next hcode => exact BitVec.eq_of_toNat_eq (y := 1#8) hcode
    · cases h
    · cases h
  all_goals cases h

/-- The one test of a ZERO order in a configured station: its authorization number (R162). -/
theorem State.orderRefusal_zero {s : State} {c : Settings} (hc : s.settings = some c) (f : Frame) :
    s.orderRefusal f false = if orderAuthorization f ≠ c.authorization then some .refusedCode else none := by
  simp [State.orderRefusal, hc]

/-- The ANSWER to an ORDER not addressed to 31, without a body beyond outcome and code (R153, R165). -/
theorem State.answerOrder_eq (s : State) {f : Frame} (hf : isOrder f = true) (outcome : RequestOutcome) (body : List Byte) :
    s.answerOrder f outcome body = if f.destination = 31 then s else s.handOver
      { kind := .answer, revision := 0, destination := f.source, period := f.period, tag := f.tag
        payload := [byte outcome.code, requestCode f] ++ body, estimated := false } := by
  rw [State.answerOrder, State.answer, answerRecord_order hf]

/-- An accepted ZERO: counted, the zero pending, and answered with whether it was pending before (R80, R163). -/
theorem State.acceptZero_eq (s : State) {f : Frame} (hf : isOrder f = true ∧ requestCode f = 1) :
    s.acceptZero f =
      let u := { s with requests := { s.requests with accepted := min 65535 (s.requests.accepted + 1) }
                        book := { s.book with zeroPending := true } }
      if f.destination = 31 then u else u.handOver
        { kind := .answer, revision := 0, destination := f.source, period := f.period, tag := f.tag
          payload := [6, 1, if s.book.zeroPending then 1 else 0], estimated := false } := by
  have hpending : byte s.book.zeroPending.toNat = if s.book.zeroPending then 1 else 0 := by
    cases s.book.zeroPending <;> rfl
  rw [State.acceptZero, State.answerOrder_eq _ hf.1, hf.2, hpending]
  rfl

/-- A ZERO order with a wrong number: counted, recorded, SERVICE set, and answered (R162, R166). -/
theorem State.refuse_zero (s : State) {f : Frame} (hf : isOrder f = true ∧ requestCode f = 1) :
    ∃ u : State, s.refuse f .refusedCode = (if f.destination = 31 then u else u.handOver
        { kind := .answer, revision := 0, destination := f.source, period := f.period, tag := f.tag, payload := [7, 1]
          estimated := false })
      ∧ u = { s with requests := u.requests, link := { s.link with service := true }, alerts := u.alerts }
      ∧ u.requests = { s.requests with
          refused := min 65535 (s.requests.refused + 1)
          lastRefusal := some { order := true, code := 1, source := f.source, tag := f.tag, outcome := .refusedCode } } := by
  refine ⟨State.setService (State.recordRefusal
    { s with requests := { s.requests with refused := grow s.requests.refused 1 } } f .refusedCode), ?_, rfl, ?_⟩
  · rw [State.refuse]
    dsimp only
    rw [if_neg (by decide), State.answerOrder_eq _ hf.1, hf.2]
    rfl
  · rw [State.setService_requests, State.recordRefusal, hf.1, hf.2]
    rfl

/-! ### The zero boundary -/

/-- The step from s to t leaves the configuration, the pending zero and the stations of the subscription table. -/
structure State.KeepsPending (s t : State) : Prop where
  settings : t.settings = s.settings
  zeroPending : t.book.zeroPending = s.book.zeroPending
  stations : t.subscriptions.map Peer.station = s.subscriptions.map Peer.station

theorem State.KeepsPending.refl (s : State) : s.KeepsPending s := ⟨rfl, rfl, rfl⟩

theorem State.KeepsPending.trans {s t u : State} (h : s.KeepsPending t) (k : t.KeepsPending u) : s.KeepsPending u :=
  ⟨k.settings.trans h.settings, k.zeroPending.trans h.zeroPending, k.stations.trans h.stations⟩

theorem State.StrikesKeep.keepsPending {s t : State} (h : s.StrikesKeep t) : s.KeepsPending t := by
  obtain ⟨hsettings, hpending, -, hstations⟩ := h.same
  exact ⟨hsettings, hpending, hstations⟩

theorem State.closeOpen_keepsPending (s : State) (kind : EntryKind) : s.KeepsPending (s.closeOpen kind) := by
  cases hc : s.settings with
  | none => rw [State.closeOpen_none (.inl hc)]; exact .refl s
  | some c =>
    cases he : s.openEntry with
    | none => rw [State.closeOpen_none (.inr he)]; exact .refl s
    | some e =>
      have hfixed : s.KeepsPending (s.fixFigures c (closedEntry s c kind e)) := ⟨rfl, rfl, rfl⟩
      exact hfixed.trans (State.closeOpen_strikesKeep hc he kind).keepsPending

theorem State.evict_keepsPending (s : State) : s.KeepsPending s.evict := by
  unfold State.evict
  split
  · exact .refl s
  · split
    · exact .refl s
    · next e _ _ =>
      have hstruck : s.KeepsPending (if e.state = .settling then s.strike e else s) := by
        split
        · exact (s.strike_strikesKeep e).keepsPending
        · exact .refl s
      exact hstruck.trans ⟨rfl, rfl, rfl⟩

theorem State.removeNumber_keepsPending (s : State) (number : Option Period) : s.KeepsPending (s.removeNumber number) := by
  unfold State.removeNumber
  split
  · exact .refl s
  · split
    · exact .refl s
    · next e _ => exact (s.strike_strikesKeep e).keepsPending.trans ⟨rfl, rfl, rfl⟩

/-- A zero stays pending through the close, the jump, the eviction and the removal of a boundary. -/
theorem State.beforeZero_keepsPending (s : State) (passed : Option Nat) (number : Option Period) :
    s.KeepsPending ((s.beforeOpen passed).evict.removeNumber number) := by
  have hclear (u : State) : u.KeepsPending u.clearTimebase := ⟨by simp, by simp, by simp⟩
  have hjump (u : State) (k : Nat) : u.KeepsPending (u.recordJump k) := ⟨rfl, rfl, rfl⟩
  have hbefore : s.KeepsPending (s.beforeOpen passed) := by
    cases passed with
    | none => exact (s.closeOpen_keepsPending _).trans (hclear _)
    | some k => exact ((s.closeOpen_keepsPending _).trans (hjump _ k)).trans (hclear _)
  exact (hbefore.trans (State.evict_keepsPending _)).trans (State.removeNumber_keepsPending _ number)

/-- Settles O44: the order by its authorization number, and the boundary by the zero boundary in its open. -/
theorem zeroOrderIsHeldForTheNextOpen : Obligations.ZeroOrderIsHeldForTheNextOpen := by
  unfold Obligations.ZeroOrderIsHeldForTheNextOpen
  refine ⟨fun s ch f c hd hc => ?order, fun s c passed n cause hc hz => ?boundary⟩
  case order =>
    intro h answer number
    have ⟨⟨_, _, _, hrow, _⟩, _⟩ := hd
    have hf := Frame.row_orderZero hrow
    have hexec : exec (.orderZero ch f) s = .next (h.takeZero f) :=
      congrArg Host.Outcome.next (State.receive_of_delivers hd _)
    have hrefusal := State.orderRefusal_zero (s := h) (c := c) hc f
    rw [show orderAuthorization f = number from rfl] at hrefusal
    refine ⟨fun hcode => ?_, fun hcode => ?_⟩
    · rw [if_neg (not_not.mpr hcode)] at hrefusal
      rw [hexec, State.takeZero, hrefusal]
      exact congrArg Host.Outcome.next (State.acceptZero_eq h hf)
    · rw [if_pos hcode] at hrefusal
      rw [hexec, State.takeZero, hrefusal]
      obtain ⟨u, hu, hframe, hrequests⟩ := State.refuse_zero h hf
      exact ⟨_, u, rfl, hu, hframe, hrequests⟩
  case boundary =>
    intro t
    let u := (s.beforeOpen passed).evict.removeNumber (some n)
    obtain ⟨hsettings, hpending, hstations⟩ := s.beforeZero_keepsPending passed (some n)
    have hopen : (s.beforeOpen passed).openNew (some n) cause = u.zeroBoundary.addEntry (some n) cause := by
      show (if u.book.zeroPending then u.zeroBoundary else u).addEntry (some n) cause = _
      rw [if_pos (hpending.trans hz)]
    have hadded := State.addEntry_some (s := u.zeroBoundary) (hsettings.trans hc) (some n) cause
    have ht : t = _ := State.boundary_eq s passed n cause
    rw [hopen, hadded] at ht
    refine ⟨u.zeroBoundary.book.entries, newEntry u.zeroBoundary c (some n) cause, ?_, rfl, rfl, fun x hx => ?_, ?_⟩
    · rw [ht]; dsimp only; split <;> rfl
    · obtain ⟨e, -, rfl⟩ := List.mem_map.mp hx
      rfl
    · have hline : LineTotals.zero (u.subscriptions.map Peer.station) = _ := congrArg LineTotals.zero hstations
      rw [ht]
      dsimp only
      split <;> refine ⟨hline.trans ?_, rfl, rfl, rfl, rfl, rfl⟩ <;> simp [LineTotals.zero, EnergyTotals.zero]

end Sys2Proof.Machine
end

section
/-! SUPPORT. The completing tally and the wait timer in either order (R71, R79). -/

namespace Sys2Proof.Machine

open Sys2Proof

/-! ### The items that both orders leave (R87, R88, R93) -/

/-- The item of a contributor once the tally of one station is taken: RECEIVED for that station, completed for the others. -/
def itemAfterTally (station basis : Nat) (items : List ContributorItem) (peer : Peer) : ContributorItem :=
  if peer.station = station then { station := station, state := .received, basis := basis } else completeItem items peer

theorem completeItem_of_find {items : List ContributorItem} {peer : Peer} {i : ContributorItem}
    (h : (items.find? fun x => x.station == peer.station && x.state == .received) = some i) : completeItem items peer = i := by
  simp only [completeItem, h]

/-- A completed item belongs to its contributor. -/
theorem completeItem_station (items : List ContributorItem) (peer : Peer) :
    (completeItem items peer).station = peer.station := by
  unfold completeItem
  split
  · next i hi =>
    have := List.find?_some hi
    simp only [Bool.and_eq_true, beq_iff_eq] at this
    exact this.1
  · split <;> rfl

/-- A contributor without a RECEIVED item has no RECEIVED item once completed (R93). -/
theorem completeItem_state_ne {items : List ContributorItem} {peer : Peer} (h : ∀ i ∈ items, i.station ≠ peer.station) :
    (completeItem items peer).state ≠ .received := by
  have hnone : (items.find? fun x => x.station == peer.station && x.state == .received) = none := by
    rw [List.find?_eq_none]
    intro i hi
    simp [h i hi]
  simp only [completeItem, hnone]
  split <;> simp

theorem mem_insertItem {table : List Peer} {station basis : Nat} {items : List ContributorItem} {i : ContributorItem} :
    i ∈ insertItem table station basis items ↔ ∃ peer ∈ table,
      (if peer.station = station then some { station := station, state := .received, basis := basis }
        else items.find? fun x => x.station == peer.station) = some i := List.mem_filterMap

/-- A revision by the tally of a station makes that station's item RECEIVED (R88). -/
theorem receiveItem_completeItem (table : List Peer) (station basis : Nat) (items : List ContributorItem) :
    receiveItem station basis (table.map (completeItem items)) = table.map (itemAfterTally station basis items) := by
  rw [receiveItem, List.map_map]
  refine List.map_congr_left fun peer _ => ?_
  simp only [Function.comp, completeItem_station, itemAfterTally]
  split
  · next h => rw [h]
  · rfl

section
variable {table : List Peer} {station : Nat} {items : List ContributorItem}
  (hreceived : ∀ i ∈ items, i.station ≠ station ∧ i.state = .received)
  (hall : ∀ peer ∈ table, peer.station ≠ station → ∃ i ∈ items, i.station = peer.station)
include hreceived hall

/-- The contributor list that the completing tally leaves holds each contributor's item, RECEIVED. -/
theorem find_insertItem {peer : Peer} (hpeer : peer ∈ table) (basis : Nat) :
    ((insertItem table station basis items).find? fun x => x.station == peer.station && x.state == .received)
      = some (itemAfterTally station basis items peer) := by
  have same (n : Nat) : (items.find? fun x => x.station == n) = items.find? fun x => x.station == n && x.state == .received :=
    List.find?_congr fun x hx => by simp [(hreceived x hx).2]
  have hitem : (if peer.station = station then some { station := station, state := .received, basis := basis }
      else items.find? fun x => x.station == peer.station) = some (itemAfterTally station basis items peer)
        ∧ (itemAfterTally station basis items peer).state = .received := by
    unfold itemAfterTally
    split
    · exact ⟨rfl, rfl⟩
    · next h =>
      obtain ⟨i, hi, his⟩ := hall peer hpeer h
      have hsome : (items.find? fun x => x.station == peer.station).isSome = true :=
        List.find?_isSome.mpr ⟨i, hi, by simp [his]⟩
      obtain ⟨j, hj⟩ := Option.isSome_iff_exists.mp hsome
      rw [hj, completeItem_of_find (same _ ▸ hj)]
      exact ⟨rfl, (hreceived j (List.mem_of_find?_eq_some hj)).2⟩
  obtain ⟨hget, hstate⟩ := hitem
  have hstation : (itemAfterTally station basis items peer).station = peer.station := by
    unfold itemAfterTally
    split
    · next h => exact h.symm
    · exact completeItem_station _ _
  have hmem := mem_insertItem.mpr ⟨peer, hpeer, hget⟩
  have hunique : ∀ i ∈ insertItem table station basis items, i.station = peer.station →
      i = itemAfterTally station basis items peer := by
    intro i hi his
    obtain ⟨other, -, hother⟩ := mem_insertItem.mp hi
    have hsame : other.station = peer.station := by
      rw [← his]
      split at hother
      · next h => rw [← Option.some.inj hother, h]
      · exact (beq_iff_eq.mp (List.find?_some hother :)).symm
    rw [hsame, hget] at hother
    exact (Option.some.inj hother).symm
  cases hfind : (insertItem table station basis items).find? fun x => x.station == peer.station && x.state == .received with
  | none =>
    have := List.find?_eq_none.mp hfind _ hmem
    simp [hstation, hstate] at this
  | some i =>
    have hi := List.find?_some hfind
    simp only [Bool.and_eq_true, beq_iff_eq] at hi
    rw [hunique i (List.mem_of_find?_eq_some hfind) hi.1]

/-- The completing tally completes the list. -/
theorem allReceived_insertItem (basis : Nat) : allReceived table (insertItem table station basis items) = true := by
  rw [allReceived_iff]
  intro peer hpeer
  have hfind := find_insertItem hreceived hall hpeer basis
  have hi := List.find?_some hfind
  simp only [Bool.and_eq_true, beq_iff_eq] at hi
  exact ⟨_, List.mem_of_find?_eq_some hfind, hi.1, hi.2⟩

/-- The strike that the completing tally causes finds every item RECEIVED, whatever last basis the table holds. -/
theorem completeItem_insertItem (value basis : Nat) :
    (setLast station value table).map (completeItem (insertItem table station basis items))
      = table.map (itemAfterTally station basis items) := by
  rw [setLast, List.map_map]
  refine List.map_congr_left fun peer hpeer => completeItem_of_find ?_
  have hkeep : (if peer.station = station then { peer with last := some value } else peer : Peer).station = peer.station := by
    split <;> rfl
  simp only [hkeep]
  exact find_insertItem hreceived hall hpeer basis

end

/-! ### The totals -/

/-- A strike and the revision after it add what a strike with the revised figures adds (R79, R105). -/
theorem AllotTotals.addStrike_addRevision (t : AllotTotals) (numbered : Bool) {old new : AllotPart} (he : new.e = old.e) :
    (t.addStrike numbered old).addRevision old new = t.addStrike numbered new := by
  simp only [AllotTotals.addStrike, AllotTotals.addRevision, he, add_assoc, add_sub_cancel]

theorem State.strikeAllot_totals (s : State) (role : Role) (n : Period) (e : Entry) (p : AllotPart) :
    (s.strikeAllot role n e p).book.allot = if e.flags.preZero then s.book.allot
      else s.book.allot.addStrike true (p.withItems role (s.contributors.map (completeItem p.items))) := by
  rw [State.strikeAllot_eq, State.handOver_book]
  rfl

theorem State.reviseAllot_totals (s : State) (role : Role) (n : Period) (e : Entry) (p : AllotPart) (station basis : Nat) :
    (s.reviseAllot role n e p station basis).book.allot = if e.flags.preZero then s.book.allot
      else s.book.allot.addRevision p
        (({ p with revision := p.revision + 1 } : AllotPart).withItems role (receiveItem station basis p.items)) := by
  rw [State.reviseAllot_eq, State.handOver_book]
  rfl

section
variable {s : State} {c : Settings} {f : Frame} {e : Entry} {p : AllotPart} (hc : s.settings = some c)
  (he : s.held f.period = some e) (hs : e.state = .settling) (hp : e.part = .apportioning p)
  (hreceived : ∀ i ∈ p.items, i.station ≠ f.source.toNat ∧ i.state = .received)
include hc he hs hp hreceived

/-- The tally that completes the entry strikes it with every item RECEIVED. -/
theorem State.tallyToBook_completes_totals
    (hall : ∀ peer ∈ s.contributors, peer.station ≠ f.source.toNat → ∃ i ∈ p.items, i.station = peer.station) :
    (s.tallyToBook f).book.allot = if e.flags.preZero then s.book.allot else s.book.allot.addStrike true
      (p.withItems c.role (s.contributors.map (itemAfterTally f.source.toNat (tallyBasis c.basis f) p.items))) := by
  let basis := tallyBasis c.basis f
  let taken := insertItem s.contributors f.source.toNat basis p.items
  let v := s.updateLastBasis f.source.toNat basis
  let x : Entry := { e with part := .apportioning { p with items := taken, b := basisTotal taken } }
  obtain ⟨hn, -⟩ := State.held_some he
  have hinsert : insertItem v.contributors f.source.toNat basis p.items = taken := insertItem_setLast ..
  have hcomplete : allReceived v.contributors taken = true :=
    (allReceived_setLast ..).trans (allReceived_insertItem hreceived hall basis)
  have hstrike : s.tallyToBook f = (v.putEntry x).strikeAllot c.role f.period x
      { p with items := taken, b := basisTotal taken } := by
    rw [State.tallyToBook_settling hc he hp hs]
    show v.tallySettling e p f.source.toNat basis = _
    rw [State.tallySettling, hinsert, ← State.strike_allot (s := v.putEntry x) (e := x) hc (by simp [x, hs]) rfl hn]
    exact if_pos hcomplete
  rw [hstrike, State.strikeAllot_totals]
  show (if e.flags.preZero then s.book.allot else s.book.allot.addStrike true (p.withItems c.role
    ((setLast f.source.toNat basis s.contributors).map (completeItem taken)))) = _
  rw [completeItem_insertItem hreceived hall]

/-- The tally that comes after the strike makes its station's item RECEIVED by a revision, which leaves the totals of a strike with
the item RECEIVED. -/
theorem State.strike_tallyToBook_totals (hrevision : p.revision < 3)
    (hsource : f.source.toNat ∈ s.contributors.map Peer.station) :
    ((s.strike e).tallyToBook f).book.allot = if e.flags.preZero then s.book.allot else s.book.allot.addStrike true
      (p.withItems c.role (s.contributors.map (itemAfterTally f.source.toNat (tallyBasis c.basis f) p.items))) := by
  let basis := tallyBasis c.basis f
  let old := p.withItems c.role (s.contributors.map (completeItem p.items))
  let new := ({ old with revision := old.revision + 1 } : AllotPart).withItems c.role
    (receiveItem f.source.toNat basis old.items)
  let x := (e.withItems p c.role old.items).struckNow
  obtain ⟨hn, -⟩ := State.held_some he
  have hne : e.state ≠ .struck := by simp [hs]
  have hstruck : s.struckEntry e = x := by simp only [State.struckEntry, hp, hn, State.role_getD hc]; rfl
  have hheld : (s.strike e).held f.period = some x := hstruck ▸ (State.held_strike hne).1 f.period hn (by rw [he]; rfl)
  have htotals : (s.strike e).book.allot = if e.flags.preZero then s.book.allot else s.book.allot.addStrike true old := by
    rw [State.strike_allot hc hne hp hn, State.strikeAllot_totals]
  have hc' : (s.strike e).settings = some c := by simpa using hc
  obtain ⟨i, hi, hstate⟩ : ∃ i, (old.items.find? fun y => y.station == f.source.toNat) = some i ∧ i.state ≠ .received := by
    obtain ⟨peer, hpeer, hstation⟩ := List.mem_map.mp hsource
    have hsome : (old.items.find? fun y => y.station == f.source.toNat).isSome = true :=
      List.find?_isSome.mpr ⟨completeItem p.items peer, List.mem_map_of_mem hpeer, by simp [completeItem_station, hstation]⟩
    obtain ⟨i, hi⟩ := Option.isSome_iff_exists.mp hsome
    obtain ⟨other, -, rfl⟩ := List.mem_map.mp (List.mem_of_find?_eq_some hi)
    have hother : other.station = f.source.toNat := by simpa [completeItem_station] using List.find?_some hi
    exact ⟨_, hi, completeItem_state_ne fun j hj => hother ▸ (hreceived j hj).1⟩
  have hrevise : (s.strike e).tallyToBook f = ((s.strike e).updateLastBasis f.source.toNat basis).reviseAllot c.role f.period x old
      f.source.toNat basis := by
    rw [State.tallyToBook_struck hc' hheld rfl rfl hi]
    dsimp only
    rw [if_neg hstate, if_pos (show (p.withItems c.role old.items).revision < 3 from hrevision),
      State.role_getD (c := c) (by simpa using hc)]
    rfl
  have hitems : new = { p.withItems c.role (s.contributors.map (itemAfterTally f.source.toNat basis p.items)) with
      revision := p.revision + 1 } := by
    show ({ old with revision := old.revision + 1 } : AllotPart).withItems c.role _ = _
    rw [show old.items = s.contributors.map (completeItem p.items) from rfl, receiveItem_completeItem]
    rfl
  have hadd := s.book.allot.addStrike_addRevision true (old := old) (new := new) rfl
  rw [hrevise, State.reviseAllot_totals, State.updateLastBasis_book, htotals]
  show (if e.flags.preZero then _ else AllotTotals.addRevision _ old new) = _
  cases e.flags.preZero
  · exact hadd.trans (by rw [hitems]; rfl)
  · rfl

end

/-- Settles O51: the tally that completes the entry strikes it with the items that the late tally's revision leaves. -/
theorem tallyAndTimerOrderLeavesTheSameTotals : Obligations.TallyAndTimerOrderLeavesTheSameTotals := by
  unfold Obligations.TallyAndTimerOrderLeavesTheSameTotals
  intro s f c e p hc _ he hs hp hrevision hsource hreceived hall
  rw [State.tallyToBook_completes_totals hc he hs hp hreceived hall,
    State.strike_tallyToBook_totals hc he hs hp hreceived hrevision hsource]

end Sys2Proof.Machine
end

section
/-! SUPPORT. The completing allotment and the wait timer in either order (R71, R126). -/

namespace Sys2Proof.Machine

open Sys2Proof

/-! ### The shares that both orders leave (R112, R114, R117) -/

/-- In a share list of distinct stations the item of a station is found by it. -/
theorem find_share {items : List ShareItem} (hnodup : (items.map ShareItem.station).Nodup) {i : ShareItem} (hi : i ∈ items) :
    (items.find? fun x => x.station == i.station) = some i := by
  have hsome : (items.find? fun x => x.station == i.station).isSome = true :=
    List.find?_isSome.mpr ⟨i, hi, by simp⟩
  obtain ⟨j, hj⟩ := Option.isSome_iff_exists.mp hsome
  have hstation : j.station = i.station := by simpa using List.find?_some hj
  rw [hj, List.inj_on_of_nodup_map hnodup (List.mem_of_find?_eq_some hj) hi hstation]

theorem completeShare_of_received {table : List Peer} {i : ShareItem} (h : i.state = .received) :
    completeShare table i = i := if_pos h

/-- A share completed at the strike is not RECEIVED (R117). -/
theorem completeShare_state_ne {table : List Peer} {i : ShareItem} (h : i.state ≠ .received) :
    (completeShare table i).state ≠ .received := by
  unfold completeShare
  rw [if_neg h]
  split <;> simp

/-- A list in which every item but the replaced one is RECEIVED. -/
theorem replaceShare_received {items : List ShareItem} {station : Nat}
    (h : ∀ x ∈ items, x.station ≠ station → x.state = .received) (t : TakenShare) :
    ∀ x ∈ replaceShare (receivedItem station t) items, x.state = .received := by
  intro x hx
  obtain ⟨y, hy, rfl⟩ := List.mem_map.mp hx
  split
  · rfl
  · next hne => exact h y hy hne

/-- The one missing item may be completed before it is replaced. -/
theorem replaceShare_completeShare {items : List ShareItem} {station : Nat}
    (h : ∀ x ∈ items, x.station ≠ station → x.state = .received) (table : List Peer) (t : TakenShare) :
    replaceShare (receivedItem station t) (items.map (completeShare table)) = replaceShare (receivedItem station t) items := by
  rw [replaceShare, replaceShare, List.map_map]
  refine List.map_congr_left fun x hx => ?_
  simp only [Function.comp, completeShare_station]
  split
  · rfl
  · next hne => exact completeShare_of_received (h x hx hne)

/-! ### The totals -/

theorem shareFigure_eq_sum (items : List ShareItem) (n : Nat) :
    shareFigure items n = (items.map fun i => if i.station = n then i.share else 0).sum := by
  induction items with
  | nil => rfl
  | cons i items ih => rw [shareFigure_cons, ih, List.map_cons, List.sum_cons]

/-- A revision moves the total of its station by the new share less the old, to where a strike with the new share brings it
(R79). -/
theorem addShareTotal_addShares {i old : ShareItem} {items : List ShareItem} (hnodup : (items.map ShareItem.station).Nodup)
    (hold : old ∈ items) (hstation : i.station = old.station) (shares : List (Nat × Total)) :
    addShareTotal old.station (total i.share - total old.share) (addShares items shares)
      = addShares (replaceShare i items) shares := by
  rw [addShares_eq, addShares_eq, addShareTotal, List.map_map]
  refine List.map_congr_left fun x _ => ?_
  have hmoved := congrArg total (sum_replaceShare (fun j => if j.station = x.1 then j.share else 0) hnodup hold hstation)
  rw [← shareFigure_eq_sum, ← shareFigure_eq_sum, total_add, total_add, hstation] at hmoved
  by_cases hx : x.1 = old.station
  · rw [if_pos hx.symm, if_pos hx.symm] at hmoved
    simp only [Function.comp, if_pos hx]
    congr 1
    linear_combination -hmoved
  · rw [if_neg (Ne.symm hx), if_neg (Ne.symm hx)] at hmoved
    simp only [Function.comp, if_neg hx]
    congr 1
    linear_combination -hmoved

/-- The strike of a numbered entry that lacks one share, and the revision that brings it, add what a strike with the share adds
(R79, R125). -/
theorem LineTotals.addStrike_addRevision (t : LineTotals) {x y : Entry} {p q : LinePart} {r w : LineResult} {i old : ShareItem}
    (hcarriers : y.carriers = x.carriers) (hnumber : y.number = x.number) (hnumbered : x.number.isSome = true)
    (hx : x.flags.estimated = true) (hy : y.flags.estimated = false) (hnodup : (p.shares.map ShareItem.station).Nodup)
    (hold : old ∈ p.shares) (hstation : i.station = old.station)
    (hq : q = { p with shares := replaceShare i p.shares }) :
    (t.addStrike x p r).addRevision old.station old.share i.share r.eLine w.eLine true false = t.addStrike y q w := by
  subst hq
  have hline : t.eLine + total r.eLine + (total w.eLine - total r.eLine) = t.eLine + total w.eLine := by ring
  have hestimated : t.estimated + totalOf (true && true) + (totalOf false - totalOf true)
      = t.estimated + totalOf (true && false) := by
    rw [Bool.and_self, Bool.and_false]
    ring
  simp only [LineTotals.addStrike, LineTotals.addRevision, addShareTotal_addShares hnodup hold hstation, hcarriers, hnumber,
    hnumbered, hx, hy, hline, hestimated]

section
variable {s : State} {f : Frame} {e : Entry} {p : LinePart} {i : ShareItem} {share : TakenShare}
  (he : s.held f.period = some e) (hs : e.state = .settling) (hp : e.part = .line p)
  (hnodup : (p.shares.map ShareItem.station).Nodup) (ht : takenShare s.loader.own f = some share) (hi : i ∈ p.shares)
  (hstation : i.station = f.source.toNat) (hmissing : i.state ≠ .received)
  (hothers : ∀ x ∈ p.shares, x.station ≠ i.station → x.state = .received)
include he hs hp hnodup ht hi hstation hmissing hothers

/-- The allotment that completes the entry strikes it with every share RECEIVED. -/
theorem State.allotmentToBook_completes_totals :
    let shares := replaceShare (receivedItem i.station share) p.shares
    (s.allotmentToBook f).book.line = if e.flags.preZero then s.book.line else
      s.book.line.addStrike (e.withShares p shares).struckNow { p with shares := shares }
        (lineResult e.carriers { p with shares := shares }) := by
  intro shares
  have hreceived : ∀ x ∈ shares, x.state = .received := replaceShare_received hothers share
  have hall : (shares.all fun x => x.state == .received) = true := by simpa using hreceived
  let x : Entry := { e with part := .line { p with shares := shares } }
  have hstrike : s.allotmentToBook f = (s.putEntry x).strikeLine x { p with shares := shares } := by
    rw [State.allotmentToBook_settling he hp ht (hstation ▸ find_share hnodup hi) hs, State.allotmentSettling, if_pos hmissing,
      ← State.strike_line (e := x) (by simp [x, hs]) rfl]
    exact if_pos hall
  have hcomplete : shares.map (completeShare s.subscriptions) = shares :=
    (List.map_congr_left fun y hy => completeShare_of_received (hreceived y hy)).trans (List.map_id shares)
  rw [hstrike, State.strikeLine_line]
  simp only [State.putEntry_subscriptions, hcomplete]
  rfl

/-- The allotment that comes after the strike replaces the completed share by a revision, which leaves the totals of a strike with
the share RECEIVED. -/
theorem State.strike_allotmentToBook_totals :
    let shares := replaceShare (receivedItem i.station share) p.shares
    ((s.strike e).allotmentToBook f).book.line = if e.flags.preZero then s.book.line else
      s.book.line.addStrike (e.withShares p shares).struckNow { p with shares := shares }
        (lineResult e.carriers { p with shares := shares }) := by
  intro shares
  obtain ⟨hn, -⟩ := State.held_some he
  have hne : e.state ≠ .struck := by simp [hs]
  let completed := p.shares.map (completeShare s.subscriptions)
  let old := completeShare s.subscriptions i
  let q : LinePart := { p with shares := completed }
  let r := lineResult e.carriers q
  let x := (e.withShares p completed).struckNow
  have hx : s.struckEntry e = x := by simp only [State.struckEntry, hp]; rfl
  have hheld : (s.strike e).held f.period = some x := hx ▸ (State.held_strike hne).1 f.period hn (by rw [he]; rfl)
  have hold : old ∈ completed := List.mem_map_of_mem hi
  have holdStation : old.station = i.station := completeShare_station s.subscriptions i
  have hnodup' : (completed.map ShareItem.station).Nodup := by rwa [completeShares_stations]
  have hfind : (completed.find? fun y => y.station == f.source.toNat) = some old := by
    rw [← hstation, ← holdStation]
    exact find_share hnodup' hold
  have hrevise : (s.strike e).allotmentToBook f = (s.strike e).reviseLine x { q with result := some r } old share := by
    have hmissing' : old.state ≠ .received := completeShare_state_ne hmissing
    rw [State.allotmentToBook_struck (p := { q with result := some r }) hheld rfl (by simpa using ht) hfind rfl,
      State.allotmentStruck, if_pos (by simp [hmissing'])]
  have hshares : replaceShare (receivedItem old.station share) completed = shares := by
    rw [holdStation]
    exact replaceShare_completeShare hothers s.subscriptions share
  have hestimated : x.flags.estimated = true := by
    show (completed.any fun y => y.state != .received) = true
    exact List.any_eq_true.mpr ⟨old, hold, by simpa using completeShare_state_ne hmissing⟩
  have hnone : sharesEstimated shares = false := by
    simpa [sharesEstimated] using replaceShare_received hothers share
  have hline : (s.strike e).book.line = if e.flags.preZero then s.book.line else s.book.line.addStrike x q r := by
    rw [State.strike_line hne hp]
    rfl
  rw [hrevise, State.reviseLine_book _ _ _ _ hshares, hline]
  dsimp only
  rw [hestimated, hnone]
  have hadd := s.book.line.addStrike_addRevision (x := x) (y := (e.withShares p shares).struckNow) (p := q)
    (q := { p with shares := shares }) (r := r) (w := lineResult e.carriers { p with shares := shares })
    (i := receivedItem old.station share) (old := old) rfl rfl (by show e.number.isSome = true; rw [hn]; rfl) hestimated hnone
    hnodup' hold rfl (by rw [hshares])
  show (if e.flags.preZero then _ else LineTotals.addRevision _ _ _ _ _ _ _ _) = _
  cases e.flags.preZero
  · exact hadd
  · rfl

end

/-- Settles O52: the allotment that completes the entry strikes it with the shares that the late allotment's revision leaves. -/
theorem allotmentAndTimerOrderLeavesTheSameTotals : Obligations.AllotmentAndTimerOrderLeavesTheSameTotals := by
  unfold Obligations.AllotmentAndTimerOrderLeavesTheSameTotals
  intro s f e p i share he hs hp hnodup ht hi hstation hmissing hothers
  rw [State.allotmentToBook_completes_totals he hs hp hnodup ht hi hstation hmissing hothers,
    State.strike_allotmentToBook_totals he hs hp hnodup ht hi hstation hmissing hothers]

end Sys2Proof.Machine
end

section
/-! SUPPORT. The divisions: how far floored shares fall short of what is divided, and the quotient rounded half up (R94 to R97,
R121). -/

namespace Sys2Proof.Machine

open Sys2Proof

/-! ### Shares (R94, R96) -/

/-- Each share floor(e b / B) falls short of e b / B by less than 1, so the sum of them by less than their number: said B times
over. -/
theorem sum_shareOf_bounds (e : Nat) {total : Nat} (htotal : 0 < total) (bases : List Nat) :
    total * (bases.map fun b => shareOf e b total).sum ≤ e * bases.sum
      ∧ e * bases.sum + bases.length ≤ total * ((bases.map fun b => shareOf e b total).sum + bases.length) := by
  induction bases with
  | nil => simp
  | cons b bases ih =>
    obtain ⟨hle, hshort⟩ := ih
    have hshare : shareOf e b total = e * b / total := if_neg htotal.ne'
    have hdivision : total * (e * b / total) + e * b % total = e * b := Nat.div_add_mod _ _
    have hrest : e * b % total < total := Nat.mod_lt _ htotal
    simp only [List.map_cons, List.sum_cons, List.length_cons, Nat.mul_add, hshare] at hle hshort ⊢
    omega

theorem distributed_eq_sum_bases (e : Nat) (items : List ContributorItem) :
    distributed e items
      = (((listedItems items).map ContributorItem.basis).map fun b => shareOf e b (basisTotal items)).sum := by
  rw [distributed, List.map_map]
  rfl

/-- Without a basis nothing is distributed (R96). -/
theorem distributed_of_basisTotal_zero (e : Nat) {items : List ContributorItem} (h : basisTotal items = 0) :
    distributed e items = 0 := by
  simp [distributed, shareOf, h]

/-- Settles O46: the bounds on the sum of floored shares, divided by B. -/
theorem sharesFallShortByLessThanTheirNumber : Obligations.SharesFallShortByLessThanTheirNumber := by
  unfold Obligations.SharesFallShortByLessThanTheirNumber
  refine fun e items => ⟨fun hpos => ?_, distributed_of_basisTotal_zero e⟩
  obtain ⟨hle, hshort⟩ := sum_shareOf_bounds e hpos ((listedItems items).map ContributorItem.basis)
  rw [← distributed_eq_sum_bases] at hle hshort
  change basisTotal items * distributed e items ≤ e * basisTotal items at hle
  change e * basisTotal items + _ ≤ _ at hshort
  rw [List.length_map] at hshort
  have hsome : 0 < (listedItems items).length := by
    refine List.length_pos_iff.mpr fun hnone => hpos.ne' ?_
    simp [basisTotal, hnone]
  have hupper : distributed e items ≤ e := Nat.le_of_mul_le_mul_left (by rwa [Nat.mul_comm e] at hle) hpos
  have hlower : e < distributed e items + (listedItems items).length :=
    Nat.lt_of_mul_lt_mul_left (a := basisTotal items) (by rw [Nat.mul_comm _ e]; omega)
  omega

/-! ### Specific energy consumption (R97, R121) -/

/-- The quotient rounded half up lies above n / d - 1/2 and at most 1/2 above n / d: said 2 d times over. -/
theorem roundHalfUp_bounds (n : Nat) {d : Nat} (hd : 0 < d) :
    d * (2 * roundHalfUp n d) ≤ 2 * n + d ∧ 2 * n < d * (2 * roundHalfUp n d + 1) := by
  have hdivision : d * (n / d) + n % d = n := Nat.div_add_mod n d
  have hrest : n % d < d := Nat.mod_lt n hd
  have htwice : d * (2 * (n / d)) = 2 * (d * (n / d)) := Nat.mul_left_comm ..
  unfold roundHalfUp
  split <;> simp only [Nat.mul_add, Nat.mul_one] <;> omega

/-- Settles O47: the figure held at 65,535 is the quotient rounded half up, within its bounds. -/
theorem specificEnergyIsRoundedHalfUp : Obligations.SpecificEnergyIsRoundedHalfUp := by
  unfold Obligations.SpecificEnergyIsRoundedHalfUp
  refine fun energy mass => ⟨fun h => if_pos h, fun hpos => ?_, specificEnergySaturates_iff energy mass⟩
  obtain ⟨hle, hlt⟩ := roundHalfUp_bounds (10000 * energy) hpos
  exact ⟨roundHalfUp (10000 * energy) mass, if_neg hpos.ne', by omega, by omega⟩

end Sys2Proof.Machine
end

section
/-! SUPPORT. What a receiver reads from the bytes of a TALLY and of an ALLOTMENT (R84, R100, R108, R111, R145, R186 to R190). -/

namespace Sys2Proof.Machine

open Sys2Proof

/-! ### Fields of a payload that is laid out as a table (R186) -/

theorem tableBytes_length (table : List (Nat × Nat)) : (tableBytes table).length = (table.map Prod.fst).sum :=
  (laidOut_tableBytes table).2

/-- The field at the offset of a row of the table holds the row's value. -/
theorem Frame.field_of_table {f : Frame} {table : List (Nat × Nat)} (h : f.payload = tableBytes table) (k : Nat) {w n : Nat}
    (hk : table[k]? = some (w, n)) : f.field ((table.take k).map Prod.fst).sum w = n % 256 ^ w := by
  obtain ⟨hlt, hrow⟩ := List.getElem?_eq_some_iff.mp hk
  have hdrop : table.drop k = (w, n) :: table.drop (k + 1) := hrow ▸ List.drop_eq_getElem_cons hlt
  have hsplit : f.payload = tableBytes (table.take k) ++ (toBytes w n ++ tableBytes (table.drop (k + 1))) :=
    calc f.payload = tableBytes (table.take k ++ table.drop k) := by rw [h, List.take_append_drop]
      _ = tableBytes (table.take k) ++ (toBytes w n ++ tableBytes (table.drop (k + 1))) := by
        rw [tableBytes_append, hdrop, tableBytes_cons]
  rw [Frame.field, hsplit, List.drop_left' (tableBytes_length _), List.take_left' (toBytes_length w n), ofBytes_toBytes]

/-- A byte of the payload is the field of one byte. -/
theorem Frame.at_eq_field {f : Frame} {i : Nat} : f.at i = f.field i 1 := by
  rw [Frame.at, Frame.field, List.getD_eq_getElem?_getD, ← List.head?_drop]
  cases f.payload.drop i <;> simp [ofBytes]

/-! ### TALLY (R84, R108, R188, R190) -/

/-- The measurement flags by their bits are their 2-byte field. -/
theorem measurementNumber_eq_bits (f : EntryFlags) :
    bitsNumber [f.meterFault, f.catchUp, f.discontinuity, false, false, false, false, f.jobChange, f.saturated, f.timebase]
      = f.measurement.bits := by
  rw [← flagsNumber_eq_bits]
  rfl

/-- The fields of a TALLY (R188). -/
def tallyTable (e : Entry) (p : LinePart) : List (Nat × Nat) :=
  [(1, e.kind.code), (2, bitsNumber [e.flags.meterFault, e.flags.catchUp, e.flags.discontinuity, false, false, false,
      false, e.flags.jobChange, e.flags.saturated, e.flags.timebase]),
    (2, e.duration), (4, p.pull), (4, p.reject), (4, p.good), (2, p.runSeconds), (4, p.cuts), (1, e.carriers.length)]
  ++ carrierRows e.carriers

theorem tallyPayload_eq (e : Entry) (p : LinePart) : tallyPayload e p = tableBytes (tallyTable e p) := by
  simp only [tallyTable, tableBytes_cons, tableBytes_carrierRows, measurementNumber_eq_bits, toBytes_one, tallyPayload,
    List.append_assoc, List.cons_append, List.nil_append]

theorem tallyPayload_length (e : Entry) (p : LinePart) : (tallyPayload e p).length = 24 + 5 * e.carriers.length := by
  simp only [tallyPayload, List.length_append, List.length_cons, List.length_nil, toBytes_length, carrierItems_length]

section
variable {e : Entry} {p : LinePart} {f : Frame} (hpayload : f.payload = tallyPayload e p)
include hpayload

/-- The figure that each basis kind reads from a TALLY (R84). -/
theorem tallyBasis_of_payload :
    tallyBasis .mass f = p.pull % 256 ^ 4 ∧ tallyBasis .good f = p.good % 256 ^ 4
      ∧ tallyBasis .runtime f = p.runSeconds % 256 ^ 2 := by
  have htable : f.payload = tableBytes (tallyTable e p) := hpayload.trans (tallyPayload_eq e p)
  exact ⟨Frame.field_of_table htable 3 rfl, Frame.field_of_table htable 5 rfl, Frame.field_of_table htable 6 rfl⟩

/-- The count byte of a TALLY gives the carriers that its length implies (R190). -/
theorem tally_lengthAdmitted (hkind : f.kind = 2) (hcarriers : e.carriers.length ≤ 5) : f.lengthAdmitted = true := by
  have htable : f.payload = tableBytes (tallyTable e p) := hpayload.trans (tallyPayload_eq e p)
  have hcount : f.at 23 = e.carriers.length :=
    calc f.at 23 = f.field 23 1 := Frame.at_eq_field
      _ = e.carriers.length % 256 ^ 1 := Frame.field_of_table htable 8 rfl
      _ = e.carriers.length := Nat.mod_eq_of_lt (by omega)
  have hlength : f.payload.length = 24 + 5 * e.carriers.length := hpayload ▸ tallyPayload_length e p
  simp [Frame.lengthAdmitted, hkind, hcount, hlength, hcarriers]

/-- A TALLY of a numbered entry has the code REGULAR or IRREGULAR (R190). -/
theorem tally_codesAdmitted (hkind : f.kind = 2) (hnumbered : e.kind ≠ .leadIn) : f.codesAdmitted = true := by
  have hcode : f.at 0 = e.kind.code % 256 := by rw [Frame.at, hpayload]; exact BitVec.toNat_ofNat _ 8
  have htwo : e.kind.code % 256 = 2 ∨ e.kind.code % 256 = 3 := by
    cases h : e.kind with
    | leadIn => exact absurd h hnumbered
    | regular => exact .inl rfl
    | irregular => exact .inr rfl
  simpa [Frame.codesAdmitted, hkind, hcode] using htwo

end

/-- Settles O50: the payload is its table of fields, which the basis kinds and the format test read row by row. -/
theorem tallyBytesCarryTheFigures : Obligations.TallyBytesCarryTheFigures := by
  unfold Obligations.TallyBytesCarryTheFigures
  intro e p f hkind hrevision hdestination hsource hsource' hpayload hnumbered hcarriers hpull hgood hrun
  obtain ⟨hmass, hgoodMass, hruntime⟩ := tallyBasis_of_payload hpayload
  have hformat : f.formatOk = true := by
    simp [Frame.formatOk, tally_lengthAdmitted hpayload hkind hcarriers, tally_codesAdmitted hpayload hkind hnumbered, hkind,
      hrevision, hdestination, hsource, hsource']
  have hrow : f.row = .tally := by rw [Frame.row, hkind]; rfl
  refine ⟨hformat, hrow, by omega, by omega, by omega, ?_⟩
  rw [hpayload, tallyPayload_eq]
  exact laidOut_tableBytes (tallyTable e p)

/-! ### ALLOTMENT (R100, R111, R188) -/

/-- The fields of an item of an ALLOTMENT (R188). -/
def allotmentItemRows (x : ContributorItem) : List (Nat × Nat) :=
  [(1, x.station + if x.state = .estimated then 128 else 0), (4, x.basis)]

/-- The fields of an ALLOTMENT (R188). -/
def allotmentTable (p : AllotPart) : List (Nat × Nat) :=
  [(4, p.e), (1, basisNumber p.basis), (6, p.b)] ++ countedRows (listedItems p.items) allotmentItemRows

theorem allotmentItem_eq {x : ContributorItem} (h : x.station ≤ 30) : allotmentItem x = tableBytes (allotmentItemRows x) := by
  have hstation : x.station % 32 = x.station := Nat.mod_eq_of_lt (by omega)
  have hbit : (x.state == .estimated).toNat * 128 = if x.state = .estimated then 128 else 0 := by cases x.state <;> rfl
  simp [allotmentItem, allotmentItemRows, hstation, hbit]

theorem allotmentPayload_eq {p : AllotPart} (h : ∀ x ∈ p.items, x.station ≤ 30) :
    allotmentPayload p = tableBytes (allotmentTable p) := by
  have hitems : (listedItems p.items).flatMap allotmentItem
      = (listedItems p.items).flatMap fun x => tableBytes (allotmentItemRows x) :=
    List.flatMap_congr fun x hx => allotmentItem_eq (h x (List.mem_of_mem_filter hx))
  have hbasis : basisNumber p.basis = p.basis.code := by cases p.basis <;> rfl
  simp only [allotmentTable, countedRows, tableBytes_cons, tableBytes_flatMap, toBytes_one, hbasis, allotmentPayload, hitems,
    List.append_assoc, List.cons_append, List.nil_append]

@[simp] theorem basisOfCode_code (kind : BasisKind) : basisOfCode kind.code = some kind := by cases kind <;> rfl

/-- The first item of an ALLOTMENT as it is received. -/
theorem listedFrom_cons (b : Byte) (n : Nat) (rest : List Byte) :
    listedFrom (b :: toBytes 4 n ++ rest) = (b.toNat % 32, n % 256 ^ 4, b.msb) :: listedFrom rest := by
  rw [← ofBytes_toBytes]
  rfl

/-- The byte of a station and its estimated indication gives both back (R188). -/
theorem stationByte_fields {station : Nat} (h : station ≤ 30) (estimated : Bool) :
    (byte (station % 32 + estimated.toNat * 128)).toNat % 32 = station
      ∧ (byte (station % 32 + estimated.toNat * 128)).msb = estimated := by
  rw [BitVec.msb_eq_decide, byte, BitVec.toNat_ofNat]
  cases estimated with
  | false => exact ⟨by simp; omega, by simp; omega⟩
  | true => exact ⟨by simp; omega, by simp; omega⟩

/-- The items of an ALLOTMENT are received as they were listed. -/
theorem listedFrom_allotmentItems {items : List ContributorItem} (h : ∀ x ∈ items, x.station ≤ 30 ∧ x.basis < 2 ^ 32) :
    listedFrom (items.flatMap allotmentItem) = items.map fun x => (x.station, x.basis, x.state == .estimated) := by
  induction items with
  | nil => rfl
  | cons x items ih =>
    obtain ⟨hx, hitems⟩ := List.forall_mem_cons.mp h
    obtain ⟨hstation, hestimated⟩ := stationByte_fields hx.1 (x.state == .estimated)
    rw [List.flatMap_cons, List.map_cons, allotmentItem, listedFrom_cons, hstation, hestimated,
      Nat.mod_eq_of_lt (by simpa using hx.2), ih hitems]

/-- In a contributor list of distinct stations the item of a station is found by it. -/
theorem find_contributor {items : List ContributorItem} (hnodup : (items.map ContributorItem.station).Nodup)
    {i : ContributorItem} (hi : i ∈ items) : (items.find? fun x => x.station == i.station) = some i := by
  obtain ⟨before, after, rfl⟩ := List.append_of_mem hi
  refine List.find?_eq_some_iff_append.mpr ⟨beq_self_eq_true _, before, after, rfl, fun x hx => ?_⟩
  rw [List.map_append, List.nodup_append] at hnodup
  obtain ⟨-, -, hdisjoint⟩ := hnodup
  simpa using hdisjoint x.station (List.mem_map_of_mem hx) i.station (by simp)

/-- No listed basis value is above B (R93). -/
theorem basis_le_basisTotal {items : List ContributorItem} {i : ContributorItem} (hi : i ∈ listedItems items) :
    i.basis ≤ basisTotal items := List.le_sum_of_mem (List.mem_map_of_mem hi)

/-- B of at most 16 basis values of 32 bits fits its 6 bytes. -/
theorem basisTotal_lt {items : List ContributorItem} (hlength : items.length ≤ 16) (h : ∀ x ∈ items, x.basis < 2 ^ 32) :
    basisTotal items < 256 ^ 6 := by
  have hsum : basisTotal items ≤ ((listedItems items).map ContributorItem.basis).length • (2 ^ 32) :=
    List.sum_le_card_nsmul _ _ fun b hb => by
      obtain ⟨x, hx, rfl⟩ := List.mem_map.mp hb
      exact (h x (List.mem_of_mem_filter hx)).le
  have hlisted : (listedItems items).length ≤ items.length := List.length_filter_le _ _
  rw [List.length_map, smul_eq_mul] at hsum
  omega

section
variable {p : AllotPart} {i : ContributorItem} {f : Frame} (hpayload : f.payload = allotmentPayload p)
include hpayload

/-- The figures that every receiver reads from an ALLOTMENT: E, B and the basis kind (R111, R188). -/
theorem allotment_figures (he : p.e < 2 ^ 32) (hb : p.b < 256 ^ 6) (hstations : ∀ x ∈ p.items, x.station ≤ 30) :
    f.field 0 4 = p.e ∧ f.field 5 6 = p.b ∧ basisOfCode (f.at 4) = some p.basis := by
  have htable : f.payload = tableBytes (allotmentTable p) := hpayload.trans (allotmentPayload_eq hstations)
  have hcode : f.at 4 = p.basis.code :=
    calc f.at 4 = f.field 4 1 := Frame.at_eq_field
      _ = basisNumber p.basis % 256 ^ 1 := Frame.field_of_table htable 1 rfl
      _ = p.basis.code := by cases p.basis <;> rfl
  refine ⟨?_, ?_, by rw [hcode, basisOfCode_code]⟩
  · exact (Frame.field_of_table htable 0 rfl).trans (Nat.mod_eq_of_lt he)
  · exact (Frame.field_of_table htable 2 rfl).trans (Nat.mod_eq_of_lt hb)

/-- The contributor list of an ALLOTMENT as it is received (R188). -/
theorem allotment_listed (h : ∀ x ∈ p.items, x.station ≤ 30 ∧ x.basis < 2 ^ 32) :
    f.listed = (listedItems p.items).map fun x => (x.station, x.basis, x.state == .estimated) := by
  rw [Frame.listed, hpayload, allotmentPayload, List.drop_left' (by simp)]
  exact listedFrom_allotmentItems fun x hx => h x (List.mem_of_mem_filter hx)

/-- A listed contributor finds its own item (R111). -/
theorem allotment_find_listed (h : ∀ x ∈ p.items, x.station ≤ 30 ∧ x.basis < 2 ^ 32)
    (hnodup : (p.items.map ContributorItem.station).Nodup) (hi : i ∈ listedItems p.items) :
    (f.listed.find? fun x => some x.1 == some i.station) = some (i.station, i.basis, i.state == .estimated) := by
  have hnodup' : ((listedItems p.items).map ContributorItem.station).Nodup := hnodup.sublist (List.filter_sublist.map _)
  rw [allotment_listed hpayload h, List.find?_map]
  have hfind : ((listedItems p.items).find? fun x => some x.station == some i.station) = some i := by
    simpa using find_contributor hnodup' hi
  exact congrArg (Option.map _) hfind

end

/-- Settles O49: the bytes give E, B and the own item back, and the own basis value is no more than B. -/
theorem lineShareEqualsTheCountedShare : Obligations.LineShareEqualsTheCountedShare := by
  unfold Obligations.LineShareEqualsTheCountedShare
  constructor
  · intro p hstations
    rw [allotmentPayload_eq hstations]
    exact laidOut_tableBytes (allotmentTable p)
  · intro p i f he hb hlength hitems hnodup hpayload hi hstate
    have hlisted : i ∈ listedItems p.items := List.mem_filter.mpr ⟨hi, by simpa using hstate⟩
    have hfits : ∀ x ∈ p.items, x.station ≤ 30 ∧ x.basis < 2 ^ 32 := fun x hx => (hitems x hx).2
    have hbBytes : p.b < 256 ^ 6 := hb ▸ basisTotal_lt hlength fun x hx => (hfits x hx).2
    obtain ⟨hE, hB, hbasis⟩ := allotment_figures hpayload he hbBytes fun x hx => (hfits x hx).1
    have hconsistent : ¬p.b < i.basis := by rw [hb]; exact (basis_le_basisTotal hlisted).not_gt
    refine ⟨{ share := shareOf p.e i.basis p.b,
              figures := ⟨f.revision, p.e, p.b, p.basis, some (i.basis, i.state == .estimated)⟩ }, ?_, rfl, rfl, rfl, rfl, rfl⟩
    simp only [takenShare, allotment_find_listed hpayload hfits hnodup hlisted, hE, hB, hbasis, Option.getD_some,
      if_neg hconsistent]

end Sys2Proof.Machine
end

section
/-! SUPPORT. The share a line works out from an allotment, by what the allotment lists, and the list by the bytes of the payload
(R111, R188). -/

namespace Sys2Proof.Machine

open Sys2Proof

/-! ### The share by the first item of the own number (R111) -/

/-- A share of a basis value that is not above B does not exceed E (R94, R111). -/
theorem shareOf_le {e basis b : Nat} (h : basis ≤ b) : shareOf e basis b ≤ e := by
  unfold shareOf
  split
  · exact Nat.zero_le e
  · exact Nat.div_le_of_le_mul (by rw [Nat.mul_comm b]; exact Nat.mul_le_mul_left e h)

/-- The figures of an allotment that an item records, with what is listed for the own number (R111). -/
def shareFigures (f : Frame) (listed : Option (Nat × Bool)) : AllotmentFigures :=
  { revision := f.revision, e := f.field 0 4, b := f.field 5 6, basis := (basisOfCode (f.at 4)).getD .mass, listed := listed }

section
variable {own : Nat} {f : Frame}

/-- An allotment that does not list the own number gives the share 0. -/
theorem takenShare_of_not_listed (h : ∀ i ∈ f.listed, i.1 ≠ own) :
    takenShare (some own) f = some { share := 0, figures := shareFigures f none } := by
  have hfind : (f.listed.find? fun i => some i.1 == some own) = none :=
    List.find?_eq_none.mpr fun i hi => by simpa using h i hi
  simp only [takenShare, hfind, shareFigures]

variable {before after : List ListedItem} {basis : Nat} {estimated : Bool}
  (hlisted : f.listed = before ++ (own, basis, estimated) :: after) (hfirst : ∀ i ∈ before, i.1 ≠ own)
include hlisted hfirst

theorem find_own_listed : (f.listed.find? fun i => some i.1 == some own) = some (own, basis, estimated) :=
  List.find?_eq_some_iff_append.mpr ⟨beq_self_eq_true _, before, after, hlisted, fun i hi => by simpa using hfirst i hi⟩

/-- An allotment whose first item of the own number has a basis above B gives none. -/
theorem takenShare_of_inconsistent (h : f.field 5 6 < basis) : takenShare (some own) f = none := by
  simp only [takenShare, find_own_listed hlisted hfirst, if_pos h]

/-- An allotment whose first item of the own number has a basis of at most B gives the share of that basis. -/
theorem takenShare_of_listed (h : basis ≤ f.field 5 6) :
    takenShare (some own) f
      = some { share := shareOf (f.field 0 4) basis (f.field 5 6), figures := shareFigures f (some (basis, estimated)) } := by
  simp only [takenShare, find_own_listed hlisted hfirst, if_neg h.not_gt, shareFigures]

end

/-! ### The list by the bytes of the payload (R188) -/

/-- The item that the first five of the bytes spell. -/
def firstListed (bytes : List Byte) : ListedItem :=
  (ofBytes (bytes.take 1) % 32, ofBytes ((bytes.drop 1).take 4), decide (128 ≤ ofBytes (bytes.take 1)))

theorem listedFrom_of_length_ge : ∀ {bytes : List Byte}, 5 ≤ bytes.length →
    listedFrom bytes = firstListed bytes :: listedFrom (bytes.drop 5)
  | st :: b3 :: b2 :: b1 :: b0 :: rest, _ => by
    have hstation : ofBytes [st] = st.toNat := by simp [ofBytes]
    have hbit : st.msb = decide (128 ≤ st.toNat) := BitVec.msb_eq_decide st
    simp [listedFrom, firstListed, hstation, hbit]

/-- The items of 5 n bytes stand five bytes apart. -/
theorem listedFrom_eq_map {n : Nat} {bytes : List Byte} (h : bytes.length = 5 * n) :
    listedFrom bytes = (List.range n).map fun k => firstListed (bytes.drop (5 * k)) := by
  induction n generalizing bytes with
  | zero => rw [List.eq_nil_of_length_eq_zero h]; rfl
  | succ n ih =>
    have hrest : (bytes.drop 5).length = 5 * n := by rw [List.length_drop]; omega
    rw [listedFrom_of_length_ge (by omega), ih hrest, List.range_succ_eq_map, List.map_cons, List.map_map]
    simp [Function.comp_def, Nat.mul_succ, Nat.add_comm]

/-- An ALLOTMENT lists its items from offset 12 on, as fields of the payload. -/
theorem Frame.listed_eq_fields {f : Frame} {n : Nat} (h : f.payload.length = 12 + 5 * n) :
    f.listed = (List.range n).map fun k =>
      (f.field (12 + 5 * k) 1 % 32, f.field (13 + 5 * k) 4, decide (128 ≤ f.field (12 + 5 * k) 1)) := by
  have hitems : (f.payload.drop 12).length = 5 * n := by rw [List.length_drop]; omega
  rw [Frame.listed, listedFrom_eq_map hitems]
  refine List.map_congr_left fun k _ => ?_
  have hbasis : 12 + 5 * k + 1 = 13 + 5 * k := by omega
  rw [firstListed, List.drop_drop, List.drop_drop, hbasis]
  rfl

/-- Settles O37: by whether the own number is listed, and then by whether the basis of its first item is above B. -/
theorem lineShareFollowsTheListedBasis : Obligations.LineShareFollowsTheListedBasis := by
  unfold Obligations.LineShareFollowsTheListedBasis
  refine fun own f => ⟨fun hnone => ?_, fun before basis estimated after hlisted hfirst => ⟨?_, ?_, ?_⟩⟩
  · exact ⟨_, takenShare_of_not_listed hnone, rfl, rfl, rfl, rfl, rfl⟩
  · exact takenShare_of_inconsistent hlisted hfirst
  · exact fun hle => ⟨_, takenShare_of_listed hlisted hfirst hle, rfl, shareOf_le hle, rfl, rfl, rfl, rfl⟩
  · exact fun n => Frame.listed_eq_fields

end Sys2Proof.Machine
end

section
/-! SUPPORT. What keeps the link controller formed: its channels, its transmit queue and its recent-frame list (R135, R137, R138,
R140 to R144, R146). -/

namespace Sys2Proof.Machine

open Sys2Proof

/-! ### Channels (R135 to R138) -/

/-- A channel that keeps its state and its count, and sets no probe mark, keeps its form. -/
theorem LinkChannel.formed.of_eq {c d : LinkChannel} (h : c.formed) (hs : d.state = c.state := by simp)
    (he : d.echoFaults = c.echoFaults := by simp) (hp : d.probe = c.probe ∨ d.probe = false := by simp) : d.formed := by
  unfold LinkChannel.formed at h ⊢
  rw [hs, he]
  split at h
  · exact h
  · exact h
  · obtain ⟨hfaults, hprobe⟩ := h
    exact ⟨hfaults, hp.elim (·.trans hprobe) id⟩

theorem LinkChannel.released_formed (inhibit : Bool) : (LinkChannel.released inhibit).formed := by
  cases inhibit <;> simp [LinkChannel.formed, LinkChannel.released, LinkChannel.atReset, Config.echoFaultLimit]

/-- An open sets the probe mark of a FAILED channel alone (R137). -/
theorem LinkChannel.formed.markProbe {c : LinkChannel} (h : c.formed) : c.markProbe.formed := by
  unfold LinkChannel.formed LinkChannel.markProbe at *
  dsimp only
  cases hs : c.state <;> simp_all

/-- The count of a formed channel is within its limit, whatever its state (R135). -/
theorem LinkChannel.formed.echoFaults_le {c : LinkChannel} (h : c.formed) : c.echoFaults ≤ Config.echoFaultLimit := by
  unfold LinkChannel.formed at h
  split at h
  · exact h.le
  · exact h.le
  · exact h.1

theorem LinkChannel.formed.inhibit {c : LinkChannel} (h : c.formed) : c.inhibit.formed := ⟨h.echoFaults_le, rfl⟩

/-- A channel whose frame went out whole counts no fault, and is FAILED no longer (R134, R137). -/
theorem LinkChannel.formed.goneOutWhole {c : LinkChannel} (h : c.formed) :
    ({ c with echoFaults := 0, state := if c.state = .failed then .active else c.state } : LinkChannel).formed := by
  unfold LinkChannel.formed at *
  cases hs : c.state <;> simp_all [Config.echoFaultLimit]

/-! ### What an operation on the queue leaves of a channel (R132, R137, R143) -/

theorem Link.chan_enter (l : Link) (r : Record) (ch : Chan) : (l.enter r).chan ch
    = ({ l.chan ch with probe := false } : LinkChannel).recount (l.owes ch) ((l.enter r).owes ch) := by
  cases ch <;> rfl

theorem Link.chan_remove (l : Link) (seq : Nat) (ch : Chan) :
    (l.remove seq).chan ch = (l.chan ch).recount (l.owes ch) ((l.remove seq).owes ch) := by
  cases ch <;> rfl

theorem Link.chan_replaceMark (l : Link) (r : Record) (ch : Chan) : (l.replaceMark r).chan ch
    = ((l.chan ch).supersede Queued.isMark l.queue).recount (l.owes ch) ((l.replaceMark r).owes ch) := by
  cases ch <;> rfl

theorem Link.chan_withdrawMark (l : Link) (ch : Chan) :
    l.withdrawMark.chan ch = ((l.chan ch).withdraw l.queue).recount (l.owes ch) (l.withdrawMark.owes ch) := by
  cases ch <;> rfl

/-! ### The queue (R140 to R143) -/

/-- Of a formed queue some records may leave. -/
theorem Link.queueFormed.sublist {l k : Link} (h : l.queueFormed) (hq : k.queue.Sublist l.queue) (hn : k.nextSeq = l.nextSeq) :
    k.queueFormed := by
  obtain ⟨hlength, hmark, howed, hsorted, hseq⟩ := h
  exact ⟨hq.length_le.trans hlength, hq.countP_le.trans hmark, fun q hm => howed q (hq.subset hm), hsorted.sublist hq,
    fun q hm => hn ▸ hseq q (hq.subset hm)⟩

/-- Records that change in place, none of them into a MARK, leave the queue formed when those owed to no channel leave it. -/
theorem Link.queueFormed.map_purge {l k : Link} (h : l.queueFormed) (g : Queued → Queued) (hseq : ∀ q, (g q).seq = q.seq)
    (hmark : ∀ q, (g q).isMark = true → q.isMark = true) (hq : k.queue = (l.queue.map g).filter fun q => q.owedA || q.owedB)
    (hn : k.nextSeq = l.nextSeq) : k.queueFormed := by
  obtain ⟨hlength, hmarks, -, hsorted, hbelow⟩ := h
  have hsub : k.queue.Sublist (l.queue.map g) := hq ▸ List.filter_sublist
  have hsorted' : (l.queue.map g).Pairwise fun x y => x.seq < y.seq := by
    rw [List.pairwise_map]
    simpa only [hseq] using hsorted
  refine ⟨hsub.length_le.trans (by simpa using hlength), hsub.countP_le.trans ?_, fun q hm => ?_, hsorted'.sublist hsub,
    fun q hm => ?_⟩
  · rw [List.countP_map]
    exact (List.countP_mono_left fun q _ => hmark q).trans hmarks
  · rw [hq] at hm
    exact (List.mem_filter.mp hm).2
  · obtain ⟨q', hm', rfl⟩ := List.mem_map.mp (hsub.subset hm)
    rw [hseq, hn]
    exact hbelow q' hm'

/-- A record that some channel takes enters a queue with room, when it is no second MARK. -/
theorem Link.queueFormed.enter {l : Link} (h : l.queueFormed) {r : Record} (hmark : ¬(r.kind = .mark ∧ l.hasMark = true))
    (htakes : (l.a.takes || l.b.takes) = true) (hroom : l.queue.length < Config.queueSize) : (l.enter r).queueFormed := by
  obtain ⟨hlength, hmarks, howed, hsorted, hbelow⟩ := h
  obtain ⟨hqueue, hnext, -, -⟩ := l.enter_eq r
  unfold Link.queueFormed
  rw [hqueue, hnext]
  simp only [List.mem_append, List.mem_singleton, List.pairwise_append, List.countP_append, List.length_append]
  refine ⟨hroom, ?_, ?_, ⟨hsorted, List.pairwise_singleton _ _, ?_⟩, ?_⟩
  · by_cases hr : r.kind = .mark
    · have hnone : l.queue.countP (fun q => q.isMark) = 0 := by
        simpa [hr, Link.hasMark, Queued.isMark, List.countP_eq_zero] using hmark
      rw [hnone, zero_add]
      exact List.countP_le_length
    · simpa [Queued.isMark, hr] using hmarks
  · rintro q (hm | rfl)
    · exact howed q hm
    · exact htakes
  · rintro q hm q' rfl
    exact hbelow q hm
  · rintro q (hm | rfl)
    · exact (hbelow q hm).trans (Nat.lt_succ_self _)
    · exact Nat.lt_succ_self _

/-- MARKs that change in place leave the queue formed when those owed to no channel leave it. -/
theorem Link.queueFormed.map_marks {l k : Link} (h : l.queueFormed) (g : Queued → Queued) (hseq : ∀ q, (g q).seq = q.seq)
    (hq : k.queue = (l.queue.map fun q => if q.isMark then g q else q).filter fun q => q.owedA || q.owedB)
    (hn : k.nextSeq = l.nextSeq) : k.queueFormed := by
  refine h.map_purge _ (fun q => ?_) (fun q => ?_) hq hn <;> split
  · exact hseq q
  · rfl
  · next hmark => exact fun _ => hmark
  · exact id

theorem Link.queueFormed.replaceMark {l : Link} (h : l.queueFormed) (r : Record) : (l.replaceMark r).queueFormed :=
  h.map_marks (fun q => { q with record := r, owedA := l.a.owesNewMark q.owedA, owedB := l.b.owesNewMark q.owedB })
    (fun _ => rfl) rfl rfl

theorem Link.queueFormed.withdrawMark {l : Link} (h : l.queueFormed) : l.withdrawMark.queueFormed :=
  h.map_marks (fun q => { q with owedA := q.owedA && l.a.carries q, owedB := q.owedB && l.b.carries q })
    (fun _ => rfl) rfl rfl

@[simp] theorem Queued.setOwed_isMark (q : Queued) (ch : Chan) (b : Bool) : (q.setOwed ch b).isMark = q.isMark := by
  simp [Queued.isMark]

/-- Records that cease to be owed to a channel leave the queue formed, however they are chosen. -/
theorem Link.queueFormed.setOwed {l k : Link} (h : l.queueFormed) (ch : Chan) (owed : Queued → Bool)
    (hq : k.queue = (l.queue.map fun q => q.setOwed ch (owed q)).filter fun q => q.owedA || q.owedB)
    (hn : k.nextSeq = l.nextSeq) : k.queueFormed :=
  h.map_purge (fun q => q.setOwed ch (owed q)) (fun q => by simp) (fun q => by simp) hq hn

/-! ### The link controller -/

/-- The link is formed when its channels and its queue are and its recent-frame list is that of a formed link. -/
theorem Link.formed.of_parts {l k : Link} (h : l.formed) (hchan : ∀ ch, (k.chan ch).formed) (hqueue : k.queueFormed)
    (hrecent : k.recent = l.recent) : k.formed := by
  obtain ⟨-, -, -, hlength, hnodup⟩ := h
  exact ⟨hchan .a, hchan .b, hqueue, hrecent ▸ hlength, hrecent ▸ hnodup⟩

theorem Link.formed.chan {l : Link} (h : l.formed) (ch : Chan) : (l.chan ch).formed := by
  obtain ⟨ha, hb, -⟩ := h
  cases ch
  · exact ha
  · exact hb

theorem Link.formed.queue {l : Link} (h : l.formed) : l.queueFormed := h.2.2.1

/-- Counting again changes no form (R132). -/
theorem Link.formed.recount {l : Link} (h : l.formed) (old : Link) : (Link.recount old l).formed :=
  h.of_parts (fun ch => by rw [Link.chan_recount]; exact (h.chan ch).of_eq) h.queue rfl

theorem Link.formed.setChan {l : Link} (h : l.formed) (ch : Chan) {c : LinkChannel} (hc : c.formed) :
    (l.setChan ch c).formed := by
  refine h.of_parts (fun other => ?_) (h.queue.sublist (by simp) (by simp)) (by simp)
  by_cases ho : other = ch
  · subst ho; simpa using hc
  · rw [Link.chan_setChan_other _ _ ho]; exact h.chan other

theorem Link.formed.enter {l : Link} (h : l.formed) {r : Record} (hmark : ¬(r.kind = .mark ∧ l.hasMark = true))
    (htakes : (l.a.takes || l.b.takes) = true) (hroom : l.queue.length < Config.queueSize) : (l.enter r).formed := by
  refine h.of_parts (fun ch => ?_) (h.queue.enter hmark htakes hroom) rfl
  rw [Link.chan_enter]
  exact (h.chan ch).of_eq

theorem Link.formed.replaceMark {l : Link} (h : l.formed) (r : Record) : (l.replaceMark r).formed := by
  refine h.of_parts (fun ch => ?_) (h.queue.replaceMark r) rfl
  rw [Link.chan_replaceMark, LinkChannel.supersede_eq]
  exact (h.chan ch).of_eq

theorem Link.formed.withdrawMark {l : Link} (h : l.formed) : l.withdrawMark.formed := by
  refine h.of_parts (fun ch => ?_) h.queue.withdrawMark rfl
  rw [Link.chan_withdrawMark, LinkChannel.withdraw_eq]
  exact (h.chan ch).of_eq

/-- A record that leaves a full queue makes room in it. -/
theorem Link.length_remove_lt {l : Link} (h : l.queueFormed) {q : Queued} (hq : q ∈ l.queue) :
    (l.remove q.seq).queue.length < Config.queueSize := by
  have hlt : (l.queue.filter fun x => x.seq != q.seq).length < l.queue.length :=
    List.length_filter_lt_length_iff_exists.mpr ⟨q, hq, by simp⟩
  exact hlt.trans_le h.1

theorem Link.formed.remove {l : Link} (h : l.formed) (seq : Nat) : (l.remove seq).formed := by
  refine h.of_parts (fun ch => ?_) (h.queue.sublist List.filter_sublist rfl) rfl
  rw [Link.chan_remove]
  exact (h.chan ch).of_eq

/-- Whatever becomes of a record handed over, the link is formed after it (R140 to R144). -/
theorem Link.formed.handOver {l : Link} (h : l.formed) (listenOnly : Bool) (r : Record) :
    (l.handOver listenOnly r).1.formed := by
  rcases l.handOver_cases listenOnly r with ⟨-, he⟩ | ⟨-, -, -, he⟩ | ⟨-, hmark, htakes, hroom, he⟩ | ⟨-, -, -, -, -, he⟩ |
    ⟨q, -, -, hmark, htakes, -, hq, he⟩ <;> rw [he]
  · exact h
  · exact h.replaceMark r
  · exact h.enter hmark htakes hroom
  · exact h
  · have hfull : ({ l with overflow := grow l.overflow 1 } : Link).formed := h
    have hmem : q ∈ l.queue := List.mem_reverse.mp (List.mem_of_find?_eq_some hq)
    refine (hfull.remove q.seq).enter ?_ ?_ (Link.length_remove_lt hfull.queue hmem)
    · rintro ⟨-, hstill⟩
      obtain ⟨x, hx, hxmark⟩ := List.any_eq_true.mp hstill
      exact absurd (List.any_eq_true.mpr ⟨x, (List.mem_filter.mp hx).1, hxmark⟩) (Bool.eq_false_iff.mp hmark)
    · simpa [Link.remove, Link.recount] using htakes

/-- The end of a frame leaves the link formed when it leaves its channel so (R134, R135, R141). -/
theorem Link.formed.afterFrame {l : Link} (h : l.formed) (ch : Chan) {c : LinkChannel} (hc : c.formed) (released : Bool)
    (seq : Nat) : (l.afterFrame ch c released seq).formed := by
  obtain ⟨heq, hchan, hother⟩ := l.afterFrame_eq ch c released seq
  refine h.of_parts (fun other => ?_) ?_ (by rw [heq])
  · by_cases ho : other = ch
    · subst ho; rw [hchan]; exact hc.of_eq
    · rw [hother other ho]; exact (h.chan other).of_eq
  · refine h.queue.map_purge _ (fun q => ?_) (fun q => ?_) (l.afterFrame_queue ch c released seq) (by rw [heq]) <;>
      split <;> simp

/-- Every record but one in flight ceases to be owed to a channel (R136, R138, R141). -/
theorem Link.formed.releaseAll_purge {l : Link} (h : l.formed) (ch : Chan) : (l.releaseAll ch).purge.formed :=
  h.of_parts (fun other => by rw [Link.chan_purge, Link.chan_releaseAll]; exact h.chan other)
    (h.queue.setOwed ch (fun q => q.owed ch && (l.chan ch).carries q) rfl rfl) rfl

/-- An abandoned transmission on an ACTIVE channel: below 8 faults it stays ACTIVE, and at 8 it is FAILED (R135, R136). -/
theorem Link.formed.abandonActive {l : Link} (h : l.formed) {ch : Chan} (ha : (l.chan ch).state = .active) (f : InFlight) :
    (l.abandonActive ch f).formed := by
  unfold Link.abandonActive
  dsimp only
  split
  · refine Link.formed.recount (Link.formed.releaseAll_purge (h.setChan ch ?_) ch) _
    exact rfl
  · next hlt =>
    refine h.afterFrame ch ?_ _ _
    unfold LinkChannel.formed
    simp only [ha]
    omega

/-! ### The recent-frame list (R146) -/

/-- An identity that is not in the list enters it, a full list losing its oldest. -/
theorem Link.formed.addRecent {l : Link} (h : l.formed) {i : Identity} (hi : i ∉ l.recent) :
    ({ l with recent := addRecent i l.recent } : Link).formed := by
  obtain ⟨ha, hb, hqueue, hlength, hnodup⟩ := h
  have hconcat {recent : List Identity} (hs : recent.Sublist l.recent) : (recent ++ [i]).Nodup :=
    List.nodup_append.mpr ⟨hnodup.sublist hs, List.nodup_singleton i, fun x hx y hy hxy =>
      hi (List.mem_singleton.mp hy ▸ hxy ▸ hs.subset hx)⟩
  refine ⟨ha, hb, hqueue, ?_, ?_⟩ <;> dsimp only <;> unfold Machine.addRecent <;> split
  · simp only [List.length_append, List.length_singleton]; omega
  · simp only [List.length_append, List.length_singleton, List.length_drop, Config.recentSize] at *; omega
  · exact hconcat (List.Sublist.refl _)
  · exact hconcat (List.drop_sublist 1 _)

end Sys2Proof.Machine
end


section
/-! SUPPORT. Every command keeps the link controller formed (R135, R141, R146). -/

namespace Sys2Proof.Machine

open Sys2Proof

/-! ### Steps that keep the link formed -/

/-- The step from s to t keeps the link controller formed. -/
def State.KeepsLink (s t : State) : Prop := s.link.formed → t.link.formed

/-- A step that leaves the link as it is. -/
theorem State.KeepsLink.of_link {s t : State} (h : t.link = s.link := by simp) : s.KeepsLink t := fun hs => h ▸ hs

theorem State.KeepsLink.refl (s : State) : s.KeepsLink s := id

theorem State.KeepsLink.trans {s t u : State} (h : s.KeepsLink t) (k : t.KeepsLink u) : s.KeepsLink u := k ∘ h

/-- A step that may be left out. -/
theorem State.KeepsLink.ite {s t : State} (test : Prop) [Decidable test] (h : s.KeepsLink t) :
    s.KeepsLink (if test then t else s) := by
  split
  · exact h
  · exact .refl s

/-! ### The link's own operations -/

theorem State.handOver_keepsLink (s : State) (r : Record) : s.KeepsLink (s.handOver r) := by
  intro hs
  have hover : (s.link.handOver s.listenOnly r).1.formed := hs.handOver s.listenOnly r
  unfold State.handOver
  dsimp only
  split <;> exact hover

theorem State.setService_keepsLink (s : State) : s.KeepsLink s.setService := id

theorem State.withdrawMark_keepsLink (s : State) : s.KeepsLink s.withdrawMark := fun hs => hs.withdrawMark

/-- A step that changes of the link the times, the frame in flight or the receiver of a channel (R129, R132). -/
theorem State.setChan_keepsLink (s : State) (ch : Chan) {c : LinkChannel} (hstate : c.state = (s.link.chan ch).state := by rfl)
    (hfaults : c.echoFaults = (s.link.chan ch).echoFaults := by rfl) (hprobe : c.probe = (s.link.chan ch).probe := by rfl) :
    s.KeepsLink (s.setChan ch c) :=
  fun hs => hs.setChan ch ((hs.chan ch).of_eq hstate hfaults (.inl hprobe))

/-! ### The book: strikes, boundaries and base ticks -/

theorem State.strike_keepsLink (s : State) (e : Entry) : s.KeepsLink (s.strike e) := by
  rcases s.strike_cases e with ⟨-, h⟩ | ⟨-, p, -, h⟩ | ⟨-, p, -, -, h⟩ | ⟨-, p, n, -, -, h⟩ <;> rw [h]
  · exact .refl s
  · exact .of_link
  · exact .of_link
  · unfold State.strikeAllot
    exact .trans (.of_link (by simp)) (State.handOver_keepsLink _ _)

theorem State.strikes_keepsLink (s : State) (es : List Entry) : s.KeepsLink (es.foldl State.strike s) := by
  induction es generalizing s with
  | nil => exact .refl s
  | cons e es ih => exact (s.strike_keepsLink e).trans (ih _)

theorem State.closeOpen_keepsLink (s : State) (kind : EntryKind) : s.KeepsLink (s.closeOpen kind) := by
  unfold State.closeOpen
  split
  · next c e _ _ =>
    have htold : s.KeepsLink ((s.fixFigures c (closedEntry s c kind e)).queueTally (closedEntry s c kind e)) := by
      unfold State.queueTally
      split
      · exact .trans (.of_link (by simp)) (State.handOver_keepsLink _ _)
      · exact .of_link
    dsimp only
    split
    · exact htold.trans (State.strike_keepsLink _ _)
    · exact htold
  · exact .refl s

theorem State.evict_keepsLink (s : State) : s.KeepsLink s.evict := by
  unfold State.evict
  split
  · exact .refl s
  · split
    · exact .refl s
    · next e _ _ => exact State.KeepsLink.ite (e.state = .settling) (s.strike_keepsLink e)

theorem State.removeNumber_keepsLink (s : State) (number : Option Period) : s.KeepsLink (s.removeNumber number) := by
  unfold State.removeNumber
  split
  · exact .refl s
  · split
    · exact .refl s
    · exact s.strike_keepsLink _

/-- The open of an entry sets the probe marks (R137). -/
theorem State.addEntry_keepsLink (s : State) (number : Option Period) (cause : Cause) :
    s.KeepsLink (s.addEntry number cause) := by
  unfold State.addEntry
  split
  · exact .refl s
  · exact fun ⟨ha, hb, hrest⟩ => ⟨ha.markProbe, hb.markProbe, hrest⟩

theorem State.zeroBoundary_keepsLink (s : State) : s.KeepsLink s.zeroBoundary := .of_link

theorem State.openNew_keepsLink (s : State) (number : Option Period) (cause : Cause) :
    s.KeepsLink (s.openNew number cause) :=
  (((s.evict_keepsLink).trans (State.removeNumber_keepsLink _ number)).trans (.ite _ (State.zeroBoundary_keepsLink _))).trans
    (State.addEntry_keepsLink _ number cause)

theorem State.boundary_keepsLink (s : State) (passed : Option Nat) (n : Period) (cause : Cause) :
    s.KeepsLink (s.boundary passed n cause) := by
  have hbefore : s.KeepsLink (s.beforeOpen passed) := by
    refine .trans ?_ (.of_link (State.clearTimebase_link _))
    cases passed
    · exact s.closeOpen_keepsLink _
    · exact (s.closeOpen_keepsLink _).trans (.of_link (State.recordJump_link _ _))
  have hopen := hbefore.trans (State.openNew_keepsLink _ (some n) cause)
  rw [State.boundary_eq]
  dsimp only
  split
  · exact hopen
  · exact hopen.trans (State.withdrawMark_keepsLink (State.restartSeconds _))

theorem State.ownExpiry_keepsLink (s : State) : s.KeepsLink s.ownExpiry := by
  unfold State.ownExpiry
  split
  · exact .refl s
  · exact (s.boundary_keepsLink _ _ _).trans (State.handOver_keepsLink _ _)

theorem State.soloEnd_keepsLink (s : State) : s.KeepsLink s.soloEnd :=
  (s.boundary_keepsLink _ _ _).trans (State.handOver_keepsLink _ _)

theorem State.heardMark_keepsLink (s : State) (n : Period) (station : Nat) : s.KeepsLink (s.heardMark n station) := by
  unfold State.heardMark
  split
  · exact s.boundary_keepsLink _ _ _
  · split; · exact s.withdrawMark_keepsLink
    split; · exact s.boundary_keepsLink _ _ _
    split; · exact s.boundary_keepsLink _ _ _
    exact .refl s
  · exact .refl s

theorem State.evidence_keepsLink (s : State) (n : Period) (station : Nat) : s.KeepsLink (s.evidence n station) := by
  unfold State.evidence
  split
  · exact s.boundary_keepsLink _ _ _
  · split; · exact s.boundary_keepsLink _ _ _
    split; · exact s.boundary_keepsLink _ _ _
    exact .refl s
  · exact .refl s

theorem State.overdue_keepsLink (s : State) : s.KeepsLink s.overdue :=
  .ite _ ((((s.strikes_keepsLink s.waitsOver).trans (.ite _ (State.ownExpiry_keepsLink _))).trans
    (.ite _ (State.soloEnd_keepsLink _))).trans (.ite _ (.of_link (State.takeSample_link _))))

theorem State.baseTick_keepsLink (s : State) : s.KeepsLink s.baseTick :=
  s.overdue_keepsLink.trans (.of_link (State.countTick_link _))

theorem State.secondPulse_keepsLink (s : State) : s.KeepsLink s.secondPulse := by
  unfold State.secondPulse
  split
  · exact .refl s
  · exact s.overdue_keepsLink.trans .of_link

/-! ### Tallies and allotments -/

theorem State.revisedAllot_keepsLink (s : State) (role : Role) (e : Entry) (p : AllotPart) (items : List ContributorItem) :
    s.KeepsLink (s.revisedAllot role e p items) := State.setService_keepsLink _

theorem State.tallyToBook_keepsLink (s : State) (f : Frame) : s.KeepsLink (s.tallyToBook f) := by
  unfold State.tallyToBook
  split
  · next c e _ _ =>
    split
    · exact .refl s
    · refine .trans (t := s.updateLastBasis f.source.toNat (tallyBasis c.basis f)) .of_link ?_
      dsimp only
      generalize s.updateLastBasis f.source.toNat (tallyBasis c.basis f) = u
      split
      · exact .refl u
      · exact .trans (.of_link (by simp)) (.ite _ (State.strike_keepsLink _ _))
      · unfold State.tallyStruck
        split; · exact .refl u
        split; · exact .refl u
        split
        · rw [State.reviseAllot_eq]
          exact (u.revisedAllot_keepsLink _ _ _ _).trans (State.handOver_keepsLink _ _)
        · exact u.setService_keepsLink
  · exact s.setService_keepsLink

theorem State.allotmentToBook_keepsLink (s : State) (f : Frame) : s.KeepsLink (s.allotmentToBook f) := by
  unfold State.allotmentToBook
  split
  · exact s.setService_keepsLink
  · split; · exact .refl s
    split; · exact id
    split; · exact .refl s
    split
    · exact .refl s
    · unfold State.allotmentSettling
      dsimp only
      split
      · exact .trans (.of_link (by simp)) (.ite _ (State.strike_keepsLink _ _))
      · exact .ite _ .of_link
    · exact .ite _ s.setService_keepsLink

theorem State.takeRecord_keepsLink (s : State) (n : Period) (station : Nat) {take : State → State}
    (htake : ∀ u : State, u.KeepsLink (take u)) : s.KeepsLink (s.takeRecord n station take) := by
  have hev := s.evidence_keepsLink n station
  rcases s.takeRecord_cases n station take with ⟨-, h⟩ | ⟨-, h⟩ <;> rw [h]
  · exact hev.trans (State.setService_keepsLink _)
  · exact hev.trans (htake _)

/-! ### Received frames and requests -/

theorem State.hearFrame_keepsLink (s : State) (ch : Chan) : s.KeepsLink (s.hearFrame ch) := s.setChan_keepsLink ch

/-- An identity enters the recent-frame list only where the duplicate filter did not find it there (R146). -/
theorem State.heard_keepsLink {s : State} {row : FrameRow} {ch : Chan} {f : Frame} (h : s.isHeard row ch f) :
    s.KeepsLink (s.heard ch f) := by
  obtain ⟨-, -, -, -, hnew⟩ := h
  intro hs
  have hhear : (s.hearFrame ch).link.formed := (s.hearFrame_keepsLink ch) hs
  exact hhear.addRecent (i := f.identity) (by simpa [State.hearFrame, State.setChan] using hnew)

theorem State.receive_keepsLink (s : State) (row : FrameRow) (ch : Chan) (f : Frame) {k : State → State}
    (hk : ∀ u : State, u.KeepsLink (k u)) : s.KeepsLink (s.receive row ch f k) := by
  have hhear := s.hearFrame_keepsLink ch
  rcases s.receive_cases row ch f k with h | h | h | h | ⟨h, hheard, -⟩ | ⟨h, hheard, -⟩ <;> rw [h]
  · exact .refl s
  · exact s.setChan_keepsLink ch
  · exact hhear
  · exact hhear
  · exact State.heard_keepsLink hheard
  · exact (State.heard_keepsLink hheard).trans (hk _)

theorem State.query_keepsLink (s : State) (f : Frame) {k : State → State} (hk : ∀ u : State, u.KeepsLink (k u)) :
    s.KeepsLink (s.query f k) :=
  State.query_keeps .of_link (.trans .of_link (hk _))

theorem State.answerResult_keepsLink (s : State) (f : Frame) : s.KeepsLink (s.answerResult f) := by
  unfold State.answerResult
  split
  · exact s.handOver_keepsLink _
  · split <;> exact s.handOver_keepsLink _

theorem State.answerLatest_keepsLink (s : State) (f : Frame) : s.KeepsLink (s.answerLatest f) := by
  unfold State.answerLatest
  split <;> exact s.handOver_keepsLink _

theorem State.answerCondition_keepsLink (s : State) (f : Frame) : s.KeepsLink (s.answerCondition f) := by
  unfold State.answerCondition
  dsimp only
  split <;> exact s.handOver_keepsLink _

theorem State.answerOrder_keepsLink (s : State) (f : Frame) (outcome : RequestOutcome) (body : List Byte) :
    s.KeepsLink (s.answerOrder f outcome body) := by
  unfold State.answerOrder
  split
  · exact .refl s
  · exact s.handOver_keepsLink _

theorem State.refuse_keepsLink (s : State) (f : Frame) (outcome : RequestOutcome) : s.KeepsLink (s.refuse f outcome) := by
  let refused := State.setService
    (State.recordRefusal { s with requests := { s.requests with refused := grow s.requests.refused 1 } } f outcome)
  have hrefused : s.KeepsLink refused := State.setService_keepsLink _
  unfold State.refuse
  dsimp only
  split
  · exact hrefused
  · exact hrefused.trans (State.answerOrder_keepsLink _ f _ _)

theorem State.takeZero_keepsLink (s : State) (f : Frame) : s.KeepsLink (s.takeZero f) := by
  unfold State.takeZero
  split
  · exact s.refuse_keepsLink f _
  · exact .trans (.of_link (by simp)) (State.answerOrder_keepsLink _ f _ _)

theorem State.takeJob_keepsLink (s : State) (f : Frame) : s.KeepsLink (s.takeJob f) := by
  unfold State.takeJob
  split
  · exact s.refuse_keepsLink f _
  · exact .trans (.of_link (by simp)) (State.answerOrder_keepsLink _ f _ _)

theorem State.unknownRequest_keepsLink (s : State) (f : Frame) :
    s.KeepsLink (if isOrder f then s.unknownOrder f else s.unknownQuery f) := by
  split
  · unfold State.unknownOrder
    split
    · exact s.refuse_keepsLink f _
    · exact .trans (.of_link (by simp)) (State.answerOrder_keepsLink _ f _ _)
  · exact s.query_keepsLink f fun u => .trans (.of_link (by simp)) (State.handOver_keepsLink _ _)

/-! ### The commands -/

section
variable (s : State)

theorem State.loadSucceeds_keepsLink (image : List Byte) (role : Role) (now : Nat) :
    s.KeepsLink (s.loadSucceeds image role now) := by
  have hconfigure (c : Settings) (own : Option Nat) (clamped : Bool) : s.KeepsLink (s.configure c own clamped image now) := id
  exact (hconfigure _ _ _).trans (State.openNew_keepsLink _ none .start)

theorem execImageReadAttempt_keepsLink (memory : List Byte) (now : Nat) :
    EndsIn s.KeepsLink (execImageReadAttempt memory now s) := by
  refine .ite (fun _ => ?_) (.refl s)
  split
  · split
    · exact s.loadSucceeds_keepsLink _ _ _
    · exact .of_link
  · exact .of_link

theorem execResetRelease_keepsLink (straps : Straps) (levels : Vector Level 8) (inhibitA inhibitB : Bool) :
    EndsIn s.KeepsLink (execResetRelease straps levels inhibitA inhibitB s) :=
  .ite (fun _ ⟨_, _, hrest⟩ =>
    ⟨LinkChannel.released_formed inhibitA, LinkChannel.released_formed inhibitB, hrest⟩) (.refl s)

theorem execWaitTimerExpiry_keepsLink (number : Period) : EndsIn s.KeepsLink (execWaitTimerExpiry number s) := by
  unfold execWaitTimerExpiry
  split
  · exact .ite (fun _ => s.strike_keepsLink _) (.refl s)
  · exact .next (.refl s)

theorem execQuietWaitTimeout_keepsLink : EndsIn s.KeepsLink (execQuietWaitTimeout s) := by
  unfold execQuietWaitTimeout
  split
  · exact .ite (fun _ => .of_link) (.refl s)
  · exact .next (.refl s)

theorem execRequestSent_keepsLink : EndsIn s.KeepsLink (execRequestSent s) := by
  unfold execRequestSent
  split <;> exact .next .of_link

theorem execReplyWindowClose_keepsLink (window : WindowEnd) : EndsIn s.KeepsLink (execReplyWindowClose window s) := by
  unfold execReplyWindowClose
  split
  · exact .ite (fun _ => .of_link) (.refl s)
  · exact .next (.refl s)

theorem execFrameBegin_keepsLink (ch : Chan) (elapsed : Nat) : EndsIn s.KeepsLink (execFrameBegin ch elapsed s) := by
  refine .next ?_
  split
  · exact .refl s
  · unfold State.tryBegin
    split
    · split <;> exact s.setChan_keepsLink ch
    · exact s.setChan_keepsLink ch

theorem execFrameGoneOutWhole_keepsLink (ch : Chan) : EndsIn s.KeepsLink (execFrameGoneOutWhole ch s) := by
  unfold execFrameGoneOutWhole
  split
  · exact .next (.refl s)
  · refine .next ?_
    split
    · exact .refl s
    · exact fun hs => hs.afterFrame ch (hs.chan ch).goneOutWhole _ _

theorem execEchoMismatch_keepsLink (ch : Chan) : EndsIn s.KeepsLink (execEchoMismatch ch s) := by
  unfold execEchoMismatch
  split
  · exact .next (.refl s)
  · refine .next ?_
    split
    · exact .refl s
    · split
      · next hactive => exact fun hs => hs.abandonActive hactive _
      · exact fun hs => hs.afterFrame ch (hs.chan ch) _ _

theorem execInhibitActive_keepsLink (ch : Chan) : EndsIn s.KeepsLink (execInhibitActive ch s) := by
  refine .next ?_
  split
  · exact .refl s
  · intro hs
    have hreleased := hs.releaseAll_purge ch
    exact Link.formed.recount (hreleased.setChan ch (hreleased.chan ch).inhibit) _

theorem execInhibitReleased_keepsLink (ch : Chan) : EndsIn s.KeepsLink (execInhibitReleased ch s) := by
  refine .ite (fun _ hs => ?_) (.refl s)
  exact hs.setChan ch (show (0 : Nat) < 8 by decide)

theorem execBitRateFixed_keepsLink (ch : Chan) (rate : BitRate) : EndsIn s.KeepsLink (execBitRateFixed ch rate s) := by
  refine .ite (fun _ hs => ?_) (.refl s)
  obtain ⟨ha, hb, hrest⟩ := hs.setChan ch (c := { s.link.chan ch with quietTime := 0 }) (hs.chan ch).of_eq
  exact ⟨ha.of_eq, hb.of_eq, hrest⟩

theorem execInhibitedFrameEnd_keepsLink (ch : Chan) : EndsIn s.KeepsLink (execInhibitedFrameEnd ch s) := by
  unfold execInhibitedFrameEnd
  split
  · exact .next (.refl s)
  · exact .ite (fun _ hs => hs.afterFrame ch (hs.chan ch) _ _) (.refl s)

/-- Every command keeps the link controller formed. -/
theorem exec_keepsLink (i : Instr) : EndsIn s.KeepsLink (exec i s) := by
  cases i with
  | hardwareReset => exact .next fun _ => reset_linkFormed
  | resetRelease straps levels inhibitA inhibitB => exact execResetRelease_keepsLink s straps levels inhibitA inhibitB
  | imageReadAttempt memory now => exact execImageReadAttempt_keepsLink s memory now
  | retryWaitEnd => exact .ite (fun _ => .of_link) (.refl s)
  | internalSecond =>
    refine .next ?_
    split
    · exact .refl s
    · exact s.baseTick_keepsLink
  | secondPulse line =>
    refine .ite (fun _ => ?_) (.refl s)
    exact .trans (.of_link (by simp)) (State.secondPulse_keepsLink _)
  | lossWatchExpiry => exact .ite (fun _ => .of_link) (.refl s)
  | periodExpiry => exact .ite (fun _ => s.ownExpiry_keepsLink) (.refl s)
  | soloWaitEnd => exact .ite (fun _ => s.soloEnd_keepsLink) (.refl s)
  | sampleTick => exact .ite (fun _ => .of_link) (.refl s)
  | waitTimerExpiry number => exact execWaitTimerExpiry_keepsLink s number
  | alertPulseEnd alert => cases alert <;> exact .next .of_link
  | energyPulse line => exact .ite (fun _ => .of_link) (.refl s)
  | cutPulse line => exact .ite (fun _ => .of_link) (.refl s)
  | rejectPulse line => exact .ite (fun _ => .of_link) (.refl s)
  | runningLevelChange line edge => exact .ite (fun _ => .of_link) (.refl s)
  | faultLevelChange line edge => exact .ite (fun _ => .of_link) (.refl s)
  | debouncedEdge line edge time => exact .ite (fun _ => .of_link) (.refl s)
  | meterLineQuiet elapsed =>
    refine .next ?_
    split <;> exact .of_link
  | quietWaitTimeout => exact execQuietWaitTimeout_keepsLink s
  | requestSent => exact execRequestSent_keepsLink s
  | replyReceived reply => exact .next .of_link
  | replyWindowClose window => exact execReplyWindowClose_keepsLink s window
  | strayMeterByte byte =>
    refine .next ?_
    split <;> exact .of_link
  | frameBegin ch elapsed => exact execFrameBegin_keepsLink s ch elapsed
  | defer ch =>
    refine .next ?_
    split
    · exact .refl s
    · exact s.setChan_keepsLink ch
  | frameGoneOutWhole ch => exact execFrameGoneOutWhole_keepsLink s ch
  | echoMismatch ch => exact execEchoMismatch_keepsLink s ch
  | inhibitActive ch => exact execInhibitActive_keepsLink s ch
  | inhibitReleased ch => exact execInhibitReleased_keepsLink s ch
  | receiveError ch raw => exact .ite (fun _ => s.setChan_keepsLink ch) (.refl s)
  | bitRateFixed ch rate => exact execBitRateFixed_keepsLink s ch rate
  | mark ch frame => exact .next (s.receive_keepsLink _ _ _ fun u => u.heardMark_keepsLink _ _)
  | tally ch frame =>
    exact .next (s.receive_keepsLink _ _ _ fun u => u.takeRecord_keepsLink _ _ fun v => v.tallyToBook_keepsLink frame)
  | allotment ch frame =>
    exact .next (s.receive_keepsLink _ _ _ fun u => u.takeRecord_keepsLink _ _ fun v => v.allotmentToBook_keepsLink frame)
  | answerHeard ch frame => exact .next (s.receive_keepsLink _ _ _ fun u => .refl u)
  | queryResult ch frame =>
    exact .next (s.receive_keepsLink _ _ _ fun u => u.query_keepsLink _ fun v => v.answerResult_keepsLink _)
  | queryLatest ch frame =>
    exact .next (s.receive_keepsLink _ _ _ fun u => u.query_keepsLink _ fun v => v.answerLatest_keepsLink _)
  | queryCampaign ch frame =>
    exact .next (s.receive_keepsLink _ _ _ fun u => u.query_keepsLink _ fun v => v.handOver_keepsLink _)
  | queryCondition ch frame =>
    exact .next (s.receive_keepsLink _ _ _ fun u => u.countQuery.answerCondition_keepsLink frame)
  | queryChannels ch frame =>
    exact .next (s.receive_keepsLink _ _ _ fun u => u.query_keepsLink _ fun v => v.handOver_keepsLink _)
  | unknownRequest ch frame => exact .next (s.receive_keepsLink _ _ _ fun u => u.unknownRequest_keepsLink frame)
  | orderZero ch frame => exact .next (s.receive_keepsLink _ _ _ fun u => u.takeZero_keepsLink frame)
  | orderJob ch frame => exact .next (s.receive_keepsLink _ _ _ fun u => u.takeJob_keepsLink frame)
  | receiverStart ch => exact .ite (fun _ => s.setChan_keepsLink ch) (.refl s)
  | inhibitedFrameEnd ch => exact execInhibitedFrameEnd_keepsLink s ch

end

/-- Settles O58: by the commands, whose own link operations keep the queue, the channels and the recent-frame list formed. -/
theorem stepKeepsTheLinkFormed : Obligations.StepKeepsTheLinkFormed := by
  unfold Obligations.StepKeepsTheLinkFormed
  intro s t
  exact step_keeps (P := fun u => u.link.formed) (fun _ _ => id) fun i u hu => (exec_keepsLink u i).mono fun _ h => h hu

end Sys2Proof.Machine
end

section
/-! SUPPORT. The deference classes: the wait of a record and the pick of a channel (R131, R133). -/

namespace Sys2Proof.Machine

open Sys2Proof

/-- The classes are 64 bit times apart, and the stations 1 to 30 less than that (R131). -/
theorem waitOf_lt_of_class_lt {x y : RecordKind} {n k : Nat} (hn : n ≤ 30) (hk : 1 ≤ k)
    (h : x.deferenceClass < y.deferenceClass) : waitOf x n < waitOf y k := by
  unfold waitOf
  omega

/-- The record is one of the list, none of the list is of a lower class, and none of its class in the list entered earlier (R133). -/
def Queued.IsPickOf (q : Queued) (qs : List Queued) : Prop :=
  q ∈ qs ∧ ∀ r ∈ qs, q.record.kind.deferenceClass ≤ r.record.kind.deferenceClass
    ∧ (r.record.kind.deferenceClass = q.record.kind.deferenceClass → q.seq ≤ r.seq)

/-- A first record of a strictly lower class than the pick's is the pick itself, and any other first record leaves it. -/
theorem foldl_betterPick {b : Queued} {qs : List Queued} (h : (b :: qs).Pairwise fun x y => x.seq < y.seq) :
    ∃ q, qs.foldl betterPick (some b) = some q ∧ q.IsPickOf (b :: qs) := by
  induction qs generalizing b with
  | nil => exact ⟨b, rfl, by simp [Queued.IsPickOf]⟩
  | cons x xs ih =>
    obtain ⟨hb, hx, hxs⟩ : (∀ y ∈ x :: xs, b.seq < y.seq) ∧ (∀ y ∈ xs, x.seq < y.seq)
        ∧ xs.Pairwise fun x y => x.seq < y.seq := by simpa only [List.pairwise_cons] using h
    by_cases hlt : x.record.kind.deferenceClass < b.record.kind.deferenceClass
    · obtain ⟨q, hq, hmem, hbest⟩ := ih (b := x) (List.pairwise_cons.mpr ⟨hx, hxs⟩)
      obtain ⟨hle, -⟩ := hbest x List.mem_cons_self
      refine ⟨q, by simpa [betterPick, hlt] using hq, List.mem_cons_of_mem _ hmem, ?_⟩
      rintro r (_ | ⟨_, hr⟩)
      · exact ⟨by omega, fun heq => by omega⟩
      · exact hbest r hr
    · obtain ⟨q, hq, hmem, hbest⟩ := ih (b := b)
        (List.pairwise_cons.mpr ⟨fun y hy => hb y (List.mem_cons_of_mem _ hy), hxs⟩)
      obtain ⟨hle, hfirst⟩ := hbest b List.mem_cons_self
      refine ⟨q, by simpa [betterPick, hlt] using hq, ?_, ?_⟩
      · rcases List.mem_cons.mp hmem with rfl | hmem
        · exact List.mem_cons_self
        · exact List.mem_cons_of_mem _ (List.mem_cons_of_mem _ hmem)
      · intro r hr
        rcases List.mem_cons.mp hr with rfl | hr
        · exact ⟨hle, hfirst⟩
        · rcases List.mem_cons.mp hr with rfl | hr
          · have hseq := hb r List.mem_cons_self
            exact ⟨by omega, fun heq => (hfirst (by omega)).trans hseq.le⟩
          · exact hbest r (List.mem_cons_of_mem _ hr)

/-- The pick of a channel over a queue in the order of entry: none when nothing is owed to it, else the pick of what is (R133). -/
theorem Link.pick_cases {l : Link} (h : l.queueFormed) (ch : Chan) :
    (l.pick ch = none ∧ l.queue.filter (fun q => q.owed ch) = [])
      ∨ ∃ q, l.pick ch = some q ∧ q.IsPickOf (l.queue.filter fun q => q.owed ch) := by
  obtain ⟨-, -, -, hsorted, -⟩ := h
  have howed := hsorted.filter (fun q => q.owed ch)
  unfold Link.pick
  cases hq : l.queue.filter fun q => q.owed ch with
  | nil => exact .inl ⟨rfl, rfl⟩
  | cons b qs => exact .inr (foldl_betterPick (hq ▸ howed))

/-- Settles O23: by the waits of the classes and the pick among the records owed to the channel. -/
theorem pickAndWaitFollowTheDeferenceClasses : Obligations.PickAndWaitFollowTheDeferenceClasses := by
  unfold Obligations.PickAndWaitFollowTheDeferenceClasses
  refine ⟨⟨fun n => ⟨rfl, rfl, rfl, rfl⟩, fun x y n k _ hn hk _ h => waitOf_lt_of_class_lt hn hk h⟩, fun l ch h => ?_⟩
  rcases l.pick_cases h ch with ⟨hnone, hempty⟩ | ⟨q, hsome, hmem, hbest⟩
  · simp only [hnone, reduceCtorEq, false_implies, implies_true, and_true, true_iff]
    simpa [List.filter_eq_nil_iff] using hempty
  · obtain ⟨hqueue, howed⟩ := List.mem_filter.mp hmem
    refine ⟨⟨fun hnone => absurd (hsome.symm.trans hnone) (by simp), fun hall => ?_⟩, ?_⟩
    · exact absurd howed (by simp [hall q hqueue])
    · intro q' hq'
      obtain rfl : q = q' := Option.some.inj (hsome.symm.trans hq')
      exact ⟨hqueue, howed, fun r hr hrowed => hbest r (List.mem_filter.mpr ⟨hr, hrowed⟩)⟩

end Sys2Proof.Machine
end

section
/-! SUPPORT. What becomes of a record handed over, each way by its own condition (R132, R133, R137, R140, R142 to R144, R150). -/

namespace Sys2Proof.Machine

open Sys2Proof

/-! ### The conditions of a handover -/

theorem State.listenOnly_iff (s : State) : s.listenOnly = true
    ↔ s.loader.own = none ∨ (s.link.a.state = .inhibited ∧ s.link.b.state = .inhibited) := by
  simp [State.listenOnly]

theorem Queued.isMark_iff (q : Queued) : q.isMark = true ↔ q.record.kind = .mark := by simp [Queued.isMark]

theorem Link.hasMark_iff (l : Link) : l.hasMark = true ↔ ∃ q ∈ l.queue, q.record.kind = .mark := by simp [Link.hasMark]

theorem Link.owes_iff (l : Link) (ch : Chan) : l.owes ch = true ↔ ∃ q ∈ l.queue, q.owed ch = true := by simp [Link.owes]

theorem LinkChannel.carries_eq_false_iff (c : LinkChannel) (q : Queued) :
    c.carries q = false ↔ ∀ f, c.inFlight = some f → f.seq ≠ q.seq := by
  unfold LinkChannel.carries
  cases c.inFlight <;> simp

/-- A MARK may displace the record: an ANSWER that is not in flight on either channel (R142). -/
def Link.mayDisplace (l : Link) (q : Queued) : Prop :=
  q.record.kind = .answer ∧ ∀ ch f, (l.chan ch).inFlight = some f → f.seq ≠ q.seq

theorem Link.mayDisplace_iff (l : Link) (q : Queued) :
    (q.record.kind == .answer && !l.a.carries q && !l.b.carries q) = true ↔ l.mayDisplace q := by
  simp only [Bool.and_eq_true, beq_iff_eq, Bool.not_eq_true', LinkChannel.carries_eq_false_iff, Link.mayDisplace, and_assoc]
  refine and_congr_right fun _ => ⟨fun ⟨ha, hb⟩ ch => ?_, fun h => ⟨h .a, h .b⟩⟩
  cases ch
  · exact ha
  · exact hb

theorem Link.displaceable_eq_none {l : Link} (h : ∀ q ∈ l.queue, ¬l.mayDisplace q) : l.displaceable = none := by
  unfold Link.displaceable
  rw [List.find?_eq_none]
  intro q hq htest
  exact h q (List.mem_reverse.mp hq) ((l.mayDisplace_iff q).mp htest)

/-- The displaced ANSWER is the last of the queue that a MARK may displace (R142). -/
theorem Link.displaceable_eq_some {l : Link} {earlier later : List Queued} {q : Queued} (hqueue : l.queue = earlier ++ q :: later)
    (hq : l.mayDisplace q) (hlater : ∀ x ∈ later, ¬l.mayDisplace x) : l.displaceable = some q := by
  unfold Link.displaceable
  have hnone : later.reverse.find? (fun x => x.record.kind == .answer && !l.a.carries x && !l.b.carries x) = none :=
    List.find?_eq_none.mpr fun x hx htest => hlater x (List.mem_reverse.mp hx) ((l.mayDisplace_iff x).mp htest)
  rw [hqueue, List.reverse_append, List.reverse_cons, List.append_assoc, List.find?_append, hnone, Option.none_or,
    List.singleton_append]
  exact List.find?_cons_of_pos (by exact (l.mayDisplace_iff q).mpr hq)

/-! ### The five ends of a handover (R140 to R144) -/

section
variable {l : Link} {r : Record}

theorem Link.handOver_of_unsent {listenOnly : Bool} (h : listenOnly = true
    ∨ (¬(r.kind = .mark ∧ l.hasMark = true) ∧ l.a.takes = false ∧ l.b.takes = false)) :
    l.handOver listenOnly r = ({ l with unsent := grow l.unsent 1 }, .unsent) := by
  rcases h with rfl | ⟨hmark, ha, hb⟩
  · rfl
  · cases listenOnly
    · have hno : (r.kind == .mark && l.hasMark) = false := by simpa using hmark
      simp [Link.handOver, hno, ha, hb]
    · rfl

theorem Link.handOver_of_replaces (h : r.kind = .mark ∧ l.hasMark = true) :
    l.handOver false r = (l.replaceMark r, .replaced) := by
  obtain ⟨hkind, hmark⟩ := h
  simp [Link.handOver, hkind, hmark]

variable (hmark : ¬(r.kind = .mark ∧ l.hasMark = true)) (htakes : (l.a.takes || l.b.takes) = true)
include hmark htakes

theorem Link.handOver_of_room (hroom : l.queue.length < Config.queueSize) :
    l.handOver false r = (l.enter r, .entered) := by
  have hno : (r.kind == .mark && l.hasMark) = false := by simpa using hmark
  simp [Link.handOver, hno, htakes, hroom]

theorem Link.handOver_of_full (hfull : Config.queueSize ≤ l.queue.length) :
    l.handOver false r = match (if r.kind = .mark then l.displaceable else none) with
      | none => ({ l with overflow := grow l.overflow 1 }, .overflowed)
      | some q => ((Link.remove { l with overflow := grow l.overflow 1 } q.seq).enter r, .displaced) := by
  have hno : (r.kind == .mark && l.hasMark) = false := by simpa using hmark
  simp only [Link.handOver, hno, htakes, Nat.not_lt.mpr hfull, Bool.false_eq_true, if_false, Bool.not_true, beq_iff_eq] <;> rfl

end

/-- The station after a handover, by what became of the record. -/
theorem State.handOver_of_link {s : State} {r : Record} {silent : Bool} (hs : s.listenOnly = silent) {l : Link} {became : Handover}
    (h : s.link.handOver silent r = (l, became)) :
    s.handOver r = if became.overflows then State.setService { s with link := l } else { s with link := l } := by
  simp [State.handOver, hs, h]

/-! ### The MARK that takes a new number (R143) -/

/-- The queue with the new record in the place of the MARK, owed to each channel that is owed the new number. -/
def Link.renewed (l : Link) (r : Record) : List Queued :=
  l.queue.map fun q =>
    if q.isMark then { q with record := r, owedA := l.a.owesNewMark q.owedA, owedB := l.b.owesNewMark q.owedB } else q

theorem Link.replaceMark_queue (l : Link) (r : Record) :
    (l.replaceMark r).queue = (l.renewed r).filter fun q => q.owedA || q.owedB := rfl

/-- A renewed MARK that is owed to no channel is counted as unsent. -/
theorem Link.replaceMark_unsent (l : Link) (r : Record) : (l.replaceMark r).unsent
    = if ∃ q ∈ l.renewed r, q.record.kind = .mark ∧ q.owedA = false ∧ q.owedB = false then grow l.unsent 1 else l.unsent := by
  have hlost : (∃ q ∈ l.renewed r, q.record.kind = .mark ∧ q.owedA = false ∧ q.owedB = false)
      ↔ ((l.renewed r).any fun q => q.isMark && !(q.owedA || q.owedB)) = true := by
    simp [Queued.isMark]
  simp only [hlost]
  rfl

/-! ### The frame in flight of a MARK that takes a new number (R143) -/

/-- The channel carries a MARK of the queue in a frame that goes on when the MARK takes a new number. -/
def LinkChannel.carriesMark (c : LinkChannel) (queue : List Queued) (f : InFlight) : Prop :=
  c.state ≠ .inhibited ∧ ∃ q ∈ queue, q.record.kind = .mark ∧ q.seq = f.seq

theorem LinkChannel.supersede_of_carriesMark {c : LinkChannel} {queue : List Queued} {f : InFlight} (hf : c.inFlight = some f)
    (h : c.carriesMark queue f) :
    (c.supersede Queued.isMark queue).inFlight = some { f with superseded := true, withdrawn := false } := by
  have htest : (c.state != .inhibited && queue.any fun q => q.isMark && q.seq == f.seq) = true := by
    simpa [LinkChannel.carriesMark, Queued.isMark] using h
  simp only [LinkChannel.supersede, hf, htest, if_true]

theorem LinkChannel.supersede_of_not_carriesMark {c : LinkChannel} {queue : List Queued}
    (h : ∀ f, c.inFlight = some f → ¬c.carriesMark queue f) : c.supersede Queued.isMark queue = c := by
  unfold LinkChannel.supersede
  split
  · rfl
  · next f hf =>
    refine if_neg fun htest => h f hf ?_
    simpa [LinkChannel.carriesMark, Queued.isMark] using htest

/-! ### How a channel counts after a change of what it is owed (R132, R133) -/

section
variable {c : LinkChannel} {before now : Bool}

theorem LinkChannel.recount_transmitting (h : c.inFlight ≠ none) : c.recount before now = c :=
  if_pos (Option.isSome_iff_ne_none.mpr h)

variable (h : c.inFlight = none)
include h

theorem LinkChannel.recount_owed_nothing : c.recount before false = { c with counted := none } := by
  simp [LinkChannel.recount, h]

theorem LinkChannel.recount_still_owed (hcounted : c.counted ≠ none) : c.recount true true = c := by
  simp [LinkChannel.recount, h, Option.isSome_iff_ne_none.mpr hcounted]

theorem LinkChannel.recount_newly_owed (hstart : before = false ∨ c.counted = none) : c.recount before true
    = { c with counted := some (if 8 ≤ c.quietTime then 0 else c.quietTime) } := by
  have htest : (before && c.counted.isSome) = false := by rcases hstart with rfl | hnone <;> simp [*]
  simp only [LinkChannel.recount, h, htest, Option.isSome_none, Bool.false_eq_true, if_false, Bool.not_true]
  rfl

end

/-! ### The handover -/

/-- What a channel takes does not hang on the record that left: the MARK that displaces one is owed what the link before it owes. -/
theorem Link.enter_remove (l : Link) (seq : Nat) (r : Record) :
    let kept := l.remove seq
    kept.enter r = Link.recount kept
      { kept with
          queue := kept.queue ++ [{ seq := l.nextSeq, record := r, owedA := l.a.takes, owedB := l.b.takes }]
          nextSeq := l.nextSeq + 1
          a := { kept.a with probe := false }
          b := { kept.b with probe := false } } := by
  have ha : (l.remove seq).a.takes = l.a.takes := LinkChannel.recount_takes _ _ _
  have hb : (l.remove seq).b.takes = l.b.takes := LinkChannel.recount_takes _ _ _
  simp only [Link.enter, ha, hb]
  rfl

/-- Into a full queue: the record is dropped, or displaces an ANSWER, and either way overflow is counted and SERVICE set. -/
theorem State.handOver_full {s : State} {r : Record} (hs : s.listenOnly = false)
    (hmark : ¬(r.kind = .mark ∧ s.link.hasMark = true)) (htakes : (s.link.a.takes || s.link.b.takes) = true)
    (hfull : Config.queueSize ≤ s.link.queue.length) :
    let full : Link := { s.link with overflow := grow s.link.overflow 1 }
    ((r.kind ≠ .mark ∨ s.link.displaceable = none) ∧ s.handOver r = State.setService { s with link := full })
      ∨ ∃ q, r.kind = .mark ∧ s.link.displaceable = some q
        ∧ s.handOver r = State.setService { s with link := (full.remove q.seq).enter r } := by
  have hend := Link.handOver_of_full hmark htakes hfull
  by_cases hkind : r.kind = .mark
  · rw [if_pos hkind] at hend
    cases hq : s.link.displaceable with
    | none =>
      rw [hq] at hend
      exact .inl ⟨.inr rfl, State.handOver_of_link hs hend⟩
    | some q =>
      rw [hq] at hend
      exact .inr ⟨q, hkind, rfl, State.handOver_of_link hs hend⟩
  · rw [if_neg hkind] at hend
    exact .inl ⟨.inl hkind, State.handOver_of_link hs hend⟩

/-- Settles O28: the five ends of a handover by their conditions, what a channel is owed, and how it counts. -/
theorem handedOverRecordEntersOrIsCounted : Obligations.HandedOverRecordEntersOrIsCounted := by
  unfold Obligations.HandedOverRecordEntersOrIsCounted
  refine ⟨fun s r => ?_, fun l ch => ?_, fun c before now => ?_⟩
  · intro takes entered silent replaces free clear t
    have hsilent : silent ↔ s.listenOnly = true := s.listenOnly_iff.symm
    have hloud (h : ¬silent) : s.listenOnly = false := Bool.eq_false_iff.mpr fun hl => h (hsilent.mpr hl)
    have hreplaces : replaces ↔ r.kind = .mark ∧ s.link.hasMark = true := and_congr_right fun _ => s.link.hasMark_iff.symm
    refine ⟨fun h => ?unsent, fun hs hr htakes hroom => ?room, fun hs hr htakes hfull => ?full, fun hs hr => ?replaced⟩
    case unsent =>
      have hend := Link.handOver_of_unsent (h.imp hsilent.mp fun ⟨hr, ha, hb⟩ => ⟨fun hm => hr (hreplaces.mpr hm), ha, hb⟩)
      exact State.handOver_of_link rfl hend
    case room =>
      have ht : t = { s with link := s.link.enter r } :=
        State.handOver_of_link (hloud hs) (Link.handOver_of_room (fun hm => hr (hreplaces.mpr hm)) htakes hroom)
      rw [ht]
      rfl
    case full =>
      rcases State.handOver_full (hloud hs) (fun hm => hr (hreplaces.mpr hm)) htakes hfull with
        ⟨hnone, ht : t = _⟩ | ⟨q, hkind, hq, ht : t = _⟩ <;> refine ⟨s.handOver_eq r, ?_⟩ <;> rw [ht]
      · refine ⟨rfl, rfl, rfl, fun _ => rfl, fun earlier q later hkind hqueue hfree hlater => ?_⟩
        have hsome := Link.displaceable_eq_some hqueue hfree hlater
        exact hnone.elim (absurd hkind) fun h => absurd (h.symm.trans hsome) (by simp)
      · refine ⟨rfl, rfl, rfl, fun hdropped => ?_, fun earlier q' later _ hqueue hfree hlater => ?_⟩
        · have hnone := Link.displaceable_eq_none (hdropped.resolve_left (absurd hkind))
          exact absurd (hnone.symm.trans hq) (by simp)
        · obtain rfl : q' = q := Option.some.inj ((Link.displaceable_eq_some hqueue hfree hlater).symm.trans hq)
          rw [Link.enter_remove]
          rfl
    case replaced =>
      intro owes renewed carries
      have ht : t = { s with link := s.link.replaceMark r } :=
        State.handOver_of_link (hloud hs) (Link.handOver_of_replaces (hreplaces.mp hr))
      have hrenewed : renewed = s.link.renewed r := by
        simp only [renewed, Link.renewed, Queued.isMark_iff, owes, LinkChannel.owesNewMark]
      refine ⟨by rw [ht]; rfl, by rw [ht, hrenewed]; rfl, fun hlost => ?_, fun hkept => ?_, fun ch => ?_⟩
      · rw [ht, Link.replaceMark_unsent, ← hrenewed, if_pos hlost]
        rfl
      · rw [ht, Link.replaceMark_unsent, ← hrenewed, if_neg]
        rintro ⟨q, hq, hmark, ha, hb⟩
        simpa [ha, hb] using hkept q hq hmark
      · refine ⟨((s.link.chan ch).supersede Queued.isMark s.link.queue).inFlight, ?_, fun f hf hcarries => ?_, fun hnot => ?_⟩
        · rw [ht, Link.chan_replaceMark, ← LinkChannel.supersede_eq]
        · exact LinkChannel.supersede_of_carriesMark hf hcarries
        · rw [LinkChannel.supersede_of_not_carriesMark hnot]
  · rw [Link.owes_iff]
    cases ch <;> rfl
  · refine ⟨c.recount_eq before now, fun h => ?_, ?_, ?_, ?_⟩
    · rw [LinkChannel.recount_transmitting h]
    · rintro h rfl
      rw [LinkChannel.recount_owed_nothing h]
    · rintro h rfl rfl hcounted
      rw [LinkChannel.recount_still_owed h hcounted]
    · rintro h rfl hstart
      rw [LinkChannel.recount_newly_owed h hstart]

end Sys2Proof.Machine
end

section
/-! SUPPORT. A composed frame: its bytes, its check word and its cells (R128 to R130, R187). -/

namespace Sys2Proof

open Sys2Proof.Machine

/-! ### The bytes of a frame (R129, R187) -/

@[simp] theorem byte_toNat (b : Byte) : byte b.toNat = b := BitVec.ofNat_toNat 8 b |>.trans (BitVec.setWidth_eq b)

@[simp] theorem Frame.header_length (f : Frame) : f.header.length = 8 := by simp [Frame.header]

/-- The two fields of a byte of four bits each. -/
theorem byte_of_nibbles (x y : Nibble) : byte (x.toNat * 16 + y.toNat) = x ++ y := by
  apply BitVec.eq_of_toNat_eq
  have hx := x.isLt
  have hy := y.isLt
  rw [BitVec.toNat_append, byte, BitVec.toNat_ofNat, Nat.shiftLeft_eq, Nat.mul_comm x.toNat (2 ^ 4),
    ← Nat.two_pow_add_eq_or_of_lt hy]
  omega

/-- The header's fields, each with its width (R187). -/
def Frame.headerTable (f : Frame) : List (Nat × Nat) :=
  [(1, f.kind.toNat * 16 + f.revision.toNat), (1, f.source.toNat), (1, f.destination.toNat), (2, f.period.toNat),
    (1, f.condition.toNat), (1, f.tag.toNat), (1, f.payload.length)]

theorem Frame.header_eq (f : Frame) : f.header = tableBytes f.headerTable := by
  simp [Frame.header, Frame.headerTable, byte_of_nibbles]

/-- The bytes that the check word stands for (R129). -/
def Frame.checked (f : Frame) : List Byte := f.header ++ f.payload

theorem Frame.bytes_eq (f : Frame) : f.bytes = f.checked ++ toBytes 2 (crc f.checked).toNat := rfl

theorem Frame.checked_length (f : Frame) : f.checked.length = 8 + f.payload.length := by simp [Frame.checked]

theorem Frame.bytes_length (f : Frame) : f.bytes.length = 10 + f.payload.length := by
  rw [f.bytes_eq, List.length_append, f.checked_length, toBytes_length]
  omega

theorem Frame.bytes_take_checked (f : Frame) : f.bytes.take (8 + f.payload.length) = f.checked :=
  List.take_left' f.checked_length

theorem Frame.bytes_drop_checked (f : Frame) : f.bytes.drop (8 + f.payload.length) = toBytes 2 (crc f.checked).toNat :=
  List.drop_left' f.checked_length

theorem Frame.bytes_take_header (f : Frame) : f.bytes.take 8 = f.header := by
  rw [f.bytes_eq, Frame.checked, List.append_assoc, List.take_left' f.header_length]

theorem Frame.bytes_drop_header (f : Frame) : f.bytes.drop 8 = f.payload ++ toBytes 2 (crc f.checked).toNat := by
  rw [f.bytes_eq, Frame.checked, List.append_assoc, List.drop_left' f.header_length]

/-- A frame of a payload that a receiver takes is no receive error (R130). -/
theorem Frame.received_isError {f : Frame} (h : f.payload.length ≤ 120) : f.received.isError = false := by
  have hlength : f.received.bytes.length = 10 + f.payload.length := f.bytes_length
  have hcount : (f.received.bytes.getD 7 0).toNat = f.payload.length := by
    have hbyte : f.received.bytes.getD 7 0 = byte f.payload.length := rfl
    rw [hbyte, byte, BitVec.toNat_ofNat]
    omega
  have hbody : f.received.bytes.length - 2 = 8 + f.payload.length := by omega
  have hchecks : f.received.checks = true := by
    unfold RawFrame.checks
    rw [hbody]
    show (f.bytes.drop _ == toBytes 2 (crc (f.bytes.take _)).toNat) = true
    rw [f.bytes_drop_checked, f.bytes_take_checked, beq_self_eq_true]
  have hspare : f.received.spareBits = 0 := rfl
  have hgap : f.received.gap = false := rfl
  have hroom : 10 + f.payload.length ≤ 130 := by omega
  simp only [RawFrame.isError, hcount, hlength, hchecks, hspare, hgap, Config.maxPayload]
  simp [hroom]

/-! ### The check word (R129) -/

/-- One bit enters the register: the shift, with the polynomial when the bit differs from the top of the register. -/
theorem crcBit_eq (register : CheckWord) (bit : Bool) :
    crcBit register bit = if register.msb = bit then register <<< 1 else (register <<< 1) ^^^ 0x1021 := by
  unfold crcBit
  by_cases h : register.msb = bit <;> simp [h]

theorem crc_append (bytes : List Byte) (b : Byte) : crc (bytes ++ [b])
    = (List.range 8).foldl (fun register k => crcBit register (b.getLsbD (7 - k))) (crc bytes) := by
  rw [crc, List.foldl_append]
  rfl

/-! ### The levels of a frame (R128, R129) -/

theorem Level.opposite_of_ne {rest other : Level} (h : other ≠ rest) : rest.opposite = other := by
  cases rest <;> cases other
  · exact absurd rfl h
  · rfl
  · rfl
  · exact absurd rfl h

/-- The leader and the start pattern of a frame on a pair at rest. -/
theorem leader_startPattern {rest other : Level} (h : other ≠ rest) : cells rest leader ++ startPattern rest
    = [other, rest, other, other, rest, other, rest, rest, other, rest, other, other, rest, other, rest, rest, other, other,
        other, rest, rest, rest] := by
  rw [← Level.opposite_of_ne h]
  cases rest <;> rfl

/-- From its 21st level on a frame is the rest level, at which the start pattern ends, and the cells of its bits. -/
theorem Frame.wave_getElem? (rest : Level) (f : Frame) {i j : Nat} (h : i = 21 + j) :
    (f.wave rest)[i]? = (rest :: cells rest f.bits)[j]? := by
  have hdrop : (f.wave rest).drop 21 = rest :: cells rest f.bits := by
    rw [f.wave_eq]
    cases rest <;> rfl
  rw [h, ← hdrop, List.getElem?_drop]

/-- Settles O32: the bytes by header, payload and check word, and the levels by the leader, the start pattern and the cells. -/
theorem composedFrameIsNoReceiveError : Obligations.ComposedFrameIsNoReceiveError := by
  unfold Obligations.ComposedFrameIsNoReceiveError
  intro f hf
  refine ⟨⟨Frame.received_isError hf, f.bytes_length, ?_⟩, ⟨?_, ?_, ?_⟩, ⟨rfl, fun bytes b => ?_⟩, fun rest other h => ?_⟩
  · rw [f.bytes_length, Frame.bitTimes]
    omega
  · rw [f.bytes_take_header, f.header_eq]
    exact laidOut_tableBytes _
  · rw [f.bytes_drop_header, List.take_left]
  · rw [f.bytes_drop_checked, f.bytes_take_checked]
    simpa using laidOut_tableBytes [(2, (crc f.checked).toNat)]
  · simp only [crc_append, crcBit_eq]
  · refine ⟨?_, ?_, fun k hk => ?_⟩
    · rw [f.wave_eq, leader_startPattern h, List.length_append, cells_length, f.bits_length, f.bytes_length, Frame.bitTimes]
      simp only [List.length_cons, List.length_nil]
      omega
    · rw [f.wave_eq, leader_startPattern h]
      rfl
    · obtain ⟨hstart, hmiddle⟩ := cells_changes rest f.bits k (by rwa [f.bits_length])
      have hbit : f.bits[k]? = some true ↔ (f.bytes.getD (k / 8) 0).getLsbD (7 - k % 8) = true := by
        rw [Frame.bits, getElem?_flatMap_bitsOf f.bytes k hk, Option.some.injEq]
      simp only [f.wave_getElem? rest (show 22 + 2 * k = 21 + (2 * k + 1) by omega), f.wave_getElem? rest (Eq.refl (21 + 2 * k)),
        f.wave_getElem? rest (show 23 + 2 * k = 21 + (2 * k + 2) by omega)]
      exact ⟨hstart, hmiddle.trans hbit⟩

end Sys2Proof
end

section
/-! SUPPORT. The ends of a frame and the inhibit inputs: what is owed afterwards and how the channels count (R132 to R143). -/

namespace Sys2Proof.Machine

open Sys2Proof

@[simp] theorem Link.owes_setChan (l : Link) (ch : Chan) (c : LinkChannel) (other : Chan) :
    (l.setChan ch c).owes other = l.owes other := by
  simp [Link.owes]

@[simp] theorem Link.owes_recount (old l : Link) (ch : Chan) : (Link.recount old l).owes ch = l.owes ch := rfl

/-- What ceases to be owed to a channel that becomes FAILED or INHIBITED: every record but the one that it carries. -/
theorem Link.releaseAll_queue (l : Link) (ch : Chan) :
    (l.releaseAll ch).queue = l.queue.map fun q => if (l.chan ch).carries q = true then q else q.setOwed ch false := by
  refine List.map_congr_left fun q _ => ?_
  by_cases h : (l.chan ch).carries q = true
  · cases ch <;> simp [h, Queued.setOwed, Queued.owed]
  · simp [h]

/-- The channel whose frame went out whole: no echo faults, and ACTIVE again when the frame was a probe (R134, R137). -/
def LinkChannel.goneOutWhole (c : LinkChannel) : LinkChannel :=
  { c with echoFaults := 0, state := if c.state = .failed then .active else c.state }

/-- The channel at its eighth echo fault: nothing is driven any more, and it is FAILED (R135, R136). -/
def LinkChannel.fail (c : LinkChannel) : LinkChannel :=
  { c.endFrame with echoFaults := Config.echoFaultLimit, state := .failed }

section
variable {s : State} {ch : Chan} {f : InFlight} (hf : (s.link.chan ch).inFlight = some f)
include hf

theorem exec_frameGoneOutWhole (hchecked : f.unchecked = false) : exec (.frameGoneOutWhole ch) s
    = .next (State.refreshAlerts
        { s with link := s.link.afterFrame ch (s.link.chan ch).goneOutWhole (!f.superseded) f.seq }) := by
  show execFrameGoneOutWhole ch s = _
  simp [execFrameGoneOutWhole, hf, hchecked, LinkChannel.goneOutWhole]

theorem exec_echoMismatch_active (hchecked : f.unchecked = false) (hactive : (s.link.chan ch).state = .active) :
    exec (.echoMismatch ch) s = .next (State.refreshAlerts { s with link := s.link.abandonActive ch f }) := by
  show execEchoMismatch ch s = _
  simp [execEchoMismatch, hf, hchecked, hactive]

theorem exec_echoMismatch_probe (hchecked : f.unchecked = false) (hactive : (s.link.chan ch).state ≠ .active) :
    exec (.echoMismatch ch) s = .next { s with link := s.link.afterFrame ch (s.link.chan ch) true f.seq } := by
  show execEchoMismatch ch s = _
  simp [execEchoMismatch, hf, hchecked, hactive]

theorem exec_inhibitedFrameEnd (hunchecked : f.unchecked = true) : exec (.inhibitedFrameEnd ch) s
    = .next { s with link := s.link.afterFrame ch (s.link.chan ch) (!f.superseded) f.seq } := by
  show execInhibitedFrameEnd ch s = _
  simp [execInhibitedFrameEnd, hf, hunchecked]

end

/-- Settles O25: the frame's end releases the record unless its MARK took a new number. -/
theorem wholeFrameIsOwedNoLonger : Obligations.WholeFrameIsOwedNoLonger := by
  unfold Obligations.WholeFrameIsOwedNoLonger
  intro s ch f hf hchecked
  obtain ⟨hlink, hchan, hother⟩ := s.link.afterFrame_eq ch (s.link.chan ch).goneOutWhole (!f.superseded) f.seq
  refine ⟨_, exec_frameGoneOutWhole hf hchecked, rfl, hlink, ?_, hchan, hother⟩
  simp only [State.refreshAlerts_link, Link.afterFrame_queue, Bool.not_eq_true']

/-! ### Echo faults (R135 to R137) -/

theorem Link.abandonActive_below {l : Link} {ch : Chan} (h : (l.chan ch).echoFaults + 1 < Config.echoFaultLimit) (f : InFlight) :
    l.abandonActive ch f
      = l.afterFrame ch { l.chan ch with echoFaults := (l.chan ch).echoFaults + 1 } f.withdrawn f.seq := by
  simp [Link.abandonActive, Nat.not_le.mpr h]

/-- The eighth echo fault leaves the channel FAILED and owed nothing; the other channel is counted again (R135, R136). -/
theorem Link.abandonActive_limit {l : Link} {ch : Chan} (h : (l.chan ch).echoFaults + 1 = Config.echoFaultLimit) (f : InFlight) :
    let t := l.abandonActive ch f
    t = { l with a := t.a, b := t.b, queue := t.queue }
      ∧ t.queue = (l.queue.map fun q => q.setOwed ch false).filter (fun q => q.owedA || q.owedB)
      ∧ t.chan ch = { (l.chan ch).fail with counted := if t.owes ch then some 0 else none }
      ∧ ∀ other, other ≠ ch → t.chan other = (l.chan other).recount (l.owes other) (t.owes other) := by
  have heq : l.abandonActive ch f
      = Link.recount (l.setChan ch (l.chan ch).fail) ((l.setChan ch (l.chan ch).fail).releaseAll ch).purge := by
    simp [Link.abandonActive, h.ge, LinkChannel.fail]
  have hcarries (q : Queued) : (l.chan ch).fail.carries q = false := rfl
  intro t
  refine ⟨?_, ?_, ?_, fun other ho => ?_⟩
  · simp only [t, heq]
    cases ch <;> rfl
  · simp [t, heq, Link.purge, Link.releaseAll_queue, hcarries]
  · have hfail (before now : Bool) : (l.chan ch).fail.recount before now
        = { (l.chan ch).fail with counted := if now then some 0 else none } := by
      exact LinkChannel.recount_endFrame
        { l.chan ch with echoFaults := Config.echoFaultLimit, state := .failed } before now
    simp only [t, heq, Link.chan_recount, Link.chan_purge, Link.chan_releaseAll, Link.chan_setChan_same, hfail,
      Link.owes_recount]
  · simp only [t, heq, Link.chan_recount, Link.chan_purge, Link.chan_releaseAll, Link.chan_setChan_other _ _ ho,
      Link.owes_setChan, Link.owes_recount]

theorem LinkChannel.formed.below_limit {c : LinkChannel} (h : c.formed) (hactive : c.state = .active) :
    c.echoFaults < Config.echoFaultLimit := by
  unfold LinkChannel.formed at h
  rwa [hactive] at h

theorem LinkChannel.formed.at_limit {c : LinkChannel} (h : c.formed) (hfailed : c.state = .failed) :
    c.echoFaults = Config.echoFaultLimit := by
  unfold LinkChannel.formed at h
  rwa [hfailed] at h

/-- Settles O26: on an ACTIVE channel below the limit and at it, and on one that is not ACTIVE. -/
theorem echoMismatchCountsAFault : Obligations.EchoMismatchCountsAFault := by
  unfold Obligations.EchoMismatchCountsAFault
  intro s ch f hf hchecked hformed c faults fails
  by_cases hactive : c.state = .active
  · have hexec := exec_echoMismatch_active hf hchecked hactive
    have hfaults : faults = c.echoFaults + 1 := if_pos hactive
    have hnotFailed : c.state ≠ .failed := by simp [hactive]
    rcases Nat.lt_or_eq_of_le (Nat.succ_le_of_lt (hformed.below_limit hactive)) with hbelow | hlimit
    · have hfails : ¬fails := fun ⟨_, h⟩ => hbelow.ne (hfaults.symm.trans h)
      rw [Link.abandonActive_below hbelow] at hexec
      obtain ⟨hlink, hchan, hother⟩ := s.link.afterFrame_eq ch { c with echoFaults := c.echoFaults + 1 } f.withdrawn f.seq
      refine ⟨_, hexec, rfl, hlink, ?_, ?_, fun hc => (hnotFailed hc).elim, hother⟩
      · simp [c, Link.afterFrame_queue, hfails, hactive]
      · rw [if_neg hfails, hfaults]
        exact hchan
    · have hfails : fails := ⟨hactive, hfaults.trans hlimit⟩
      obtain ⟨hlink, hqueue, hchan, hother⟩ := Link.abandonActive_limit hlimit f
      refine ⟨_, hexec, rfl, hlink, ?_, ?_, fun hc => (hnotFailed hc).elim, hother⟩
      · simpa [hfails] using hqueue
      · rw [if_pos hfails, hfaults.trans hlimit]
        exact hchan
  · have hfails : ¬fails := fun ⟨h, _⟩ => hactive h
    have hfaults : faults = c.echoFaults := if_neg hactive
    obtain ⟨hlink, hchan, hother⟩ := s.link.afterFrame_eq ch c true f.seq
    refine ⟨_, exec_echoMismatch_probe hf hchecked hactive, rfl, hlink, ?_, ?_, fun hfailed => ?_, hother⟩
    · simp [Link.afterFrame_queue, hfails, hactive]
    · rw [if_neg hfails, hfaults]
      exact hchan
    · exact (congrArg LinkChannel.echoFaults hchan).trans (hformed.at_limit hfailed)

/-! ### The inhibit inputs (R138, R139) -/

/-- The link after a channel's inhibit becomes active (R138). -/
def Link.inhibit (l : Link) (ch : Chan) : Link :=
  Link.recount l ((l.releaseAll ch).purge.setChan ch (l.chan ch).inhibit)

theorem exec_inhibitActive {s : State} {ch : Chan} (h : (s.inReset || (s.link.chan ch).state == .inhibited) = false) :
    exec (.inhibitActive ch) s = .next (State.refreshAlerts { s with link := s.link.inhibit ch }) := by
  show execInhibitActive ch s = _
  simp [execInhibitActive, h, Link.inhibit]

@[simp] theorem Link.owes_inhibit (l : Link) (ch other : Chan) :
    (l.inhibit ch).owes other = (l.releaseAll ch).purge.owes other := by
  simp [Link.inhibit]

theorem Link.chan_inhibit_same (l : Link) (ch : Chan) :
    (l.inhibit ch).chan ch = (l.chan ch).inhibit.recount (l.owes ch) ((l.inhibit ch).owes ch) := by
  simp [Link.inhibit]

theorem Link.chan_inhibit_other (l : Link) {ch other : Chan} (h : other ≠ ch) :
    (l.inhibit ch).chan other = (l.chan other).recount (l.owes other) ((l.inhibit ch).owes other) := by
  simp [Link.inhibit, Link.chan_setChan_other _ _ h]

/-- The condition bit CHANNEL is set as soon as one channel is not ACTIVE. -/
theorem State.channelCondition_of_chan {s : State} {ch : Chan} (h : (s.link.chan ch).state ≠ .active) :
    s.channelCondition = true := by
  unfold State.channelCondition
  cases ch
  · simp [show s.link.a.state ≠ .active from h]
  · simp [show s.link.b.state ≠ .active from h]

/-- Settles O27: the inhibit releases what the channel does not carry, and the frame that runs on ends like any other. -/
theorem inhibitTakesTheChannelOutAndBack : Obligations.InhibitTakesTheChannelOutAndBack := by
  unfold Obligations.InhibitTakesTheChannelOutAndBack
  refine ⟨fun s ch => ⟨fun hphase hstate => ?_, fun hstate => ?_⟩, fun s ch f hf hunchecked => ?_⟩
  · have hidle : (s.inReset || (s.link.chan ch).state == .inhibited) = false := by
      simp [hstate, State.inReset, hphase]
    refine ⟨_, exec_inhibitActive hidle, rfl, ?_, ?_, s.link.chan_inhibit_same ch, fun other ho => s.link.chan_inhibit_other ho,
      State.channelCondition_of_chan (ch := ch) ?_⟩
    · cases ch <;> rfl
    · simp [Link.inhibit, Link.purge, Link.releaseAll_queue]
    · simp [Link.chan_inhibit_same, LinkChannel.inhibit]
  · have hexec : exec (.inhibitReleased ch) s
        = .next (State.refreshAlerts (s.setChan ch { s.link.chan ch with state := .active, echoFaults := 0 })) :=
      congrArg Host.Outcome.next (if_pos hstate)
    exact ⟨_, hexec, rfl, rfl⟩
  · obtain ⟨hlink, hchan, hother⟩ := s.link.afterFrame_eq ch (s.link.chan ch) (!f.superseded) f.seq
    refine ⟨_, exec_inhibitedFrameEnd hf hunchecked, rfl, hlink, ?_, hchan, hother⟩
    simp only [Link.afterFrame_queue, Bool.not_eq_true']

end Sys2Proof.Machine
end

section
/-! SUPPORT. A frame's beginning, and the start of the receivers (R128, R132, R133, R144, R149, R152, R187). -/

namespace Sys2Proof.Machine

open Sys2Proof

/-- A byte of eight flags is the byte of the number whose bits they are. -/
theorem byteOfBits_eq_bitsNumber (b7 b6 b5 b4 b3 b2 b1 b0 : Bool) :
    byteOfBits b7 b6 b5 b4 b3 b2 b1 b0 = BitVec.ofNat 8 (bitsNumber [b0, b1, b2, b3, b4, b5, b6, b7]) := by
  have bit (b : Bool) (n : Nat) : (if b then n else 0) = b.toNat * n := by cases b <;> simp
  unfold byteOfBits
  congr 1
  simp only [bitsNumber, List.zipIdx_cons, List.zipIdx_nil, List.map_cons, List.map_nil, List.sum_cons, List.sum_nil, bit]
  ring

@[simp] theorem State.chan_setChan (s : State) (ch : Chan) (c : LinkChannel) : (s.setChan ch c).link.chan ch = c := by
  simp [State.setChan]

/-! ### Beginning (R132, R133, R144) -/

section
variable {s : State} {ch : Chan} {c : LinkChannel}

theorem State.tryBegin_of_pick {q : Queued} {own : Nat} (hpick : s.link.pick ch = some q) (hown : s.loader.own = some own)
    (hsends : s.listenOnly = false) : s.tryBegin ch c
      = s.setChan ch (if c.waitReached (waitOf q.record.kind own) = true then c.begin q.seq (s.compose q.record) else c) := by
  simp only [State.tryBegin, hpick, hown, hsends, Bool.not_false, Bool.and_true]
  split <;> rfl

theorem State.tryBegin_of_silent (h : s.link.pick ch = none ∨ s.listenOnly = true) : s.tryBegin ch c = s.setChan ch c := by
  unfold State.tryBegin
  split
  · next hpick hown =>
    have hlisten : s.listenOnly = true := h.resolve_left (by simp [hpick])
    simp [hlisten]
  · rfl

variable (hphase : s.loader.phase ≠ .held) (hfree : (s.link.chan ch).inFlight = none)
include hphase hfree

theorem exec_frameBegin (elapsed : Nat) :
    exec (.frameBegin ch elapsed) s = .next (s.tryBegin ch ((s.link.chan ch).pass elapsed)) := by
  show execFrameBegin ch elapsed s = _
  simp [execFrameBegin, State.inReset, hphase, hfree]

theorem exec_defer : exec (.defer ch) s = .next (s.setChan ch (s.link.chan ch).hearTransition) := by
  show execDefer ch s = _
  simp [execDefer, State.inReset, hphase, hfree]

end

theorem LinkChannel.waitReached_iff (c : LinkChannel) (wait : Nat) :
    c.waitReached wait = true ↔ 8 ≤ c.quietTime ∧ wait ≤ c.counted.getD 0 := by
  have hquiet : Config.quietBits = 8 := rfl
  simp only [LinkChannel.waitReached, hquiet, Bool.and_eq_true, decide_eq_true_eq]

/-- Settles O24: the pick's frame begins exactly when the wait test of R132 holds in a station that may send. -/
theorem frameBeginsWhenItsWaitEnds : Obligations.FrameBeginsWhenItsWaitEnds := by
  unfold Obligations.FrameBeginsWhenItsWaitEnds
  refine ⟨fun s ch elapsed own q hphase hfree hpick hown hinhibited => ?_, fun s ch elapsed hphase hfree hsilent => ?_,
    fun s ch hphase hfree => exec_defer hphase hfree, fun c rest => ⟨fun h => ?_, fun f h => ?_⟩⟩
  · intro c counted word kind frame
    have hsends : s.listenOnly = false := by
      rw [Bool.eq_false_iff, ne_eq, State.listenOnly_iff, hown]
      simpa using hinhibited
    have hframe : s.compose q.record = frame := by
      have hkind : q.record.kind.code = kind := by
        cases hk : q.record.kind <;> simp [kind, hk, RecordKind.code]
      have hword : s.conditionWord q.record.estimated = BitVec.ofNat 8 word := byteOfBits_eq_bitsNumber ..
      simp [State.compose, frame, hkind, hword, hown, byte]
    have hreached : (c.pass elapsed).waitReached (waitOf q.record.kind own) = true
        ↔ 8 ≤ c.quietTime + elapsed ∧ waitOf q.record.kind own ≤ counted := (c.pass elapsed).waitReached_iff _
    have hexec := exec_frameBegin hphase hfree elapsed
    rw [State.tryBegin_of_pick hpick hown hsends, hframe] at hexec
    refine ⟨_, hexec, ?_, fun hquiet hwait => ?_, fun hbefore => ?_⟩
    · simp [State.setChan]
    · rw [State.chan_setChan, if_pos (hreached.mpr ⟨hquiet, hwait⟩)]
      rfl
    · rw [State.chan_setChan, if_neg (fun h => by have := hreached.mp h; omega)]
      rfl
  · have hlisten : s.link.pick ch = none ∨ s.listenOnly = true := by rwa [State.listenOnly_iff]
    rw [exec_frameBegin hphase hfree, State.tryBegin_of_silent hlisten]
    rfl
  · simp [LinkChannel.drives, h]
  · simp [LinkChannel.drives, h]

/-! ### The receivers' start (R129, R132, R152) -/

/-- Settles O30: the receiver starts as if the lacking bit times had passed, and a fixed rate starts both receivers. -/
theorem receiversStartAfterLoading : Obligations.ReceiversStartAfterLoading := by
  unfold Obligations.ReceiversStartAfterLoading
  refine fun s ch rate => ⟨fun hloaded hstopped => ?_, fun hphase hrate => ?_, fun h => ?_⟩
  · have hexec : exec (.receiverStart ch) s = .next (s.setChan ch
        { (s.link.chan ch).pass (8 - (s.link.chan ch).quietTime) with receiving := true }) := by
      show execReceiverStart ch s = _
      simp [execReceiverStart, hloaded, hstopped, Config.quietBits]
    have hquiet : (s.link.chan ch).quietTime + (8 - (s.link.chan ch).quietTime) = max 8 (s.link.chan ch).quietTime := by omega
    refine ⟨_, hexec, ?_, ?_⟩
    · simp [State.setChan]
    · simp [State.setChan, LinkChannel.pass, hquiet]
  · have hexec : exec (.bitRateFixed ch rate) s = .next
        (let l := s.link.setChan ch { s.link.chan ch with quietTime := 0 }
         { s with link := { l with rate := some rate, a := { l.a with receiving := true }, b := { l.b with receiving := true } } }) := by
      show execBitRateFixed ch rate s = _
      simp [execBitRateFixed, hphase, hrate]
    refine ⟨_, hexec, ?_, rfl, fun other => ?_⟩
    · cases ch <;> rfl
    · cases ch <;> cases other <;> rfl
  · have hnot : ¬(s.time.accounting == .unconfigured && s.link.rate.isNone) = true := by
      simp only [Bool.and_eq_true, beq_iff_eq, Option.isNone_iff_eq_none, not_and]
      exact fun hphase hrate => h.elim (absurd hphase) (absurd hrate)
    exact congrArg Host.Outcome.next (if_neg hnot)

end Sys2Proof.Machine
end

section
/-! SUPPORT. The stages of the receive path, each by its test, and the frames that reach no block (R130, R145 to R147, R151,
R152). -/

namespace Sys2Proof

open Sys2Proof.Machine

/-! ### Bytes and the numbers they spell (R186) -/

theorem ofBytes_lt (l : List Byte) : ofBytes l < 256 ^ l.length := by
  induction l with
  | nil => simp [ofBytes]
  | cons b l ih =>
    calc ofBytes (b :: l) = b.toNat * 256 ^ l.length + ofBytes l := ofBytes_cons b l
      _ < (b.toNat + 1) * 256 ^ l.length := by rw [Nat.succ_mul]; omega
      _ ≤ 256 * 256 ^ l.length := Nat.mul_le_mul_right _ b.isLt
      _ = 256 ^ (b :: l).length := by rw [List.length_cons, pow_succ, Nat.mul_comm]

/-- Bytes of one length that spell one number are the same. -/
theorem ofBytes_inj {l k : List Byte} (hlength : l.length = k.length) (h : ofBytes l = ofBytes k) : l = k := by
  induction l generalizing k with
  | nil => exact (List.length_eq_zero_iff.mp hlength.symm).symm
  | cons b l ih =>
    obtain ⟨c, k, rfl⟩ := List.exists_cons_of_length_eq_add_one hlength.symm
    have htail : l.length = k.length := by simpa using hlength
    rw [ofBytes_cons, ofBytes_cons, htail] at h
    have hl : ofBytes l < 256 ^ k.length := htail ▸ ofBytes_lt l
    have hk := ofBytes_lt k
    have hpos : 0 < 256 ^ k.length := by positivity
    have hquotient {m n : Nat} (hn : n < 256 ^ k.length) : (m * 256 ^ k.length + n) / 256 ^ k.length = m := by
      rw [Nat.mul_comm, Nat.mul_add_div hpos, Nat.div_eq_of_lt hn, Nat.add_zero]
    have hhead : b.toNat = c.toNat := by rw [← hquotient (m := b.toNat) hl, h, hquotient hk]
    rw [BitVec.eq_of_toNat_eq hhead, ih htail (by rw [hhead] at h; omega)]

/-- The bytes of a number are the ones that spell it. -/
theorem eq_toBytes_iff {l : List Byte} {w n : Nat} (hlength : l.length = w) (hn : n < 256 ^ w) :
    l = toBytes w n ↔ ofBytes l = n := by
  constructor
  · intro h
    rw [h, ofBytes_toBytes_of_lt hn]
  · intro h
    exact ofBytes_inj (by rw [hlength, toBytes_length]) (by rw [h, ofBytes_toBytes_of_lt hn])

/-! ### Receive errors (R130) -/

theorem RawFrame.checks_iff {raw : RawFrame} (h : 2 ≤ raw.bytes.length) : raw.checks = true
    ↔ ofBytes (raw.bytes.drop (raw.bytes.length - 2)) = (crc (raw.bytes.take (raw.bytes.length - 2))).toNat := by
  unfold RawFrame.checks
  rw [beq_iff_eq]
  exact eq_toBytes_iff (by rw [List.length_drop]; omega) (crc _).isLt

theorem RawFrame.isError_iff (raw : RawFrame) : raw.isError = true ↔ raw.bytes.length < 10 ∨ raw.spareBits ≠ 0 ∨ raw.gap = true
    ∨ 130 < raw.bytes.length ∨ raw.bytes.length ≠ 10 + (raw.bytes.getD 7 0).toNat
    ∨ ofBytes (raw.bytes.drop (raw.bytes.length - 2)) ≠ (crc (raw.bytes.take (raw.bytes.length - 2))).toNat := by
  by_cases hshort : raw.bytes.length < 10
  · simp [RawFrame.isError, hshort]
  · have hchecks := RawFrame.checks_iff (raw := raw) (by omega)
    have hmax : 10 + Config.maxPayload = 130 := rfl
    rw [ne_eq (ofBytes _), ← hchecks]
    simp only [RawFrame.isError, hmax, Bool.or_eq_true, decide_eq_true_eq, bne_iff_ne, Bool.not_eq_true', or_assoc,
      Bool.not_eq_true]

/-! ### The format test (R145, R189, R190) -/

/-- The payload of a TALLY fits its length and its codes. -/
def Frame.tallyAdmitted (f : Frame) : Prop :=
  ∃ n ≤ 5, f.at 23 = n ∧ f.payload.length = 24 + 5 * n ∧ (f.at 0 = 2 ∨ f.at 0 = 3)

/-- The payload of an ALLOTMENT fits its length and its codes. -/
def Frame.allotmentAdmitted (f : Frame) : Prop :=
  ∃ n ≤ 16, f.at 11 = n ∧ f.payload.length = 12 + 5 * n ∧ 1 ≤ f.at 4 ∧ f.at 4 ≤ 3
    ∧ ∀ k < n, 1 ≤ f.at (12 + 5 * k) % 32 ∧ f.at (12 + 5 * k) % 32 ≤ 30

/-- Kind, length and codes fit each other. -/
def Frame.payloadAdmitted (f : Frame) : Prop :=
  (f.kind.toNat = 1 ∧ f.payload.length = 0) ∨ (f.kind.toNat = 2 ∧ f.tallyAdmitted) ∨ (f.kind.toNat = 3 ∧ f.allotmentAdmitted)
    ∨ (f.kind.toNat = 4 ∧ f.payload.length = 1) ∨ (f.kind.toNat = 5 ∧ f.payload.length = 6)
    ∨ (f.kind.toNat = 6 ∧ 2 ≤ f.payload.length ∧ f.payload.length ≤ 120)

theorem Frame.listed_all_iff {f : Frame} {n : Nat} (h : f.payload.length = 12 + 5 * n) :
    (f.listed.all fun i => decide (1 ≤ i.1 ∧ i.1 ≤ 30)) = true
      ↔ ∀ k < n, 1 ≤ f.at (12 + 5 * k) % 32 ∧ f.at (12 + 5 * k) % 32 ≤ 30 := by
  simp [Frame.listed_eq_fields h, Frame.at_eq_field]

theorem Frame.payloadAdmitted_iff (f : Frame) : f.payloadAdmitted
    ↔ (1 ≤ f.kind.toNat ∧ f.kind.toNat ≤ 6) ∧ f.lengthAdmitted = true ∧ f.codesAdmitted = true := by
  unfold Frame.payloadAdmitted Frame.lengthAdmitted Frame.codesAdmitted
  split
  case h_1 hkind => simp [hkind]
  case h_2 hkind =>
    simp [hkind, Frame.tallyAdmitted, and_assoc]
  case h_3 hkind =>
    by_cases hlength : f.payload.length = 12 + 5 * f.at 11
    · simp only [hkind, Bool.and_eq_true, decide_eq_true_eq, Frame.listed_all_iff hlength]
      simp [Frame.allotmentAdmitted, hlength, and_assoc]
    · simp [hkind, Frame.allotmentAdmitted, hlength]
  case h_4 hkind => simp [hkind]
  case h_5 hkind => simp [hkind]
  case h_6 hkind =>
    rw [decide_eq_true_eq]
    simp [hkind, Config.maxPayload]
  case h_7 =>
    simp only [Bool.false_eq_true, false_and, and_false, iff_false]
    tauto

theorem Frame.formatOk_iff (f : Frame) : f.formatOk = true ↔ f.payloadAdmitted
    ∧ 1 ≤ f.source.toNat ∧ f.source.toNat ≤ 30 ∧ 1 ≤ f.destination.toNat ∧ f.destination.toNat ≤ 31 ∧ f.revision.toNat ≤ 3 := by
  rw [f.payloadAdmitted_iff]
  simp only [Frame.formatOk, Bool.and_eq_true, decide_eq_true_eq]
  tauto

/-! ### Rows (R154, R162) -/

/-- The row of a query by its item code and its part (R154). -/
theorem queryRow_eq {item part : Nat} (h : part ≤ 3) : queryRow item part
    = if item = 1 ∧ part ≤ 2 then .queryResult
      else if item = 2 ∧ part ≤ 2 then .queryLatest
      else if item = 3 ∧ part = 0 then .queryCampaign
      else if item = 4 then .queryCondition
      else if item = 5 ∧ part ≤ 1 then .queryChannels
      else .unknown := by
  unfold queryRow
  split
  case h_1 => interval_cases part <;> rfl
  case h_2 => interval_cases part <;> rfl
  case h_3 => interval_cases part <;> rfl
  case h_4 => interval_cases part <;> rfl
  case h_5 => interval_cases part <;> rfl
  case h_6 h1 h2 h3 h4 h5 =>
    have hnone : ¬(item = 1 ∨ item = 2 ∨ item = 3 ∨ item = 4 ∨ item = 5) := by tauto
    simp only [not_or] at hnone
    simp [hnone]

/-- The row of a frame by its kind, its item code and its part. -/
theorem Frame.row_eq {f : Frame} (hkind : 1 ≤ f.kind.toNat ∧ f.kind.toNat ≤ 6) (hpart : f.revision.toNat ≤ 3) : f.row
    = if f.kind.toNat = 1 then .mark
      else if f.kind.toNat = 2 then .tally
      else if f.kind.toNat = 3 then .allotment
      else if f.kind.toNat = 6 then .answer
      else if f.kind.toNat = 5 then (if f.at 0 = 1 then .orderZero else if f.at 0 = 2 then .orderJob else .unknown)
      else if f.at 0 = 1 ∧ f.revision.toNat ≤ 2 then .queryResult
      else if f.at 0 = 2 ∧ f.revision.toNat ≤ 2 then .queryLatest
      else if f.at 0 = 3 ∧ f.revision.toNat = 0 then .queryCampaign
      else if f.at 0 = 4 then .queryCondition
      else if f.at 0 = 5 ∧ f.revision.toNat ≤ 1 then .queryChannels
      else .unknown := by
  rw [← queryRow_eq hpart]
  unfold Frame.row
  split
  case h_1 h => simp [h]
  case h_2 h => simp [h]
  case h_3 h => simp [h]
  case h_4 h => simp [h]
  case h_5 h =>
    simp only [h, Nat.reduceEqDiff, if_true, if_false]
    split
    · next hcode => simp [hcode]
    · next hcode => simp [hcode]
    · next hzero hjob => simp [show f.at 0 ≠ 1 from hzero, show f.at 0 ≠ 2 from hjob]
  case h_6 h => simp [h]
  case h_7 h1 h2 h3 h4 h5 h6 =>
    simp only [imp_false] at h1 h2 h3 h4 h5 h6
    omega

end Sys2Proof

namespace Sys2Proof.Machine

open Sys2Proof

/-! ### The stages before delivery -/

/-- A frame's command is the receive path of its row, up to a delivery of the row's own. -/
theorem exec_frameCommand (row : FrameRow) (ch : Chan) (f : Frame) (s : State) :
    ∃ deliver, exec (frameCommand row ch f) s = .next (s.receive row ch f deliver) := by
  cases row <;> exact ⟨_, rfl⟩

section
variable {s : State} {row : FrameRow} {ch : Chan} {f : Frame} {deliver : State → State}

theorem State.receive_of_deaf (h : s.canReceive ch = false) : s.receive row ch f deliver = s := by
  simp [State.receive, h]

theorem State.receive_of_overlong (h : s.canReceive ch = true) (hlength : 120 < f.payload.length) :
    s.receive row ch f deliver = s.receiveError ch := by
  simp [State.receive, h, Config.maxPayload, hlength]

theorem State.receive_of_malformed (h : s.canReceive ch = true) (hlength : f.payload.length ≤ 120) (hformat : f.formatOk = false) :
    s.receive row ch f deliver = (s.hearFrame ch).formatError := by
  simp [State.receive, h, Config.maxPayload, Nat.not_lt.mpr hlength, hformat]

theorem State.receive_of_duplicate (h : s.canReceive ch = true) (hlength : f.payload.length ≤ 120) (hformat : f.formatOk = true)
    (hrow : f.row = row) (hrecent : f.identity ∈ s.link.recent) : s.receive row ch f deliver = s.hearFrame ch := by
  simp [State.receive, h, Config.maxPayload, Nat.not_lt.mpr hlength, hformat, hrow, hrecent]

theorem State.receive_of_ignored (h : s.isHeard row ch f) (haccepts : s.accepts f = false) :
    s.receive row ch f deliver = s.heard ch f := by
  obtain ⟨hreceives, hlength, hformat, hrow, hrecent⟩ := h
  simp [State.receive, hreceives, Nat.not_lt.mpr hlength, hformat, hrow, hrecent, haccepts, State.heard]

end

/-! ### The conditions of the stages -/

theorem State.accepts_iff (s : State) (f : Frame) : s.accepts f = true ↔ f.kind.toNat = 1
    ∨ (f.kind.toNat = 2 ∧ ∃ p ∈ s.contributors, p.station = f.source.toNat)
    ∨ (f.kind.toNat = 3 ∧ ∃ p ∈ s.subscriptions, p.station = f.source.toNat)
    ∨ (f.kind.toNat = 4 ∧ s.loader.own = some f.destination.toNat)
    ∨ (f.kind.toNat = 5 ∧ (s.loader.own = some f.destination.toNat ∨ f.destination.toNat = 31)) := by
  have hgroup : f.destination = 31#8 ↔ f.destination.toNat = 31 :=
    ⟨fun h => by rw [h]; rfl, fun h => BitVec.eq_of_toNat_eq h⟩
  unfold State.accepts
  split
  case h_1 hkind => simp [hkind]
  case h_2 hkind => simp [hkind]
  case h_3 hkind => simp [hkind]
  case h_4 hkind => simp [hkind, State.isOwn]
  case h_5 hkind => simp [hkind, State.isOwn, hgroup]
  case h_6 =>
    simp only [Bool.false_eq_true, false_iff]
    tauto

@[simp] theorem grow_one (n : Nat) : grow n 1 = min 65535 (n + 1) := rfl

theorem addRecent_eq (i : Identity) (recent : List Identity) :
    addRecent i recent = (if recent.length < 16 then recent else recent.drop 1) ++ [i] := by
  have hsize : Config.recentSize = 16 := rfl
  unfold addRecent
  rw [hsize]
  split <;> rfl

theorem State.canReceive_iff (s : State) (ch : Chan) :
    s.canReceive ch = true ↔ (s.link.chan ch).receiving = true ∧ (s.link.chan ch).inFlight = none := by
  simp [State.canReceive]

/-- An ANSWER is heard and nothing more, whether or not the acceptance filter would pass it. -/
theorem exec_answerHeard {s : State} {ch : Chan} {f : Frame} (h : s.isHeard .answer ch f) :
    exec (.answerHeard ch f) s = .next (s.heard ch f) := by
  show Host.Outcome.next (s.receive .answer ch f fun t => t) = _
  cases haccepts : s.accepts f
  · rw [State.receive_of_ignored h haccepts]
  · rw [State.receive_of_delivers ⟨h, haccepts⟩]

/-- Settles O31: each stage of the receive path by the test that it makes. -/
theorem framesThatReachNoBlock : Obligations.FramesThatReachNoBlock := by
  unfold Obligations.FramesThatReachNoBlock
  refine ⟨fun s row ch f => ?_, fun s ch raw => ⟨fun h => ?_, fun h herror => ?_⟩, fun s ch f hheard => ?_, fun s ch f => ?_,
    State.canReceive_iff, RawFrame.isError_iff, fun f => ⟨f.formatOk_iff, fun s => s.accepts_iff f, fun hformat => ?_⟩⟩
  · obtain ⟨deliver, hexec⟩ := exec_frameCommand row ch f s
    rw [hexec]
    refine ⟨fun h => ?_, fun h hlength => ?_, fun h hlength hformat => ?_, fun h hlength hformat hrow hrecent => ?_,
      fun hheard haccepts => ?_⟩
    · rw [State.receive_of_deaf h]
    · rw [State.receive_of_overlong h hlength]
    · rw [State.receive_of_malformed h hlength hformat]
      simp [State.formatError, State.hearFrame, State.setChan]
    · rw [State.receive_of_duplicate h hlength hformat hrow hrecent]
    · rw [State.receive_of_ignored hheard haccepts]
  · exact congrArg Host.Outcome.next (if_neg (by simp [h]))
  · have hexec : exec (.receiveError ch raw) s = .next (s.receiveError ch) :=
      congrArg Host.Outcome.next (if_pos (by simp [h, herror]))
    refine ⟨_, hexec, ?_, ?_⟩
    · simp [State.receiveError, State.setChan]
    · simp [State.receiveError, LinkChannel.hearFrame, Config.quietBits]
  · refine ⟨_, exec_answerHeard hheard, ?_, ?_, ?_⟩
    · rw [State.heard_eq]
      cases ch <;> rfl
    · rw [State.heard_eq, ← addRecent_eq]
      rfl
    · rw [State.heard_eq]
      cases ch <;> rfl
  · refine ⟨rfl, rfl, ?_⟩
    rw [State.heard_eq, addRecent_eq]
    cases ch <;> rfl
  · obtain ⟨hadmitted, -, -, -, -, hpart⟩ := f.formatOk_iff.mp hformat
    obtain ⟨hkind, -⟩ := f.payloadAdmitted_iff.mp hadmitted
    exact f.row_eq hkind hpart

end Sys2Proof.Machine
end

section
/-! SUPPORT. A read attempt and the end of loading in failure (R144, R169 to R173, R180, R183, R191). -/

namespace Sys2Proof.Machine

open Sys2Proof

/-! ### What an attempt reads (R171, R173, R191) -/

/-- A two-byte field of bytes that hold it whole. -/
theorem imageField_two {img : List Byte} {i : Nat} (h : i + 2 ≤ img.length) :
    imageField img i 2 = imageByte img i * 256 + imageByte img (i + 1) := by
  have hdrop : img.drop i = img[i] :: img[i + 1] :: img.drop (i + 2) := by
    rw [List.drop_eq_getElem_cons (by omega), List.drop_eq_getElem_cons (by omega)]
  rw [imageByte, imageByte, List.getD_eq_getElem _ _ (by omega : i < img.length),
    List.getD_eq_getElem _ _ (by omega : i + 1 < img.length), imageField, hdrop]
  simp only [List.take_succ_cons, List.take_zero, ofBytes, List.foldl_cons, List.foldl_nil, zero_mul, zero_add]

theorem imageByte_lt (img : List Byte) (i : Nat) : imageByte img i < 256 := (img.getD i 0).isLt

/-- The whole image is clocked in exactly when the tag and the length are the ones this part reads. -/
theorem clockedIn_length_iff (memory : List Byte) : (clockedIn memory).length = 154
    ↔ imageField memory 0 2 = 166 * 256 + 49 ∧ imageField memory 2 2 = 154 ∧ 154 ≤ memory.length := by
  have himage : imageLength = 154 := rfl
  unfold clockedIn
  rw [himage]
  by_cases htag : imageField memory 0 2 = 166 * 256 + 49
  · by_cases hlength : imageField memory 2 2 = 154
    · simp [htag, hlength]
    · simp [htag, hlength]
      omega
  · simp [htag]
    omega

theorem imageReads_iff (memory : List Byte) : imageReads memory = true ↔
    imageByte memory 0 = 166 ∧ imageByte memory 1 = 49 ∧ imageByte memory 2 * 256 + imageByte memory 3 = 154
      ∧ 154 ≤ memory.length
      ∧ imageByte memory 152 * 256 + imageByte memory 153 = (crc (memory.take 152)).toNat := by
  have himage : imageLength = 154 := rfl
  by_cases hlength : 154 ≤ memory.length
  · have htag : imageField memory 0 2 = 166 * 256 + 49 ↔ imageByte memory 0 = 166 ∧ imageByte memory 1 = 49 := by
      have hsecond := imageByte_lt memory 1
      rw [imageField_two (by omega), Nat.zero_add]
      omega
    have hread := clockedIn_length_iff memory
    rw [htag, imageField_two (i := 2) (by omega)] at hread
    simp only [imageReads, himage, Bool.and_eq_true, beq_iff_eq, hread, and_assoc]
    refine and_congr_right fun h0 => and_congr_right fun h1 => and_congr_right fun h2 => and_congr_right fun _ => ?_
    have hclocked : clockedIn memory = memory.take 154 := by
      have htag' := htag.mpr ⟨h0, h1⟩
      have hlength' : imageField memory 2 2 = 154 := (imageField_two (by omega)).trans h2
      simp [clockedIn, himage, htag', hlength']
    have hcheck : imageField (memory.take 154) 152 2 = imageField memory 152 2 := by
      simp only [imageField, List.drop_take, List.take_take, Nat.reduceSub, min_self]
    rw [hclocked, hcheck, imageField_two (by omega), List.take_take]
    rfl
  · simp [imageReads, himage, clockedIn_length_iff, hlength]

theorem imageRole_eq (img : List Byte) : imageRole img
    = if imageByte img 6 = 1 then some .line else if imageByte img 6 = 2 then some .furnace
      else if imageByte img 6 = 3 then some .pool else none := by
  unfold imageRole
  split
  case h_1 h => simp [h]
  case h_2 h => simp [h]
  case h_3 h => simp [h]
  case h_4 hline hfurnace hpool =>
    simp only [imp_false] at hline hfurnace hpool
    simp [hline, hfurnace, hpool]

/-! ### Loading ends in failure (R170, R180, R183) -/

theorem strapOwn_eq (straps : Straps) :
    let high := [straps.st0, straps.st1, straps.st2, straps.st3, straps.st4]
    strapOwn straps = if (straps.stp :: high).count true % 2 = 1 ∧ 1 ≤ bitsNumber high ∧ bitsNumber high ≤ 30
      then some (bitsNumber high) else none := by
  simp only [strapOwn, strapNumber_eq, strapParityGood_iff]

/-- The group of UNCONFIGURED alone is true in an UNCONFIGURED station, whatever its other members. -/
theorem State.groupOr_unconfigured {s : State} (h : s.time.accounting = .unconfigured) : s.groupOr unconfiguredGroup = true := by
  have hbit : ∀ b7 b5 b4 b3 b2 b1 b0, (unconfiguredGroup &&& byteOfBits b7 true b5 b4 b3 b2 b1 b0 != 0) = true := by decide
  rw [State.groupOr, State.alertMembers, h]
  exact hbit ..

theorem State.groupOr_empty (s : State) : s.groupOr 0 = false := by
  simp [State.groupOr]

/-- An UNCONFIGURED station's alert lines take the default configuration with the condition as loading leaves it (R183). -/
theorem State.loadFails_alerts_eq (s : State) : ∃ u : State, u.time.accounting = .unconfigured
    ∧ s.loadFails.alerts.one
      = (AlertLine.configure { mode := .level, group := unconfiguredGroup }).take (u.groupOr unconfiguredGroup)
    ∧ s.loadFails.alerts.two = (AlertLine.configure { mode := .level, group := 0 }).take (u.groupOr 0) := by
  refine ⟨_, ?_, rfl, rfl⟩
  rfl

theorem State.loadFails_alerts (s : State) : s.loadFails.alerts.one.active = true ∧ s.loadFails.alerts.two.active = false := by
  obtain ⟨u, hu, hone, htwo⟩ := s.loadFails_alerts_eq
  rw [hone, htwo, AlertLine.take_configure, AlertLine.take_configure, State.groupOr_unconfigured hu, State.groupOr_empty]
  exact ⟨rfl, rfl⟩

section
variable {memory : List Byte} {now : Nat} {s : State} (hphase : s.loader.phase = .reading)
include hphase

theorem exec_imageReadAttempt_fails (hreads : imageReads memory = false) :
    exec (.imageReadAttempt memory now) s = .next s.attemptFails := by
  show execImageReadAttempt memory now s = _
  simp [execImageReadAttempt, hphase, hreads]

theorem exec_imageReadAttempt_roleless (hreads : imageReads memory = true) (hrole : imageRole memory = none) :
    exec (.imageReadAttempt memory now) s = .next s.loadFails := by
  show execImageReadAttempt memory now s = _
  simp [execImageReadAttempt, hphase, hreads, hrole]

end

/-- Settles O5: the tests of a read attempt, the retry below the fourth attempt, and the two ways to UNCONFIGURED. -/
theorem failedLoadsEndUnconfigured : Obligations.FailedLoadsEndUnconfigured := by
  unfold Obligations.FailedLoadsEndUnconfigured
  intro memory now s hphase byteAt word
  refine ⟨imageReads_iff memory, imageRole_eq memory, fun hreads hattempt => ?_, fun hfails => ?_⟩
  · have hlimit : ¬Config.maxAttempts ≤ s.loader.attempt := Nat.not_le.mpr hattempt
    rw [exec_imageReadAttempt_fails hphase hreads, State.attemptFails, if_neg hlimit]
  · intro straps high number
    have hexec : exec (.imageReadAttempt memory now) s = .next s.loadFails := by
      rcases hfails with ⟨hreads, hattempt⟩ | ⟨hreads, hrole⟩
      · have hlimit : Config.maxAttempts ≤ s.loader.attempt := hattempt
        rw [exec_imageReadAttempt_fails hphase hreads, State.attemptFails, if_pos hlimit]
      · exact exec_imageReadAttempt_roleless hphase hreads hrole
    obtain ⟨hone, htwo⟩ := s.loadFails_alerts
    refine ⟨_, hexec, rfl, ?_, fun hown => ?_, id, hone, htwo, rfl⟩
    · rw [← strapOwn_eq]
      rfl
    · exact (State.listenOnly_iff _).mpr (.inl hown)

end Sys2Proof.Machine
end

section
/-! SUPPORT. The station queries: the ANSWER, when it enters, and the bytes of its bodies (R150, R153, R154, R158 to R160, R189). -/

namespace Sys2Proof.Machine

open Sys2Proof

/-! ### The ANSWER to a query (R153, R154, R161) -/

/-- The item code of a query that is not UNKNOWN (R154). -/
theorem queryRow_item (item part : Nat) : queryRow item part = .unknown ∨ (item, queryRow item part)
    ∈ [(1, FrameRow.queryResult), (2, .queryLatest), (3, .queryCampaign), (4, .queryCondition), (5, .queryChannels)] := by
  unfold queryRow
  dsimp only
  split <;> split <;> simp

/-- A frame of the row of a query is a QUERY with that row's item code. -/
theorem Frame.row_query {f : Frame} {item : Nat} {row : FrameRow} (h : f.row = row)
    (hrow : (item, row) ∈ [(3, FrameRow.queryCampaign), (4, .queryCondition), (5, .queryChannels)]) :
    isOrder f = false ∧ requestCode f = byte item := by
  have hquery : row ≠ .unknown ∧ row ≠ .mark ∧ row ≠ .tally ∧ row ≠ .allotment ∧ row ≠ .answer ∧ row ≠ .orderZero
      ∧ row ≠ .orderJob := by
    rcases (by simpa using hrow) with ⟨-, rfl⟩ | ⟨-, rfl⟩ | ⟨-, rfl⟩ <;> decide
  obtain ⟨hunknown, hmark, htally, hallotment, hanswer, hzero, hjob⟩ := hquery
  unfold Frame.row at h
  split at h
  case h_4 hkind =>
    have hitem : f.at 0 = item := by
      have hcode := queryRow_item (f.at 0) f.revision.toNat
      rw [h] at hcode
      rcases (by simpa using hrow) with ⟨rfl, rfl⟩ | ⟨rfl, rfl⟩ | ⟨rfl, rfl⟩ <;> simpa using hcode
    refine ⟨?_, ?_⟩
    · have horder : f.kind ≠ 5 := fun h5 => by simp [h5] at hkind
      simpa [isOrder] using horder
    · rw [← hitem]
      exact (byte_toNat _).symm
  case h_5 =>
    split at h
    · exact absurd h.symm hzero
    · exact absurd h.symm hjob
    · exact absurd h.symm hunknown
  case h_1 => exact absurd h.symm hmark
  case h_2 => exact absurd h.symm htally
  case h_3 => exact absurd h.symm hallotment
  case h_6 => exact absurd h.symm hanswer
  case h_7 => exact absurd h.symm hunknown

theorem answerRecord_query {f : Frame} (h : isOrder f = false) (outcome : RequestOutcome) (body : List Byte) (n : Period)
    (estimated : Bool) : answerRecord f outcome body n estimated =
      { kind := .answer, revision := f.revision, destination := f.source, period := n, tag := f.tag,
        payload := [byte outcome.code, requestCode f] ++ body, estimated := estimated } := by
  simp [answerRecord, h]

theorem State.query_configured {s : State} (h : s.time.accounting ≠ .unconfigured) (f : Frame) (k : State → State) :
    s.query f k = k s.countQuery := by
  rcases s.query_cases f k with ⟨hunconfigured, -⟩ | ⟨-, hquery⟩
  · exact absurd hunconfigured h
  · exact hquery

/-- A query delivered to a configured station is counted and handled. -/
theorem State.receive_query {s : State} {row : FrameRow} {ch : Chan} {f : Frame} (hd : s.delivers row ch f)
    (h : s.time.accounting ≠ .unconfigured) (k : State → State) :
    s.receive row ch f (fun t => t.query f k) = k (s.heard ch f).countQuery := by
  rw [State.receive_of_delivers hd]
  exact State.query_configured (s := s.heard ch f) h f k

/-- A delivered query has its row's item code. -/
theorem State.delivers.row_query {s : State} {row : FrameRow} {ch : Chan} {f : Frame} {item : Nat} (hd : s.delivers row ch f)
    (hrow : (item, row) ∈ [(3, FrameRow.queryCampaign), (4, .queryCondition), (5, .queryChannels)]) :
    isOrder f = false ∧ requestCode f = byte item := by
  obtain ⟨⟨-, -, -, hf, -⟩, -⟩ := hd
  exact Frame.row_query hf hrow

/-- An ANSWER enters exactly when the queue grows by it: it takes no other record's place (R140, R142). -/
theorem State.wouldEnter_iff {s : State} {r : Record} (h : r.kind = .answer) :
    s.wouldEnter r = true ↔ (s.handOver r).link.queue.length = s.link.queue.length + 1 := by
  have hlink : (s.handOver r).link.queue = (s.link.handOver s.listenOnly r).1.queue := by
    unfold State.handOver
    dsimp only
    split <;> rfl
  rw [hlink, State.wouldEnter]
  rcases s.link.handOver_cases s.listenOnly r with ⟨-, hout⟩ | ⟨-, hmark, -⟩ | ⟨-, -, -, -, hout⟩ | ⟨-, -, -, -, -, hout⟩
    | ⟨_, -, hmark, -⟩
  · simp [hout, Handover.enters]
  · simp [h] at hmark
  · simp [hout, Handover.enters, Link.enter]
  · simp [hout, Handover.enters]
  · simp [h] at hmark

/-- A CONDITION query changes the link as the handover of its ANSWER does, but that SERVICE clears when it enters (R150). -/
theorem State.answerCondition_eq (s : State) (f : Frame) :
    let u := s.handOver (answerRecord f .answered (s.conditionBody f.revision.toNat) f.period false)
    let t := s.answerCondition f
    t = { s with link := t.link, alerts := t.alerts }
      ∧ t.link = if u.link.queue.length = s.link.queue.length + 1 then { u.link with service := false } else u.link := by
  intro u t
  have henters := State.wouldEnter_iff (s := s)
    (r := answerRecord f .answered (s.conditionBody f.revision.toNat) f.period false) rfl
  have hu : u = { s with link := u.link, alerts := u.alerts } := s.handOver_eq _
  by_cases h : s.wouldEnter (answerRecord f .answered (s.conditionBody f.revision.toNat) f.period false) = true
  · have ht : t = u.clearService := if_pos h
    rw [if_pos (henters.mp h), ht]
    refine ⟨?_, rfl⟩
    rw [State.clearService, hu]
    rfl
  · have ht : t = u := if_neg h
    rw [if_neg (mt henters.mpr h), ht]
    exact ⟨hu, rfl⟩

/-! ### Flags and SECs in a body -/

/-- Three flags in the bits of a byte, from bit 0 on. -/
theorem bitsNumber_three (a b c : Bool) : bitsNumber [a, b, c] = a.toNat + b.toNat * 2 + c.toNat * 4 := by
  cases a <;> cases b <;> cases c <;> rfl

/-- Five flags in the bits of a byte, from bit 0 on. -/
theorem bitsNumber_five (a b c d e : Bool) :
    bitsNumber [a, b, c, d, e] = a.toNat + b.toNat * 2 + c.toNat * 4 + d.toNat * 8 + e.toNat * 16 := by
  cases a <;> cases b <;> cases c <;> cases d <;> cases e <;> rfl

theorem BasisKind.code_eq (b : BasisKind) : b.code = basisNumber b := by cases b <;> rfl

@[simp] theorem specificEnergy_isSome (energy divisor : Nat) : (specificEnergy energy divisor).isSome = decide (0 < divisor) := by
  unfold specificEnergy
  split <;> simp <;> omega

theorem specificEnergySaturates_eq (energy divisor : Nat) :
    specificEnergySaturates energy divisor = decide (0 < divisor ∧ 131071 * divisor ≤ 20000 * energy) := by
  rw [Bool.eq_iff_iff, specificEnergySaturates_iff, decide_eq_true_iff]

/-- The bytes that spell their own number. -/
theorem toBytes_ofBytes (l : List Byte) : toBytes l.length (ofBytes l) = l :=
  ((eq_toBytes_iff rfl (ofBytes_lt l)).mpr rfl).symm

theorem laidOut_of_eq {bytes : List Byte} {table : List (Nat × Nat)} (h : bytes = tableBytes table) : laidOut bytes table :=
  h ▸ laidOut_tableBytes table

/-! ### The parts of CONDITION (R159, R189) -/

theorem State.listenOnly_eq (s : State) : s.listenOnly
    = decide (s.loader.own = none ∨ (s.link.a.state = .inhibited ∧ s.link.b.state = .inhibited)) := by
  rw [Bool.eq_iff_iff, State.listenOnly_iff, decide_eq_true_iff]

theorem countP_settling (entries : List Entry) : (entries.countP fun e => e.state == .settling)
    = (entries.filter fun e => decide (e.state = .settling)).length := by
  rw [List.countP_eq_length_filter]
  rfl

theorem State.conditionWord_eq (s : State) : s.conditionWord false
    = byte (bitsNumber [s.link.service, s.time.gap, s.link.a.state != .active || s.link.b.state != .active, s.loader.clamped,
        s.time.timebase, false, s.meterCondition, s.time.starting]) :=
  byteOfBits_eq_bitsNumber ..

theorem tableBytes_map_one {α : Type} (items : List α) (value : α → Nat) :
    tableBytes (items.map fun i => (1, value i)) = items.map fun i => byte (value i) := by
  induction items with
  | nil => rfl
  | cons i items ih => simp [ih]

/-- A flag in a bit of a byte. -/
theorem toNat_mul_eq (b : Bool) (n : Nat) : b.toNat * n = if b = true then n else 0 := by cases b <;> simp

/-- Settles O42: the three queries by their delivery, and the bodies by the bytes of their tables. -/
theorem stationQueriesAreAnswered : Obligations.StationQueriesAreAnswered := by
  unfold Obligations.StationQueriesAreAnswered
  refine ⟨fun s ch f => ?_, fun s c hc => ⟨fun hrole => ?_, fun hrole => ?_⟩, fun s => ?_, fun s => ?_⟩
  · intro h q answer
    refine ⟨fun hd hphase => ?_, fun hd hphase => ?_, fun hd => ?_⟩
    · obtain ⟨horder, hcode⟩ := hd.row_query (item := 3) (by simp)
      show Host.Outcome.next (s.receive .queryCampaign ch f _) = _
      rw [State.receive_query hd hphase, State.answer, answerRecord_query horder, hcode]
      rfl
    · obtain ⟨horder, hcode⟩ := hd.row_query (item := 5) (by simp)
      show Host.Outcome.next (s.receive .queryChannels ch f _) = _
      rw [State.receive_query hd hphase, State.answer, answerRecord_query horder, hcode]
      rfl
    · obtain ⟨horder, hcode⟩ := hd.row_query (item := 4) (by simp)
      have hrecord : answerRecord f .answered (q.conditionBody f.revision.toNat) f.period false
          = answer 4 (q.conditionBody f.revision.toNat) := by
        rw [answerRecord_query horder, hcode]
        rfl
      have hqueue : q.link.queue = s.link.queue := by cases ch <;> rfl
      refine ⟨q.answerCondition f, ?_, ?_⟩
      · show Host.Outcome.next (s.receive .queryCondition ch f _) = _
        rw [State.receive_of_delivers hd]
        rfl
      · rw [← hrecord, ← hqueue]
        exact q.answerCondition_eq f
  · intro t
    have hbody : s.campaignBody = campaignLine t s.book.zeroPending := by simp [State.campaignBody, hc, hrole, t]
    have hshares : tableBytes (countedRows t.shares fun x => [(1, x.1), (6, x.2.toNat)])
        = counted (fun x => byte x.1 :: totalBytes x.2) t.shares :=
      tableBytes_countedRows _ fun x => by simp [totalBytes]
    refine laidOut_of_eq (hbody.trans ?_)
    simp only [campaignLine, totalBytes, specificEnergy_isSome, specificEnergySaturates_eq, bitsNumber_five, hshares,
      tableBytes_append, tableBytes_cons, tableBytes_nil, toBytes_one, List.append_nil, List.append_assoc]
  · intro t divisor
    have hbody : s.campaignBody = campaignAllot c.role c.basis t s.book.zeroPending := by
      cases hr : c.role <;> simp_all [State.campaignBody, t]
    have hdivisor : campaignDivisor c.role t = divisor := by
      cases hr : c.role <;> simp_all [campaignDivisor, divisor]
    refine laidOut_of_eq (hbody.trans ?_)
    simp only [campaignAllot, totalBytes, hdivisor, specificEnergy_isSome, specificEnergySaturates_eq, bitsNumber_three,
      BasisKind.code_eq, tableBytes_cons, tableBytes_nil, toBytes_one, List.append_nil, List.append_assoc, List.cons_append,
      List.nil_append]
  · intro number tag refusal figures
    have htag : (s.settings.map Settings.tag).getD (toBytes 6 0) = tag := rfl
    refine ⟨laidOut_of_eq ?_, laidOut_of_eq ?_, laidOut_of_eq ?_, laidOut_of_eq ?_⟩
    · show s.conditionPart0 = _
      simp only [State.conditionPart0, State.listenOnly_eq, State.conditionWord_eq, countP_settling, htag, figures, number,
        refusal, bitsNumber_five, tableBytes_cons, tableBytes_nil, toBytes_one, toBytes_ofBytes,
        List.map_cons, List.map_nil, List.append_nil, List.append_assoc, List.cons_append, List.nil_append, List.cons.injEq,
        List.append_cancel_left_eq, true_and]
      refine ⟨rfl, rfl, rfl, ?_⟩
      cases s.requests.lastRefusal with
      | none => rfl
      | some r =>
        simp only [lastRefusalBytes, Option.map_some, Option.getD_some, byte_toNat, List.cons.injEq, true_and, and_true]
        exact ⟨rfl, rfl⟩
    · show s.conditionPart1 = _
      simp only [State.conditionPart1, linkChannelBytes, toNat_mul_eq, tableBytes_cons, tableBytes_map_one, toBytes_one,
        List.map_cons, List.map_nil, List.append_assoc, List.cons_append, List.nil_append,
        List.cons.injEq, List.append_cancel_left_eq, true_and]
      refine ⟨rfl, rfl, List.map_congr_left fun i _ => ?_⟩
      simp only [State.lineByte, toNat_mul_eq, beq_iff_eq]
      congr 2
      cases s.settings with
      | none => rfl
      | some c =>
        simp only [Option.map_some, Option.getD_some]
        cases c.lines[i].role <;> rfl
    · show s.conditionPart2 = _
      have hconfigured : s.configuredMeters
        = (List.finRange 8).filter fun m => (s.settings.map fun c => c.meters[m].isSome).getD false := by
        unfold State.configuredMeters
        cases s.settings <;> simp
      simp only [State.conditionPart2, hconfigured, tableBytes_append, tableBytes_cons, tableBytes_nil, List.map_cons,
        List.map_nil, List.append_nil, List.append_assoc]
      rw [tableBytes_countedRows]
      intro m
      simp only [State.meterItem, toNat_mul_eq, tableBytes_cons, tableBytes_nil, toBytes_one, List.append_nil,
        List.cons_append, List.nil_append]
      rfl
    · show s.conditionPart3 = _
      have hpeers (peers : List Peer) : counted peerBytes peers = tableBytes (countedRows peers fun x =>
          [(1, x.station % 32 + if x.last.isSome then 128 else 0), (4, number x.last)]) :=
        (tableBytes_countedRows peers fun x => by simp [peerBytes, toNat_mul_eq, number]).symm
      unfold State.conditionPart3
      cases s.settings with
      | none => rfl
      | some c =>
        cases hrole : c.role
        case line => simp [hrole, hpeers, byte]
        case furnace => simp [hrole, hpeers, BasisKind.code_eq]
        case pool => simp [hrole, hpeers, BasisKind.code_eq]
  · intro channel
    have hchannel (i : Fin 8) : s.channelBytes i = tableBytes (channel i) := by
      simp only [State.channelBytes, channel]
      cases s.settings.bind fun c => c.channels[i] with
      | none => rfl
      | some setup =>
        simp only [tableBytes_cons, tableBytes_nil, toBytes_one, List.append_nil, List.append_assoc, List.cons_append,
          List.nil_append]
        rfl
    refine ⟨laidOut_of_eq ?_, laidOut_of_eq ?_⟩
    · simp only [tableBytes_flatMap, ← hchannel]
      rfl
    · simp only [tableBytes_flatMap, ← hchannel]
      rfl

end Sys2Proof.Machine
end

section
/-! SUPPORT. The book queries and the requests that cannot be answered: the ANSWER by the state of the entry, the bytes of an
entry's parts, and the refusals (R153 to R157, R161, R162, R165, R166, R189). -/

namespace Sys2Proof.Machine

open Sys2Proof

/-! ### The ANSWER to a book query (R153 to R156) -/

/-- A frame of the row of a book query is a QUERY with that row's item code. -/
theorem Frame.row_bookQuery {f : Frame} {item : Nat} {row : FrameRow} (h : f.row = row)
    (hrow : (item, row) ∈ [(1, FrameRow.queryResult), (2, .queryLatest)]) :
    isOrder f = false ∧ requestCode f = byte item := by
  have hquery : f.kind.toNat = 4 ∧ f.at 0 = item := by
    rcases (by simpa using hrow) with ⟨rfl, rfl⟩ | ⟨rfl, rfl⟩ <;> unfold Frame.row at h <;> split at h
    case h_4 hkind | h_4 hkind =>
      have hitem := queryRow_item (f.at 0) f.revision.toNat
      exact ⟨hkind, by simpa [h] using hitem⟩
    case h_5 | h_5 => split at h <;> cases h
    all_goals cases h
  obtain ⟨hkind, hitem⟩ := hquery
  refine ⟨?_, ?_⟩
  · have horder : f.kind ≠ 5 := fun h5 => by simp [h5] at hkind
    simpa [isOrder] using horder
  · rw [← hitem]
    exact (byte_toNat _).symm

/-- A RESULT query of a period that is not held (R155). -/
theorem State.answerResult_of_notHeld {s : State} {f : Frame} (h : s.held f.period = none) :
    s.answerResult f = s.answer f .notHeld [] := by
  simp [State.answerResult, h]

/-- A RESULT query of a struck entry (R155). -/
theorem State.answerResult_of_struck {s : State} {f : Frame} {e : Entry} (h : s.held f.period = some e)
    (hstruck : e.state = .struck) : s.answerResult f = s.answerEntry f e := by
  simp [State.answerResult, h, hstruck]

/-- A RESULT query of an entry that is not struck yet (R155). -/
theorem State.answerResult_of_unstruck {s : State} {f : Frame} {e : Entry} (h : s.held f.period = some e)
    (hunstruck : e.state ≠ .struck) : s.answerResult f = s.answer f .pending [byte e.state.code] := by
  simp [State.answerResult, h, hunstruck]

theorem State.newestStruck_eq_none {s : State} (h : ∀ e ∈ s.book.entries, e.state ≠ .struck) : s.newestStruck = none := by
  simpa [State.newestStruck] using h

theorem State.newestStruck_eq_some {s : State} {older newer : List Entry} {e : Entry} (h : s.book.entries = older ++ e :: newer)
    (hstruck : e.state = .struck) (hnewer : ∀ x ∈ newer, x.state ≠ .struck) : s.newestStruck = some e := by
  have hnone : newer.reverse.find? (fun x => x.state == .struck) = none := by simpa using hnewer
  simp [State.newestStruck, h, hnone, hstruck]

/-- The ANSWER with a part of a struck entry (R153, R157). -/
theorem State.answerEntry_query (s : State) {f : Frame} (h : isOrder f = false) (e : Entry) : s.answerEntry f e = s.handOver
    { kind := .answer, revision := f.revision, destination := f.source, period := e.number.getD f.period, tag := f.tag,
      payload := [1, requestCode f] ++ entryBody e f.revision.toNat, estimated := e.flags.estimated } := by
  rw [State.answerEntry, answerRecord_query h]
  rfl

/-- The ANSWER to a query under the query's own period number (R153). -/
theorem State.answer_query (s : State) {f : Frame} (h : isOrder f = false) (outcome : RequestOutcome) (body : List Byte) :
    s.answer f outcome body = s.handOver
      { kind := .answer, revision := f.revision, destination := f.source, period := f.period, tag := f.tag,
        payload := [byte outcome.code, requestCode f] ++ body, estimated := false } := by
  rw [State.answer, answerRecord_query h]

/-! ### The parts of an entry (R157, R189) -/

/-- Two flags in the bits of a byte, from bit 0 on. -/
theorem bitsNumber_two (a b : Bool) : bitsNumber [a, b] = a.toNat + b.toNat * 2 := by
  cases a <;> cases b <;> rfl

theorem bitsNumber_one (a : Bool) : bitsNumber [a] = a.toNat := by
  cases a <;> rfl

theorem countItems_eq (state : ItemState) (items : List ContributorItem) :
    countItems state items = (items.filter fun i => i.state = state).length := by
  rw [countItems, List.countP_eq_length_filter]
  rfl

theorem contributorItemBytes_eq (p : AllotPart) (i : ContributorItem) : contributorItemBytes p i = tableBytes
    [(1, i.station), (1, match i.state with | .received => 1 | .estimated => 2 | .excluded => 3), (4, i.basis),
      (4, if i.state = .excluded ∨ p.b = 0 then 0 else p.e * i.basis / p.b)] := by
  have hshare : (if i.state == .excluded then 0 else shareOf p.e i.basis p.b)
      = if i.state = .excluded ∨ p.b = 0 then 0 else p.e * i.basis / p.b := by
    by_cases hexcluded : i.state = .excluded <;> simp [hexcluded, shareOf]
  simp only [contributorItemBytes, hshare, tableBytes_cons, tableBytes_nil, toBytes_one, List.append_nil, List.cons_append,
    List.nil_append]
  rfl

/-- A share item in the bytes of its rows (R189). -/
theorem shareItemBytes_eq (i : ShareItem) : let listed := i.allotment.bind AllotmentFigures.listed
    shareItemBytes i = tableBytes
      [(1, i.station), (1, match i.state with | .absent => 1 | .estimated => 2 | .received => 3),
        (1, bitsNumber [i.allotment.isSome, listed.isSome, listed.map Prod.snd == some true]),
        (1, (i.allotment.map fun a => a.revision.toNat).getD 0), (4, i.share),
        (4, (i.allotment.map AllotmentFigures.e).getD 0), (6, (i.allotment.map AllotmentFigures.b).getD 0),
        (1, (i.allotment.map fun a => basisNumber a.basis).getD 0), (4, (listed.map Prod.fst).getD 0)] := by
  simp only [shareItemBytes, bitsNumber_three, BasisKind.code_eq, tableBytes_cons, tableBytes_nil, toBytes_one,
    List.append_nil, List.append_assoc, List.cons_append, List.nil_append]
  rfl

theorem entryBody_line {e : Entry} {p : LinePart} (h : e.part = .line p) :
    entryBody e 0 = entryCommon e ++ linePart0 p ∧ entryBody e 1 = counted shareItemBytes p.shares ∧ entryBody e 2 = [0] := by
  refine ⟨?_, ?_, ?_⟩ <;> simp [entryBody, h, counted, byte]

theorem entryBody_apportioning {e : Entry} {p : AllotPart} (h : e.part = .apportioning p) :
    entryBody e 0 = entryCommon e ++ allotPart0 p ∧ entryBody e 1 = counted (contributorItemBytes p) (p.items.take 8)
      ∧ entryBody e 2 = counted (contributorItemBytes p) (p.items.drop 8) := by
  refine ⟨?_, ?_, ?_⟩ <;> simp [entryBody, h]

/-- Settles O41: the two queries by what they find in the book, and each part of an entry by the bytes of its table. -/
theorem bookQueriesAreAnswered : Obligations.BookQueriesAreAnswered := by
  unfold Obligations.BookQueriesAreAnswered
  refine ⟨fun s ch f hphase => ?queries, fun e p hpart => ?line, fun e p hpart => ?apportioning⟩
  case queries =>
    intro h q answer
    refine ⟨fun hd => ?result, fun hd => ?latest⟩
    case result =>
      have ⟨⟨_, _, _, hrow, _⟩, _⟩ := hd
      obtain ⟨hquery, hcode⟩ := Frame.row_bookQuery (item := 1) hrow (by simp)
      have hexec : exec (.queryResult ch f) s = .next (q.answerResult f) :=
        congrArg Host.Outcome.next (State.receive_query hd hphase _)
      refine ⟨fun hheld => ?_, fun e hheld => ⟨fun hstate => ?_, fun hstate => ?_, fun hstate => ?_⟩⟩
      · rw [hexec, State.answerResult_of_notHeld (s := q) hheld, State.answer_query _ hquery, hcode]
        rfl
      · obtain ⟨hnumber, -⟩ := State.held_some hheld
        rw [hexec, State.answerResult_of_struck (s := q) hheld hstate, State.answerEntry_query _ hquery, hcode, hnumber]
        rfl
      · rw [hexec, State.answerResult_of_unstruck (s := q) hheld (by simp [hstate]), State.answer_query _ hquery,
          hcode, hstate]
        rfl
      · rw [hexec, State.answerResult_of_unstruck (s := q) hheld (by simp [hstate]), State.answer_query _ hquery,
          hcode, hstate]
        rfl
    case latest =>
      have ⟨⟨_, _, _, hrow, _⟩, _⟩ := hd
      obtain ⟨hquery, hcode⟩ := Frame.row_bookQuery (item := 2) hrow (by simp)
      have hexec : exec (.queryLatest ch f) s = .next (q.answerLatest f) :=
        congrArg Host.Outcome.next (State.receive_query hd hphase _)
      refine ⟨fun hnone => ?_, fun older e newer hentries hstruck hnewer => ?_⟩
      · rw [hexec, State.answerLatest, State.newestStruck_eq_none (s := q) hnone]
        exact congrArg Host.Outcome.next ((q.answer_query hquery _ _).trans (by rw [hcode]; rfl))
      · rw [hexec, State.answerLatest, State.newestStruck_eq_some (s := q) hentries hstruck hnewer]
        exact congrArg Host.Outcome.next ((q.answerEntry_query hquery e).trans (by rw [hcode]; rfl))
  case line =>
    intro r
    obtain ⟨hpart0, hpart1, hpart2⟩ := entryBody_line hpart
    refine ⟨laidOut_of_eq (hpart0.trans ?_), laidOut_of_eq (hpart1.trans ?_), laidOut_of_eq (hpart2.trans rfl)⟩
    · simp only [linePart0, bitsNumber_two, tableBytes_append, tableBytes_entryRows, tableBytes_cons, tableBytes_nil,
        toBytes_one, List.append_nil, List.append_assoc]
      rfl
    · exact (tableBytes_countedRows _ fun i => (shareItemBytes_eq i).symm).symm
  case apportioning =>
    intro count item
    obtain ⟨hpart0, hpart1, hpart2⟩ := entryBody_apportioning hpart
    have hitems (items : List ContributorItem) : counted (contributorItemBytes p) items = tableBytes (countedRows items item) :=
      (tableBytes_countedRows _ fun i => (contributorItemBytes_eq p i).symm).symm
    refine ⟨laidOut_of_eq (hpart0.trans ?_), laidOut_of_eq (hpart1.trans (hitems _)), laidOut_of_eq (hpart2.trans (hitems _))⟩
    simp only [allotPart0, countItems_eq, BasisKind.code_eq, bitsNumber_one, count, tableBytes_append, tableBytes_entryRows,
      tableBytes_cons, tableBytes_nil, toBytes_one, List.append_nil, List.append_assoc, List.cons_append, List.nil_append]

/-! ### Refusals and UNKNOWN (R154, R161, R162, R165, R166) -/

/-- The last refusal that a request leaves (R166). -/
def refusalOf (f : Frame) (outcome : RequestOutcome) : LastRefusal :=
  { order := isOrder f, code := requestCode f, source := f.source, tag := f.tag, outcome := outcome }

theorem State.countUnknown_eq (s : State) (f : Frame) (outcome : RequestOutcome) : s.countUnknown f outcome
    = { s with requests := { s.requests with
        unknown := min 65535 (s.requests.unknown + 1), lastRefusal := some (refusalOf f outcome) } } := rfl

/-- A query that an UNCONFIGURED station cannot answer is counted and recorded, without an answer (R161, R166). -/
theorem exec_query_notReady {s : State} {row : FrameRow} {ch : Chan} {f : Frame} (hd : s.delivers row ch f)
    (hphase : s.time.accounting = .unconfigured) (hquery : isOrder f = false)
    (hrow : row ∈ [FrameRow.queryResult, .queryLatest, .queryCampaign, .queryChannels, .unknown]) :
    exec (frameCommand row ch f) s = .next ((s.heard ch f).countQuery.countUnknown f .notReady) := by
  have hnotReady (k : State → State) : (s.heard ch f).query f k = (s.heard ch f).countQuery.countUnknown f .notReady := by
    rcases (s.heard ch f).query_cases f k with ⟨-, hrefused⟩ | ⟨hconfigured, -⟩
    · exact hrefused
    · exact absurd hphase hconfigured
  have hexec : ∃ k, exec (frameCommand row ch f) s = .next ((s.heard ch f).query f k) := by
    rcases (by simpa using hrow) with rfl | rfl | rfl | rfl | rfl
    case inr.inr.inr.inr =>
      refine ⟨fun t => (t.countUnknown f .unknown).answer f .unknown [], congrArg Host.Outcome.next ?_⟩
      exact (State.receive_of_delivers hd _).trans (if_neg (by simp [hquery]))
    all_goals exact ⟨_, congrArg Host.Outcome.next (State.receive_of_delivers hd _)⟩
  obtain ⟨k, hexec⟩ := hexec
  rw [hexec, hnotReady]

/-- An order in an UNCONFIGURED station is refused before any other test (R161, R162). -/
theorem exec_order_refusedState {s : State} {row : FrameRow} {ch : Chan} {f : Frame} (hd : s.delivers row ch f)
    (hphase : s.time.accounting = .unconfigured) (hsettings : s.settings = none) (horder : isOrder f = true)
    (hrow : row ∈ [FrameRow.unknown, .orderZero, .orderJob]) :
    exec (frameCommand row ch f) s = .next ((s.heard ch f).refuse f .refusedState) := by
  have hrefusal (job : Bool) : (s.heard ch f).orderRefusal f job = some .refusedState := by
    simp [State.orderRefusal, show (s.heard ch f).settings = none from hsettings]
  have hunconfigured : (s.heard ch f).isUnconfigured = true := beq_iff_eq.mpr hphase
  rcases (by simpa using hrow) with rfl | rfl | rfl
  · refine congrArg Host.Outcome.next ((State.receive_of_delivers hd _).trans ((if_pos horder).trans ?_))
    rw [State.unknownOrder, if_pos hunconfigured]
  · refine congrArg Host.Outcome.next ((State.receive_of_delivers hd _).trans ?_)
    rw [State.takeZero, hrefusal]
  · refine congrArg Host.Outcome.next ((State.receive_of_delivers hd _).trans ?_)
    rw [State.takeJob, hrefusal]

/-- An order refused for the station's state is counted and recorded, sets SERVICE and is not answered (R162, R166). -/
theorem State.refuse_refusedState (s : State) (f : Frame) :
    let t := s.refuse f .refusedState
    t = { s with requests := t.requests, link := { s.link with service := true }, alerts := t.alerts }
      ∧ t.requests = { s.requests with
          refused := min 65535 (s.requests.refused + 1), lastRefusal := some (refusalOf f .refusedState) } :=
  ⟨rfl, rfl⟩

/-- Settles O43: a query and an order of no known code in a configured station, and each kind of request in an UNCONFIGURED one. -/
theorem unanswerableRequestsAreRecorded : Obligations.UnanswerableRequestsAreRecorded := by
  unfold Obligations.UnanswerableRequestsAreRecorded
  intro s ch f h code refusal answer more
  have hquery (hkind : f.kind = 4) : isOrder f = false := by simp [isOrder, hkind]
  have horder (hkind : f.kind = 5) : isOrder f = true := by simp [isOrder, hkind]
  have hrecorded {order : Bool} (ho : isOrder f = order) (outcome : RequestOutcome) :
      some (refusalOf f outcome) = refusal order outcome := by rw [refusalOf, ho]; rfl
  have hanswer : answerRecord f .unknown [] f.period false = answer := by
    simp [answerRecord, answer, isOrder, code, requestCode, RequestOutcome.code, byte]
  refine ⟨fun hd hphase hkind => ?unknownQuery, fun hd hphase hkind => ?unknownOrder,
    fun hphase row hrow hkind hd => ?notReady, fun hphase hsettings row hrow hkind hd => ?refusedState⟩
  case unknownQuery =>
    have hexec : exec (.unknownRequest ch f) s = .next (h.unknownQuery f) :=
      congrArg Host.Outcome.next ((State.receive_of_delivers hd _).trans (if_neg (by simp [hquery hkind])))
    rw [hexec, State.unknownQuery, State.query_configured (s := h) hphase, State.answer, hanswer, State.countUnknown_eq,
      hrecorded (hquery hkind)]
    rfl
  case unknownOrder =>
    intro u
    have hexec : exec (.unknownRequest ch f) s = .next (h.unknownOrder f) :=
      congrArg Host.Outcome.next ((State.receive_of_delivers hd _).trans (if_pos (horder hkind)))
    have hconfigured : ¬h.isUnconfigured = true := fun hu => hphase (beq_iff_eq.mp hu)
    rw [hexec, State.unknownOrder, if_neg hconfigured, State.answerOrder, State.answer, hanswer, State.countUnknown_eq,
      hrecorded (horder hkind)]
    rfl
  case notReady =>
    rw [exec_query_notReady hd hphase (hquery hkind) hrow, State.countUnknown_eq, hrecorded (hquery hkind)]
    rfl
  case refusedState =>
    obtain ⟨hframe, hrequests⟩ := State.refuse_refusedState h f
    refine ⟨_, exec_order_refusedState hd hphase hsettings (horder hkind) hrow, hframe, ?_⟩
    rw [hrequests, hrecorded (horder hkind)]
    rfl

end Sys2Proof.Machine
end

section
/-! What start-up makes of the station: a hardware reset (O3) and the settling waits of an image (O7). -/

namespace Sys2Proof.Machine

open Sys2Proof

/-! ### A hardware reset (R168) -/

theorem exec_hardwareReset (s : State) : exec .hardwareReset s = .next { State.reset with pending := s.pending } := rfl

@[simp] theorem Bank.atReset_channel (i : Fin 8) : Bank.atReset.channels[i] = ChannelState.atReset := by
  simp [Bank.atReset]

@[simp] theorem State.reset_input (i : Fin 8) : State.reset.inputs[i] = InputLine.atReset := by
  simp [State.reset]

@[simp] theorem MeterPort.atReset_entry (m : Fin 8) : MeterPort.atReset.entries[m] = MeterEntry.atReset := by
  simp [MeterPort.atReset]

@[simp] theorem Link.atReset_chan (ch : Chan) : Link.atReset.chan ch = LinkChannel.atReset := by cases ch <;> rfl

/-- No poll is running, so the port sends nothing (R47). -/
theorem MeterPort.atReset_transmitting : MeterPort.atReset.transmitting = false := rfl

/-- An alert line without a mode is released (R181). -/
theorem AlertLine.atReset_active : AlertLine.atReset.active = false := rfl

/-- A station that is LOADING shows the phase code 10 (R185). -/
theorem State.phaseCode_loading {s : State} (h : s.time.accounting = .loading) : s.phaseCode = (true, false) := by
  simp only [State.phaseCode, h]

/-- Settles O3: the next state is the reset state with the commands that wait, read block by block from the reset tables; the
figures of a line, a channel of the bank, a meter entry and a link channel are those of their own reset values. -/
theorem hardwareResetResetsEveryBlock : Obligations.HardwareResetResetsEveryBlock := by
  unfold Obligations.HardwareResetResetsEveryBlock
  intro s
  refine ⟨_, exec_hardwareReset s, rfl, ?time, fun i => ⟨?channel, ?rise, ?fall, ?entry⟩, ?figures, ?port, ?book, ?link,
    fun ch => ?linkChannel, ?requests, ?alertOne, ?alertTwo, rfl, rfl, State.phaseCode_loading rfl⟩
  case time => exact ⟨rfl, rfl, rfl, rfl, rfl, rfl, rfl, rfl, rfl⟩
  case channel => exact Bank.atReset_channel i
  case rise => exact congrArg InputLine.lastRise (State.reset_input i)
  case fall => exact congrArg InputLine.lastFall (State.reset_input i)
  case entry => exact MeterPort.atReset_entry i
  case figures => exact ⟨rfl, rfl, rfl, rfl, rfl⟩
  case port => exact ⟨rfl, rfl, rfl, rfl, rfl, MeterPort.atReset_transmitting⟩
  case book => exact ⟨rfl, rfl, rfl, rfl, rfl⟩
  case link => exact ⟨rfl, rfl, rfl, rfl, rfl, rfl⟩
  case linkChannel =>
    have hchan : ({ State.reset with pending := s.pending } : State).link.chan ch = LinkChannel.atReset := Link.atReset_chan ch
    rw [hchan]
    exact ⟨rfl, rfl, rfl, rfl, rfl, rfl⟩
  case requests => exact ⟨rfl, rfl, rfl, rfl, rfl⟩
  case alertOne => exact AlertLine.atReset_active
  case alertTwo => exact AlertLine.atReset_active

/-! ### The settling waits (R70, R175) -/

/-- A value clamped between two bounds, by where it lies. -/
theorem max_min_eq_ite {low high v : Nat} (h : low ≤ high) :
    max low (min high v) = if v < low then low else if high < v then high else v := by
  split
  · omega
  · split <;> omega

section
variable {periodLength t1 t2 : Nat}

/-- Where the range of T2 holds a value, T1 keeps its own clamp and T2 is clamped into that range. -/
theorem clampWaits_of_le (h : max 2 (min 120 t1) + 2 ≤ min 240 (periodLength - 1)) :
    clampWaits periodLength t1 t2
      = (max 2 (min 120 t1), max (max 2 (min 120 t1) + 2) (min (min 240 (periodLength - 1)) t2)) :=
  if_neg (Nat.not_lt.mpr h)

/-- Where the range of T2 is empty, its upper end fixes both waits. -/
theorem clampWaits_of_lt (h : min 240 (periodLength - 1) < max 2 (min 120 t1) + 2) :
    clampWaits periodLength t1 t2 = (min 240 (periodLength - 1) - 2, min 240 (periodLength - 1)) :=
  if_pos h

/-- The waits of a period of at least 5 s lie in the ranges of R70. -/
theorem clampWaits_inRange (hlength : 5 ≤ periodLength) :
    let w := clampWaits periodLength t1 t2
    2 ≤ w.1 ∧ w.1 ≤ 120 ∧ w.1 + 2 ≤ w.2 ∧ w.2 ≤ 240 ∧ w.2 < periodLength := by
  rcases Nat.lt_or_ge (min 240 (periodLength - 1)) (max 2 (min 120 t1) + 2) with h | h
  · rw [clampWaits_of_lt h]
    dsimp only
    omega
  · rw [clampWaits_of_le h]
    dsimp only
    omega

end

section
variable {img : List Byte} {role : Role} {own : Option Nat}

/-- The shortest period is 60 s (R174). -/
theorem takePeriodLength_ge : 60 ≤ (takePeriodLength img).1 := by
  rw [takePeriodLength_eq]
  rcases imageByte img 8 with _ | _ | _ | _ | _ | _ | n <;> simp

/-- The configuration holds the waits clamped by its own period length. -/
theorem settingsOf_waits : let c := settingsOf img role own
    (c.t1, c.t2) = clampWaits c.periodLength (imageByte img 10) (imageByte img 11) := rfl

/-- A wait that is not taken as the image gives it is a clamp (R175, R178). -/
theorem imageClamped_of_waits (h : (takeWaits img).1 ≠ (imageByte img 10, imageByte img 11)) :
    imageClamped img role own = true := by
  have hwaits : (takeWaits img).2 = true := bne_iff_ne.mpr h
  exact imageClamped_of_station (by simp [stationClamps, hwaits])

end

/-- Settles O7: the two waits by whether the range of T2 is empty, in range since a period lasts at least 60 s. -/
theorem settlingWaitsAreClampedIntoRange : Obligations.SettlingWaitsAreClampedIntoRange := by
  unfold Obligations.SettlingWaitsAreClampedIntoRange
  intro img role own c first upper
  have hwaits : (c.t1, c.t2) = clampWaits c.periodLength (imageByte img 10) (imageByte img 11) := settingsOf_waits
  have hlength : 60 ≤ c.periodLength := takePeriodLength_ge
  have hupper : 59 ≤ upper := by omega
  refine ⟨fun h => ?inside, fun h => ?empty, ⟨hlength, hupper⟩, ?range, fun hchange => ?clamped,
    fun h => Settings.wait_line (c := c) h, fun h => Settings.wait_of_ne (c := c) h⟩
  case inside =>
    obtain ⟨ht1, ht2⟩ := Prod.mk.inj (hwaits.trans (clampWaits_of_le h))
    exact ⟨ht1, ht2.trans (max_min_eq_ite h)⟩
  case empty =>
    obtain ⟨ht1, ht2⟩ := Prod.mk.inj (hwaits.trans (clampWaits_of_lt h))
    omega
  case range =>
    have hrange := clampWaits_inRange (t1 := imageByte img 10) (t2 := imageByte img 11) (by omega : 5 ≤ c.periodLength)
    rwa [← hwaits] at hrange
  case clamped =>
    refine imageClamped_of_waits fun heq => ?_
    rcases hchange with h1 | h2
    · exact h1 (congrArg Prod.fst heq)
    · exact h2 (congrArg Prod.snd heq)

end Sys2Proof.Machine
end

section
/-! SUPPORT. What a group's OR is made of, and the phase code (R27, R42, R57, R139, R181, R185, R191). -/

namespace Sys2Proof.Machine

open Sys2Proof

/-! ### The causes of METER and CHANNEL (R27, R42, R57, R139) -/

theorem State.faultActive_iff (s : State) : s.faultActive = true ↔ ∃ c, s.settings = some c ∧ ∃ i : Fin 8,
    c.lines[i].role = .fault ∧ s.inputs[i].level = if c.lines[i].polarity = .risingHigh then Level.high else .low := by
  unfold State.faultActive State.anyActive
  cases s.settings <;> simp [lineActive_iff]

theorem State.meterFailed_iff (s : State) : s.meterFailed = true ↔ ∃ c, s.settings = some c ∧ ∃ m : Fin 8,
    c.meters[m].isSome = true ∧ s.meter.entries[m].state = .failed := by
  unfold State.meterFailed
  cases s.settings <;> simp

theorem State.meterCondition_iff (s : State) :
    s.meterCondition = true ↔ s.meter.alarmSeen = true ∨ s.faultActive = true ∨ s.meterFailed = true := by
  simp only [State.meterCondition, Bool.or_eq_true]
  tauto

theorem State.channelCondition_iff (s : State) :
    s.channelCondition = true ↔ s.link.a.state ≠ .active ∨ s.link.b.state ≠ .active := by
  simp [State.channelCondition]

/-! ### The members of a group (R181, R191) -/

/-- The first bit of a string is the lowest of its number. -/
theorem bitsNumber_cons (b : Bool) (bits : List Bool) : bitsNumber (b :: bits) = Nat.bit b (bitsNumber bits) := by
  have hshift : (bits.zipIdx 1).map (fun x => if x.1 then 2 ^ x.2 else 0)
      = bits.zipIdx.map fun x => 2 * if x.1 then 2 ^ x.2 else 0 := by
    rw [List.zipIdx_succ, List.map_map]
    refine List.map_congr_left fun x _ => ?_
    simp [pow_succ']
  simp only [bitsNumber, List.zipIdx_cons, List.map_cons, List.sum_cons, zero_add, hshift, List.sum_map_mul_left]
  cases b <;> simp [Nat.bit, Nat.add_comm]

theorem testBit_bitsNumber (bits : List Bool) (i : Nat) : (bitsNumber bits).testBit i = bits.getD i false := by
  induction bits generalizing i with
  | nil => simp [bitsNumber]
  | cons b bits ih =>
    rw [bitsNumber_cons]
    cases i with
    | zero => simp
    | succ i => rw [Nat.testBit_bit_succ, ih]; rfl

/-- A byte has a bit in common with a byte of eight flags exactly when one of the flags at its bits is set. -/
theorem and_byteOfBits_ne_zero_iff (g : Byte) (b7 b6 b5 b4 b3 b2 b1 b0 : Bool) :
    (g &&& byteOfBits b7 b6 b5 b4 b3 b2 b1 b0 != 0) = true
      ↔ ∃ i < 8, g.getLsbD i = true ∧ [b0, b1, b2, b3, b4, b5, b6, b7].getD i false = true := by
  rw [byteOfBits_eq_bitsNumber, bne_iff_ne, Ne, BitVec.eq_of_getLsbD_eq_iff]
  simp only [BitVec.getLsbD_and, BitVec.getLsbD_ofNat, testBit_bitsNumber, not_forall, exists_prop]
  refine exists_congr fun i => and_congr_right fun hi => ?_
  simp [hi]

/-- A group's OR is true exactly when one of its members is. -/
theorem State.groupOr_iff (s : State) (g : Byte) : s.groupOr g = true ↔
    (g.getLsbD 0 = true ∧ s.meterCondition = true) ∨ (g.getLsbD 1 = true ∧ s.channelCondition = true)
      ∨ (g.getLsbD 2 = true ∧ s.time.timebase = true) ∨ (g.getLsbD 3 = true ∧ s.time.gap = true)
      ∨ (g.getLsbD 4 = true ∧ s.link.service = true) ∨ (g.getLsbD 5 = true ∧ s.loader.clamped = true)
      ∨ (g.getLsbD 6 = true ∧ s.time.accounting = .unconfigured)
      ∨ (g.getLsbD 7 = true ∧ s.alerts.estimatedStrike = true) := by
  rw [State.groupOr, State.alertMembers, and_byteOfBits_ne_zero_iff]
  simp only [Nat.exists_lt_succ_left]
  simp

/-! ### The phase code (R185) -/

theorem State.phaseCode_unconfigured {s : State} (h : s.time.accounting = .unconfigured) : s.phaseCode = (true, false) := by
  simp only [State.phaseCode, h]

theorem State.phaseCode_starting {s : State} (h : s.time.accounting = .starting) : s.phaseCode = (true, true) := by
  simp only [State.phaseCode, h]

end Sys2Proof.Machine
end

section
/-! SUPPORT. What keeps the alert lines on their groups: a step that leaves the members as they are, and one after which the ORs
are worked out again (R181, R182). -/

namespace Sys2Proof.Machine

open Sys2Proof

/-! ### One alert line -/

/-- Where the line k is in PULSE mode and its OR has risen since l, its pulse runs (R182). -/
def AlertLine.RisesTo (l k : AlertLine) : Prop :=
  k.mode = some .pulse → l.lastOr = false → k.lastOr = true → k.pulse = true

/-- The line goes on from l to k: its mode stays, a pulse that runs runs on, and a rise starts one (R181, R182). -/
structure AlertLine.GoesOn (l k : AlertLine) : Prop where
  mode : k.mode = l.mode
  runs : l.pulse = true → k.pulse = true
  rises : l.RisesTo k

/-- A line whose OR is as it was has not risen. -/
theorem AlertLine.RisesTo.of_lastOr {l k : AlertLine} (h : k.lastOr = l.lastOr) : l.RisesTo k := by
  intro _ hfalse htrue
  simp [h, hfalse] at htrue

theorem AlertLine.GoesOn.refl (l : AlertLine) : l.GoesOn l := ⟨rfl, id, .of_lastOr rfl⟩

theorem AlertLine.GoesOn.trans {l k m : AlertLine} (h : l.GoesOn k) (h' : k.GoesOn m) : l.GoesOn m := by
  refine ⟨h'.mode.trans h.mode, h'.runs ∘ h.runs, fun hmode hfalse htrue => ?_⟩
  cases hbetween : k.lastOr
  · exact h'.rises hmode hbetween htrue
  · exact h'.runs (h.rises (h'.mode ▸ hmode) hfalse hbetween)

@[simp] theorem AlertLine.take_mode (l : AlertLine) (now : Bool) : (l.take now).mode = l.mode := by
  unfold AlertLine.take
  split <;> rfl

@[simp] theorem AlertLine.take_group (l : AlertLine) (now : Bool) : (l.take now).group = l.group := by
  unfold AlertLine.take
  split <;> rfl

theorem AlertLine.take_lastOr {l : AlertLine} (h : l.mode ≠ none) (now : Bool) : (l.take now).lastOr = now := by
  unfold AlertLine.take
  split
  · next hnone => exact absurd hnone h
  · rfl
  · rfl

/-- A line that takes its OR goes on: a rise in PULSE mode starts the timer, and nothing stops one that runs. -/
theorem AlertLine.goesOn_take (l : AlertLine) (now : Bool) : l.GoesOn (l.take now) := by
  unfold AlertLine.take
  split
  · exact .refl l
  · next hlevel => exact ⟨rfl, id, fun hpulse => by simp [hlevel] at hpulse⟩
  · refine ⟨rfl, fun h => by simp [h], fun _ hfalse htrue => ?_⟩
    have hnow : now = true := htrue
    simp [hfalse, hnow]

/-- A line that is configured and takes its first OR: a group already true is a rise. -/
theorem AlertLine.risesTo_configured (l : AlertLine) (setup : AlertSetup) (now : Bool) :
    l.RisesTo ((AlertLine.configure setup).take now) := by
  rw [AlertLine.take_configure]
  intro hmode _ hnow
  have hpulse : setup.mode = .pulse := Option.some.inj hmode
  have hnow : now = true := hnow
  simp [hpulse, hnow]

theorem AlertLine.active_level {l : AlertLine} (h : l.mode = some .level) : l.active = l.lastOr := by
  simp only [AlertLine.active, h]

theorem AlertLine.active_pulse {l : AlertLine} (h : l.mode = some .pulse) : l.active = l.pulse := by
  simp only [AlertLine.active, h]

/-- A LEVEL line that follows its group is active exactly while its OR is true (R181). -/
theorem AlertLine.follows.active_level {l : AlertLine} {s : State} (h : l.follows s) (hmode : l.mode = some .level) :
    l.active = s.groupOr l.group :=
  (AlertLine.active_level hmode).trans (h (by simp [hmode]))

/-- A PULSE line that follows its group is active after a rise of its OR (R182). -/
theorem AlertLine.follows.active_pulse {l k : AlertLine} {t : State} (h : k.follows t) (hrises : l.RisesTo k)
    (hmode : k.mode = some .pulse) (hfalse : l.lastOr = false) (htrue : t.groupOr k.group = true) : k.active = true :=
  (AlertLine.active_pulse hmode).trans (hrises hmode hfalse ((h (by simp [hmode])).trans htrue))

/-! ### Both alert lines -/

/-- The alert line of a number. -/
def Alerts.line (a : Alerts) : AlertNo → AlertLine
  | .one => a.one
  | .two => a.two

theorem State.alertsFollow_iff (s : State) : s.alertsFollow ↔ (∀ n, (s.alerts.line n).follows s)
    ∧ (s.loader.phase ≠ .ended → ∀ n, (s.alerts.line n).mode = none) := by
  constructor
  · rintro ⟨hone, htwo, hmode⟩
    refine ⟨fun n => ?_, fun h n => ?_⟩ <;> cases n
    exacts [hone, htwo, (hmode h).1, (hmode h).2]
  · rintro ⟨hfollows, hmode⟩
    exact ⟨hfollows .one, hfollows .two, fun h => ⟨hmode h .one, hmode h .two⟩⟩

/-- Before loading ends no line has a mode, and so both follow their groups. -/
theorem State.alertsFollow_of_noMode {s : State} (h : ∀ n, (s.alerts.line n).mode = none) : s.alertsFollow :=
  s.alertsFollow_iff.mpr ⟨fun n hmode => absurd (h n) hmode, fun _ => h⟩

theorem State.line_refreshAlerts (s : State) (n : AlertNo) :
    s.refreshAlerts.alerts.line n = (s.alerts.line n).take (s.groupOr (s.alerts.line n).group) := by
  cases n <;> rfl

/-- Working the ORs out again leaves the members as they are. -/
@[simp] theorem State.refreshAlerts_groupOr (s : State) (g : Byte) : s.refreshAlerts.groupOr g = s.groupOr g := rfl

theorem State.refreshAlerts_follows (s : State) (n : AlertNo) : (s.refreshAlerts.alerts.line n).follows s.refreshAlerts := by
  rw [State.line_refreshAlerts]
  intro hmode
  rw [AlertLine.take_lastOr (by simpa using hmode), AlertLine.take_group, State.refreshAlerts_groupOr]

/-! ### Steps that keep the alert lines -/

/-- The step from s to t keeps the alert lines on their groups, and each goes on. -/
structure State.KeepsAlerts (s t : State) : Prop where
  follows : s.alertsFollow → t.alertsFollow
  lines : ∀ n, (s.alerts.line n).GoesOn (t.alerts.line n)

theorem State.KeepsAlerts.refl (s : State) : s.KeepsAlerts s := ⟨id, fun _ => .refl _⟩

theorem State.KeepsAlerts.trans {s t u : State} (h : s.KeepsAlerts t) (k : t.KeepsAlerts u) : s.KeepsAlerts u :=
  ⟨k.follows ∘ h.follows, fun n => (h.lines n).trans (k.lines n)⟩

/-- A step that may be left out. -/
theorem State.KeepsAlerts.ite {s t : State} (test : Prop) [Decidable test] (h : s.KeepsAlerts t) :
    s.KeepsAlerts (if test then t else s) := by
  split
  · exact h
  · exact .refl s

/-- A step that leaves the truth of every member, and the alert lines. -/
theorem State.KeepsAlerts.of_members {s t : State} (hl : t.loader.phase = s.loader.phase)
    (hm : t.alertMembers = s.alertMembers) (ha : t.alerts = s.alerts) : s.KeepsAlerts t := by
  refine ⟨?_, fun n => by rw [ha]; exact .refl _⟩
  rw [State.alertsFollow_iff, State.alertsFollow_iff, ha, hl]
  rintro ⟨hfollows, hmode⟩
  refine ⟨fun n h => ?_, hmode⟩
  rw [State.groupOr, hm]
  exact hfollows n h

/-- A step after which both ORs are worked out again, whatever it does to the members (R181). -/
theorem State.KeepsAlerts.of_refresh {s u : State} (hl : u.loader.phase = s.loader.phase := by rfl)
    (hone : u.alerts.one = s.alerts.one := by rfl) (htwo : u.alerts.two = s.alerts.two := by rfl) :
    s.KeepsAlerts u.refreshAlerts := by
  have hline (n : AlertNo) : u.alerts.line n = s.alerts.line n := by cases n <;> assumption
  refine ⟨?_, fun n => ?_⟩
  · rw [State.alertsFollow_iff, State.alertsFollow_iff, State.refreshAlerts_loader, hl]
    rintro ⟨-, hmode⟩
    refine ⟨u.refreshAlerts_follows, fun h n => ?_⟩
    rw [State.line_refreshAlerts, AlertLine.take_mode, hline]
    exact hmode h n
  · rw [State.line_refreshAlerts, hline]
    exact AlertLine.goesOn_take _ _

/-- A step that leaves the loader, the configuration, the time base, the inputs, the meter port and the alert lines, and of the
link the state of each channel and SERVICE. -/
theorem State.KeepsAlerts.of_link {s t : State} (hchan : ∀ ch, (t.link.chan ch).state = (s.link.chan ch).state)
    (hservice : t.link.service = s.link.service) (hl : t.loader = s.loader := by simp)
    (hc : t.settings = s.settings := by simp) (ht : t.time = s.time := by simp) (hi : t.inputs = s.inputs := by simp)
    (hm : t.meter = s.meter := by simp) (ha : t.alerts = s.alerts := by simp) : s.KeepsAlerts t := by
  have hone : t.link.a.state = s.link.a.state := hchan .a
  have htwo : t.link.b.state = s.link.b.state := hchan .b
  refine .of_members (by rw [hl]) ?_ ha
  simp only [State.alertMembers, State.channelCondition, State.meterCondition, State.faultActive, State.anyActive,
    State.meterFailed, hone, htwo, hservice, hl, hc, ht, hi, hm, ha]

/-- A step that changes the bank, the book, the station tables and the requests alone. -/
theorem State.KeepsAlerts.of_book {s t : State} (hk : t.link = s.link := by simp) (hl : t.loader = s.loader := by simp)
    (hc : t.settings = s.settings := by simp) (ht : t.time = s.time := by simp) (hi : t.inputs = s.inputs := by simp)
    (hm : t.meter = s.meter := by simp) (ha : t.alerts = s.alerts := by simp) : s.KeepsAlerts t :=
  .of_link (fun _ => by rw [hk]) (by rw [hk]) hl hc ht hi hm ha

/-! ### Input lines (R27, R42) -/

theorem State.lineHasRole_ne {s : State} {line : Fin 8} {role other : LineRole} (h : s.lineHasRole line role = true)
    (hne : role ≠ other) : s.lineHasRole line other = false := by
  unfold State.lineHasRole at *
  cases hc : s.settings <;> simp_all

theorem State.pulsePossible_role {s : State} {line : Fin 8} {role : LineRole} (h : s.pulsePossible line role = true) :
    s.lineHasRole line role = true := (Bool.and_eq_true_iff.mp h).1

/-- An edge that delivers no event is none of a FAULT line. -/
theorem State.deliversNothing_fault {s : State} {line : Fin 8} {edge : Edge} (h : s.deliversNothing line edge = true) :
    s.lineHasRole line .fault = false := by
  rw [Bool.eq_false_iff]
  intro hfault
  cases hc : s.settings with
  | none => simp [State.lineHasRole, hc] at hfault
  | some c =>
    have hnothing := (State.deliversNothing_iff hc line edge).mp h
    rw [(State.lineHasRole_iff hc line .fault).mp hfault] at hnothing
    simp at hnothing

/-- Whatever a line without role FAULT becomes, the FAULT lines are active as they were. -/
theorem State.faultActive_setLine {s : State} {line : Fin 8} (h : s.lineHasRole line .fault = false) (l : InputLine) :
    ({ s with inputs := s.inputs.set line l } : State).faultActive = s.faultActive := by
  rw [Bool.eq_iff_iff, State.faultActive_iff, State.faultActive_iff]
  refine exists_congr fun c => and_congr_right fun hc => exists_congr fun i => and_congr_right fun hrole => ?_
  have hne : line ≠ i := by
    rintro rfl
    exact Bool.eq_false_iff.mp h ((State.lineHasRole_iff hc line .fault).mpr hrole)
  simp [hne, Fin.val_inj]

theorem State.setLine_keepsAlerts {s : State} {line : Fin 8} (h : s.lineHasRole line .fault = false) (l : InputLine) :
    s.KeepsAlerts { s with inputs := s.inputs.set line l } := by
  refine .of_members rfl ?_ rfl
  simp only [State.alertMembers, State.meterCondition, State.faultActive_setLine h]
  rfl

/-- A counted edge of a pulse role moves its line, which is no FAULT line. -/
theorem State.pulse_keepsAlerts {s : State} {line : Fin 8} {role : LineRole} (h : s.pulsePossible line role = true)
    (hne : role ≠ .fault) (edge : Edge) : s.KeepsAlerts (s.setLevel line edge) :=
  State.setLine_keepsAlerts (State.lineHasRole_ne (State.pulsePossible_role h) hne) _

end Sys2Proof.Machine
end

section
/-! SUPPORT. The shared operations keep the alert lines: the link, strikes and boundaries, base ticks, records and requests, polls
(R181). -/

namespace Sys2Proof.Machine

open Sys2Proof

/-! ### The link controller (R139, R150) -/

/-- No record handed over changes a channel's state or SERVICE in the link (R140 to R144). -/
theorem Link.handOver_state (l : Link) (listenOnly : Bool) (r : Record) :
    (∀ ch, ((l.handOver listenOnly r).1.chan ch).state = (l.chan ch).state)
      ∧ (l.handOver listenOnly r).1.service = l.service := by
  have henter (k : Link) (ch : Chan) : ((k.enter r).chan ch).state = (k.chan ch).state := by simp [Link.chan_enter]
  have hfull (ch : Chan) : ({ l with overflow := grow l.overflow 1 } : Link).chan ch = l.chan ch := by cases ch <;> rfl
  rcases l.handOver_cases listenOnly r with ⟨-, he⟩ | ⟨-, -, -, he⟩ | ⟨-, -, -, -, he⟩ | ⟨-, -, -, -, -, he⟩ |
    ⟨q, -, -, -, -, -, -, he⟩ <;> rw [he]
  · exact ⟨fun ch => by cases ch <;> rfl, rfl⟩
  · exact ⟨fun ch => by rw [Link.chan_replaceMark, LinkChannel.supersede_eq, LinkChannel.recount_state], rfl⟩
  · exact ⟨henter l, rfl⟩
  · exact ⟨fun ch => by rw [hfull], rfl⟩
  · exact ⟨fun ch => by rw [henter, Link.chan_remove, LinkChannel.recount_state, hfull], rfl⟩

theorem State.handOver_keepsAlerts (s : State) (r : Record) : s.KeepsAlerts (s.handOver r) := by
  obtain ⟨hchan, hservice⟩ := s.link.handOver_state s.listenOnly r
  unfold State.handOver
  dsimp only
  split
  · exact .of_refresh
  · exact .of_link hchan hservice

theorem State.withdrawMark_keepsAlerts (s : State) : s.KeepsAlerts s.withdrawMark := by
  refine .of_link (fun ch => ?_) rfl
  show (s.link.withdrawMark.chan ch).state = _
  rw [Link.chan_withdrawMark, LinkChannel.withdraw_eq, LinkChannel.recount_state]

/-- A command of one channel that leaves its state. -/
theorem State.setChan_keepsAlerts (s : State) (ch : Chan) {c : LinkChannel}
    (hc : c.state = (s.link.chan ch).state := by rfl) : s.KeepsAlerts (s.setChan ch c) := by
  refine .of_link (fun other => ?_) (by simp [State.setChan])
  by_cases ho : other = ch
  · subst ho; simpa using hc
  · rw [State.setChan, Link.chan_setChan_other _ _ ho]

/-- The end of a frame that leaves its channel's state (R135, R137, R138). -/
theorem State.afterFrame_keepsAlerts (s : State) (ch : Chan) (released : Bool) (seq : Nat) :
    s.KeepsAlerts { s with link := s.link.afterFrame ch (s.link.chan ch) released seq } := by
  obtain ⟨hlink, hchan, hother⟩ := s.link.afterFrame_eq ch (s.link.chan ch) released seq
  refine .of_link (fun other => ?_) (by rw [hlink])
  by_cases ho : other = ch
  · subst ho; simp [hchan]
  · simp [hother other ho]

/-! ### Strikes and revisions (R72, R78, R184) -/

theorem State.dropLate_keepsAlerts (s : State) : s.KeepsAlerts s.dropLate := .of_refresh

theorem State.afterStrike_keepsAlerts (s : State) (e : Entry) : s.KeepsAlerts (s.afterStrike e) := .of_refresh

theorem State.strike_keepsAlerts (s : State) (e : Entry) : s.KeepsAlerts (s.strike e) := by
  rcases s.strike_cases e with ⟨-, h⟩ | ⟨-, p, -, h⟩ | ⟨-, p, -, -, h⟩ | ⟨-, p, n, -, -, h⟩ <;> rw [h]
  · exact .refl s
  · exact (s.afterStrike_keepsAlerts (e.withShares p (p.shares.map (completeShare s.subscriptions))).struckNow).trans
      (.of_members rfl rfl rfl)
  · exact (s.afterStrike_keepsAlerts { e.struckNow with part := .apportioning { p with residue := some p.e } }).trans
      (.of_members rfl rfl rfl)
  · refine (State.KeepsAlerts.trans (s.afterStrike_keepsAlerts
      (e.withItems p (s.role.getD .pool) (s.contributors.map (completeItem p.items))).struckNow) ?_).trans
      (State.handOver_keepsAlerts _ _)
    exact .of_members rfl rfl rfl

theorem State.strikes_keepsAlerts (s : State) (es : List Entry) : s.KeepsAlerts (es.foldl State.strike s) := by
  induction es generalizing s with
  | nil => exact .refl s
  | cons e es ih => exact (s.strike_keepsAlerts e).trans (ih _)

/-! ### Boundaries (R6, R11, R15, R57, R81) -/

theorem State.closeOpen_keepsAlerts (s : State) (kind : EntryKind) : s.KeepsAlerts (s.closeOpen kind) := by
  unfold State.closeOpen
  split
  · next c e _ _ =>
    have hfixed : s.KeepsAlerts (s.fixFigures c (closedEntry s c kind e)) := .of_refresh
    have htold : s.KeepsAlerts ((s.fixFigures c (closedEntry s c kind e)).queueTally (closedEntry s c kind e)) := by
      refine hfixed.trans ?_
      unfold State.queueTally
      split
      · exact State.handOver_keepsAlerts _ _
      · exact .refl _
    dsimp only
    split
    · exact htold.trans (State.strike_keepsAlerts _ _)
    · exact htold
  · exact .refl s

theorem State.evict_keepsAlerts (s : State) : s.KeepsAlerts s.evict := by
  unfold State.evict
  split
  · exact .refl s
  · split
    · exact .refl s
    · next e _ _ => exact (State.KeepsAlerts.ite (e.state = .settling) (s.strike_keepsAlerts e)).trans .of_book

theorem State.removeNumber_keepsAlerts (s : State) (number : Option Period) : s.KeepsAlerts (s.removeNumber number) := by
  unfold State.removeNumber
  split
  · exact .refl s
  · split
    · exact .refl s
    · next e _ => exact (s.strike_keepsAlerts e).trans .of_book

theorem State.zeroBoundary_keepsAlerts (s : State) : s.KeepsAlerts s.zeroBoundary := .of_refresh

theorem State.addEntry_keepsAlerts (s : State) (number : Option Period) (cause : Cause) :
    s.KeepsAlerts (s.addEntry number cause) := by
  unfold State.addEntry
  split
  · exact .refl s
  · exact .of_link (fun ch => by cases ch <;> rfl) rfl

theorem State.openNew_keepsAlerts (s : State) (number : Option Period) (cause : Cause) :
    s.KeepsAlerts (s.openNew number cause) :=
  ((s.evict_keepsAlerts.trans (State.removeNumber_keepsAlerts _ number)).trans
    (.ite _ (State.zeroBoundary_keepsAlerts _))).trans (State.addEntry_keepsAlerts _ number cause)

/-- STARTING gives way to ACCOUNTING, and neither is UNCONFIGURED. -/
theorem State.restartSeconds_keepsAlerts (s : State) : s.KeepsAlerts s.restartSeconds := by
  refine .of_members rfl ?_ rfl
  have hunconfigured : (s.restartSeconds.time.accounting == .unconfigured) = (s.time.accounting == .unconfigured) := by
    unfold State.restartSeconds
    cases h : s.time.accounting <;> rfl
  unfold State.alertMembers
  rw [hunconfigured]
  rfl

theorem State.boundary_keepsAlerts (s : State) (passed : Option Nat) (n : Period) (cause : Cause) :
    s.KeepsAlerts (s.boundary passed n cause) := by
  have hjump (u : State) (k : Nat) : u.KeepsAlerts (u.recordJump k) := .of_refresh
  have hclear (u : State) : u.KeepsAlerts u.clearTimebase := .ite _ .of_refresh
  have hbefore : s.KeepsAlerts (s.beforeOpen passed) := by
    refine .trans ?_ (hclear _)
    cases passed
    · exact s.closeOpen_keepsAlerts _
    · exact (s.closeOpen_keepsAlerts _).trans (hjump _ _)
  have hopen := (hbefore.trans (State.openNew_keepsAlerts _ (some n) cause)).trans (State.restartSeconds_keepsAlerts _)
  rw [State.boundary_eq]
  dsimp only
  split
  · exact hopen
  · exact hopen.trans (State.withdrawMark_keepsAlerts _)

theorem State.ownExpiry_keepsAlerts (s : State) : s.KeepsAlerts s.ownExpiry := by
  unfold State.ownExpiry
  split
  · exact .refl s
  · exact (s.boundary_keepsAlerts _ _ _).trans (State.handOver_keepsAlerts _ _)

theorem State.soloEnd_keepsAlerts (s : State) : s.KeepsAlerts s.soloEnd :=
  (s.boundary_keepsAlerts _ _ _).trans (State.handOver_keepsAlerts _ _)

theorem State.heardMark_keepsAlerts (s : State) (n : Period) (station : Nat) : s.KeepsAlerts (s.heardMark n station) := by
  unfold State.heardMark
  split
  · exact s.boundary_keepsAlerts _ _ _
  · split; · exact s.withdrawMark_keepsAlerts
    split; · exact s.boundary_keepsAlerts _ _ _
    split; · exact s.boundary_keepsAlerts _ _ _
    exact .of_members rfl rfl rfl
  · exact .refl s

theorem State.evidence_keepsAlerts (s : State) (n : Period) (station : Nat) : s.KeepsAlerts (s.evidence n station) := by
  unfold State.evidence
  split
  · exact s.boundary_keepsAlerts _ _ _
  · split; · exact s.boundary_keepsAlerts _ _ _
    split; · exact s.boundary_keepsAlerts _ _ _
    exact .refl s
  · exact .refl s

/-! ### Base ticks (R5 to R10) -/

theorem State.takeSample_keepsAlerts (s : State) : s.KeepsAlerts s.takeSample := by
  unfold State.takeSample
  split
  · exact .refl s
  · dsimp only
    split <;> exact .of_members rfl rfl rfl

theorem State.overdue_keepsAlerts (s : State) : s.KeepsAlerts s.overdue :=
  .ite _ ((((s.strikes_keepsAlerts s.waitsOver).trans (.ite _ (State.ownExpiry_keepsAlerts _))).trans
    (.ite _ (State.soloEnd_keepsAlerts _))).trans (.ite _ (State.takeSample_keepsAlerts _)))

theorem State.countTick_keepsAlerts (s : State) : s.KeepsAlerts s.countTick := by
  unfold State.countTick
  split
  · exact .refl s
  · exact .ite _ (.of_members rfl rfl rfl)

theorem State.baseTick_keepsAlerts (s : State) : s.KeepsAlerts s.baseTick :=
  s.overdue_keepsAlerts.trans (State.countTick_keepsAlerts _)

theorem State.secondPulse_keepsAlerts (s : State) : s.KeepsAlerts s.secondPulse := by
  have hexternal (u : State) : u.KeepsAlerts u.toExternal := .of_members rfl rfl rfl
  unfold State.secondPulse
  split
  · exact .refl s
  · exact (s.overdue_keepsAlerts.trans (hexternal _)).trans (State.countTick_keepsAlerts _)

/-! ### Tallies and allotments (R74, R78) -/

theorem State.reviseAllot_keepsAlerts (s : State) (role : Role) (n : Period) (e : Entry) (p : AllotPart)
    (station basis : Nat) : s.KeepsAlerts (s.reviseAllot role n e p station basis) := by
  rw [State.reviseAllot_eq]
  exact State.KeepsAlerts.trans (t := s.revisedAllot role e p (receiveItem station basis p.items)) .of_refresh
    (State.handOver_keepsAlerts _ _)

theorem State.tallyToBook_keepsAlerts (s : State) (f : Frame) : s.KeepsAlerts (s.tallyToBook f) := by
  unfold State.tallyToBook
  split
  · next c e _ _ =>
    split
    · exact .refl s
    · refine .trans (t := s.updateLastBasis f.source.toNat (tallyBasis c.basis f)) .of_book ?_
      dsimp only
      generalize s.updateLastBasis f.source.toNat (tallyBasis c.basis f) = u
      split
      · exact .refl u
      · exact .trans (.of_book (by simp)) (.ite _ (State.strike_keepsAlerts _ _))
      · unfold State.tallyStruck
        split; · exact .refl u
        split; · exact .refl u
        split
        · exact u.reviseAllot_keepsAlerts _ _ _ _ _ _
        · exact u.dropLate_keepsAlerts
  · exact s.dropLate_keepsAlerts

theorem State.allotmentToBook_keepsAlerts (s : State) (f : Frame) : s.KeepsAlerts (s.allotmentToBook f) := by
  unfold State.allotmentToBook
  split
  · exact s.dropLate_keepsAlerts
  · split; · exact .refl s
    split; · exact .of_members rfl rfl rfl
    split; · exact .refl s
    split
    · exact .refl s
    · unfold State.allotmentSettling
      dsimp only
      split
      · exact .trans (.of_book (by simp)) (.ite _ (State.strike_keepsAlerts _ _))
      · exact .ite _ .of_book
    · exact .ite _ .of_refresh

theorem State.takeRecord_keepsAlerts (s : State) (n : Period) (station : Nat) {take : State → State}
    (htake : ∀ u : State, u.KeepsAlerts (take u)) : s.KeepsAlerts (s.takeRecord n station take) := by
  have hev := s.evidence_keepsAlerts n station
  rcases s.takeRecord_cases n station take with ⟨-, h⟩ | ⟨-, h⟩ <;> rw [h]
  · exact hev.trans (State.dropLate_keepsAlerts _)
  · exact hev.trans (htake _)

/-! ### Received frames and requests (R145 to R148, R150, R166) -/

theorem State.receive_keepsAlerts (s : State) (row : FrameRow) (ch : Chan) (f : Frame) {k : State → State}
    (hk : ∀ u : State, u.KeepsAlerts (k u)) : s.KeepsAlerts (s.receive row ch f k) := by
  have hhear : s.KeepsAlerts (s.hearFrame ch) := s.setChan_keepsAlerts ch
  have hheard : s.KeepsAlerts (s.heard ch f) := hhear.trans (.of_members rfl rfl rfl)
  exact State.receive_keeps (.refl s) (s.setChan_keepsAlerts ch) (hhear.trans (.of_members rfl rfl rfl)) hhear hheard
    (hheard.trans (hk _))

theorem State.query_keepsAlerts (s : State) (f : Frame) {k : State → State} (hk : ∀ u : State, u.KeepsAlerts (k u)) :
    s.KeepsAlerts (s.query f k) :=
  State.query_keeps .of_book (.trans .of_book (hk _))

theorem State.answerResult_keepsAlerts (s : State) (f : Frame) : s.KeepsAlerts (s.answerResult f) := by
  unfold State.answerResult
  split
  · exact s.handOver_keepsAlerts _
  · split <;> exact s.handOver_keepsAlerts _

theorem State.answerLatest_keepsAlerts (s : State) (f : Frame) : s.KeepsAlerts (s.answerLatest f) := by
  unfold State.answerLatest
  split <;> exact s.handOver_keepsAlerts _

theorem State.answerCondition_keepsAlerts (s : State) (f : Frame) : s.KeepsAlerts (s.answerCondition f) := by
  unfold State.answerCondition
  dsimp only
  split
  · exact (s.handOver_keepsAlerts _).trans .of_refresh
  · exact s.handOver_keepsAlerts _

theorem State.answerOrder_keepsAlerts (s : State) (f : Frame) (outcome : RequestOutcome) (body : List Byte) :
    s.KeepsAlerts (s.answerOrder f outcome body) := by
  unfold State.answerOrder
  split
  · exact .refl s
  · exact s.handOver_keepsAlerts _

theorem State.refuse_keepsAlerts (s : State) (f : Frame) (outcome : RequestOutcome) : s.KeepsAlerts (s.refuse f outcome) := by
  have hrefused : s.KeepsAlerts (State.setService
      (State.recordRefusal { s with requests := { s.requests with refused := grow s.requests.refused 1 } } f outcome)) :=
    .of_refresh
  unfold State.refuse
  dsimp only
  split
  · exact hrefused
  · exact hrefused.trans (State.answerOrder_keepsAlerts _ f _ _)

theorem State.takeZero_keepsAlerts (s : State) (f : Frame) : s.KeepsAlerts (s.takeZero f) := by
  unfold State.takeZero
  split
  · exact s.refuse_keepsAlerts f _
  · exact .trans (.of_book (by simp)) (State.answerOrder_keepsAlerts _ f _ _)

theorem State.takeJob_keepsAlerts (s : State) (f : Frame) : s.KeepsAlerts (s.takeJob f) := by
  unfold State.takeJob
  split
  · exact s.refuse_keepsAlerts f _
  · exact .trans (.of_book (by simp)) (State.answerOrder_keepsAlerts _ f _ _)

theorem State.unknownRequest_keepsAlerts (s : State) (f : Frame) :
    s.KeepsAlerts (if isOrder f then s.unknownOrder f else s.unknownQuery f) := by
  split
  · unfold State.unknownOrder
    split
    · exact s.refuse_keepsAlerts f _
    · exact .trans (.of_book (by simp)) (State.answerOrder_keepsAlerts _ f _ _)
  · exact s.query_keepsAlerts f fun u => .trans (.of_book (by simp)) (State.handOver_keepsAlerts _ _)

/-! ### Polls (R42, R56, R57) -/

theorem State.pollFrom_keepsAlerts (s : State) (c : Settings) (place : Nat) : s.KeepsAlerts (s.pollFrom c place) :=
  .of_members rfl rfl rfl

theorem State.byteStarted_keepsAlerts (s : State) (ago : Nat) : s.KeepsAlerts (s.byteStarted ago) := .of_members rfl rfl rfl

theorem State.goodPoll_keepsAlerts (s : State) (c : Settings) (m : Fin 8) (setup : MeterSetup) (value : Nat)
    (alarm : Bool) : s.KeepsAlerts (s.goodPoll c m setup value alarm) := by
  rw [State.goodPoll_eq_takeReference]
  refine .of_refresh ?_ ?_ ?_ <;> simp [State.takeReference_eq]

theorem State.pollFails_keepsAlerts (s : State) (c : Settings) (m : Fin 8) : s.KeepsAlerts (s.pollFails c m) := by
  refine .trans ?_ (State.pollFrom_keepsAlerts _ c _)
  unfold State.failPoll
  dsimp only
  split <;> exact .of_refresh

theorem State.judgeReply_keepsAlerts (s : State) (reply : MeterReply) : s.KeepsAlerts (s.judgeReply reply) := by
  have harrived : s.KeepsAlerts s.byteArrived := s.byteStarted_keepsAlerts _
  unfold State.judgeReply
  split
  · split
    · dsimp only
      split
      · exact (harrived.trans (State.goodPoll_keepsAlerts _ _ _ _ _ _)).trans (State.pollFrom_keepsAlerts _ _ _)
      · exact harrived.trans (State.pollFails_keepsAlerts _ _ _)
    · exact .refl s
  · exact .refl s

theorem State.sendRequest_keepsAlerts (s : State) : s.KeepsAlerts s.sendRequest := by
  unfold State.sendRequest
  split
  · split
    · exact .ite _ (.of_members rfl rfl rfl)
    · exact .refl s
  · exact .refl s

/-- A FAULT line that changes its level has the ORs worked out again (R42, R57). -/
theorem State.faultChange_keepsAlerts (s : State) (line : Fin 8) (edge : Edge) : s.KeepsAlerts (s.faultChange line edge) := by
  unfold State.faultChange
  dsimp only
  split <;> exact .of_refresh

end Sys2Proof.Machine
end

section
/-! SUPPORT. What every command does to the alert lines (R181, R182). -/

namespace Sys2Proof.Machine

open Sys2Proof

/-! ### Loading (R181, R183) -/

/-- While loading lasts no line has a mode, so that whatever leaves the lines keeps them. -/
theorem State.KeepsAlerts.of_loading {s t : State} (h : s.loader.phase ≠ .ended) (ha : t.alerts = s.alerts) :
    s.KeepsAlerts t := by
  refine ⟨fun hs => State.alertsFollow_of_noMode fun n => ?_, fun n => by rw [ha]; exact .refl _⟩
  rw [ha]
  exact (s.alertsFollow_iff.mp hs).2 h n

/-- What the step from s to t that takes the command c, or none, does to the alert lines: they follow their groups after it, a
rise in PULSE mode starts a pulse, and once loading has ended nothing but a reset and the timer's own end stops one. -/
structure State.AlertStep (s : State) (c : Option Instr) (t : State) : Prop where
  follows : t.alertsFollow
  rises : ∀ n, (s.alerts.line n).RisesTo (t.alerts.line n)
  runs : s.loader.phase = .ended → c ≠ some .hardwareReset →
    ∀ n, (s.alerts.line n).pulse = true → c ≠ some (.alertPulseEnd n) → (t.alerts.line n).pulse = true

theorem State.KeepsAlerts.alertStep {s t : State} (h : s.KeepsAlerts t) (hs : s.alertsFollow) (c : Option Instr) :
    s.AlertStep c t :=
  ⟨h.follows hs, fun n => (h.lines n).rises, fun _ _ n hpulse _ => (h.lines n).runs hpulse⟩

/-- Loading ends, and the lines take their configuration and their first OR. -/
theorem State.AlertStep.of_configured {s u : State} (hs : s.loader.phase ≠ .ended) (hu : u.loader.phase = .ended)
    {one two : AlertSetup} (hone : u.alerts.one = .configure one) (htwo : u.alerts.two = .configure two)
    (c : Option Instr) : s.AlertStep c u.refreshAlerts := by
  have hline (n : AlertNo) : ∃ setup, u.alerts.line n = .configure setup := by
    cases n
    exacts [⟨one, hone⟩, ⟨two, htwo⟩]
  refine ⟨?_, fun n => ?_, fun hended => absurd hended hs⟩
  · exact u.refreshAlerts.alertsFollow_iff.mpr ⟨u.refreshAlerts_follows, fun h => absurd hu h⟩
  · obtain ⟨setup, hsetup⟩ := hline n
    rw [State.line_refreshAlerts, hsetup]
    exact AlertLine.risesTo_configured _ _ _

theorem State.loadSucceeds_alertStep {s : State} (h : s.loader.phase ≠ .ended) (image : List Byte) (role : Role) (now : Nat)
    (c : Option Instr) : s.AlertStep c (s.loadSucceeds image role now) := by
  refine .of_configured h ?_ rfl rfl c
  simp [State.configure, Loader.finish]

theorem State.loadFails_alertStep {s : State} (h : s.loader.phase ≠ .ended) (c : Option Instr) :
    s.AlertStep c s.loadFails := .of_configured h rfl rfl rfl c

theorem execImageReadAttempt_alertStep {s : State} (hs : s.alertsFollow) (memory : List Byte) (now : Nat)
    (c : Option Instr) : EndsIn (s.AlertStep c) (execImageReadAttempt memory now s) := by
  refine .ite (fun h => ?_) ((State.KeepsAlerts.refl s).alertStep hs c)
  have hloading : s.loader.phase ≠ .ended := by simp [h]
  split
  · split
    · exact State.loadSucceeds_alertStep hloading _ _ _ _
    · exact State.loadFails_alertStep hloading _
  · unfold State.attemptFails
    split
    · exact State.loadFails_alertStep hloading _
    · have hretry (loader : Loader) : s.KeepsAlerts { s with loader := loader } := .of_loading hloading rfl
      exact (hretry _).alertStep hs c

/-! ### Hardware reset and the end of a pulse (R168, R182) -/

/-- After a hardware reset no line has a mode, whatever commands wait. -/
theorem State.reset_alertStep (s : State) (rest : List Instr) :
    s.AlertStep (some .hardwareReset) { State.reset with pending := rest } := by
  refine ⟨State.alertsFollow_of_noMode fun n => ?_, fun n hmode => ?_, fun _ h => absurd rfl h⟩
  · cases n <;> rfl
  · cases n <;> cases hmode

/-- The end of a pulse stops the timer of its own line and leaves both ORs. -/
theorem execAlertPulseEnd_alertStep {s : State} (hs : s.alertsFollow) (alert : AlertNo) :
    EndsIn (s.AlertStep (some (.alertPulseEnd alert))) (execAlertPulseEnd alert s) := by
  cases alert with
  | one =>
    refine .next ⟨hs, fun n => .of_lastOr (by cases n <;> rfl), fun _ _ n hpulse hother => ?_⟩
    cases n with
    | one => exact absurd rfl hother
    | two => exact hpulse
  | two =>
    refine .next ⟨hs, fun n => .of_lastOr (by cases n <;> rfl), fun _ _ n hpulse hother => ?_⟩
    cases n with
    | one => exact hpulse
    | two => exact absurd rfl hother

/-! ### The commands -/

section
variable (s : State)

theorem execWaitTimerExpiry_keepsAlerts (number : Period) : EndsIn s.KeepsAlerts (execWaitTimerExpiry number s) := by
  unfold execWaitTimerExpiry
  split
  · exact .ite (fun _ => s.strike_keepsAlerts _) (.refl s)
  · exact .next (.refl s)

theorem execDebouncedEdge_keepsAlerts (line : Fin 8) (edge : Edge) (time : Nat) :
    EndsIn s.KeepsAlerts (execDebouncedEdge line edge time s) := by
  refine .ite (fun h => ?_) (.refl s)
  rw [State.recordEdge_setLevel]
  exact State.setLine_keepsAlerts (State.deliversNothing_fault (Bool.and_eq_true_iff.mp h).2) _

theorem execRunningLevelChange_keepsAlerts (line : Fin 8) (edge : Edge) :
    EndsIn s.KeepsAlerts (execRunningLevelChange line edge s) :=
  .ite (fun h => State.setLine_keepsAlerts
    (State.lineHasRole_ne (Bool.and_eq_true_iff.mp h).1 (by decide)) _) (.refl s)

theorem execQuietWaitTimeout_keepsAlerts : EndsIn s.KeepsAlerts (execQuietWaitTimeout s) := by
  unfold execQuietWaitTimeout
  split
  · exact .ite (fun _ => s.pollFails_keepsAlerts _ _) (.refl s)
  · exact .next (.refl s)

theorem execRequestSent_keepsAlerts : EndsIn s.KeepsAlerts (execRequestSent s) := by
  unfold execRequestSent
  split
  · exact .next (.of_members rfl rfl rfl)
  · exact .next (.refl s)

theorem execReplyWindowClose_keepsAlerts (window : WindowEnd) : EndsIn s.KeepsAlerts (execReplyWindowClose window s) := by
  unfold execReplyWindowClose
  split
  · exact .ite (fun _ => (s.byteStarted_keepsAlerts _).trans (State.pollFails_keepsAlerts _ _ _)) (.refl s)
  · exact .next (.refl s)

theorem execFrameBegin_keepsAlerts (ch : Chan) (elapsed : Nat) : EndsIn s.KeepsAlerts (execFrameBegin ch elapsed s) := by
  refine .next ?_
  split
  · exact .refl s
  · unfold State.tryBegin
    split
    · split <;> exact s.setChan_keepsAlerts ch
    · exact s.setChan_keepsAlerts ch

theorem execFrameGoneOutWhole_keepsAlerts (ch : Chan) : EndsIn s.KeepsAlerts (execFrameGoneOutWhole ch s) := by
  unfold execFrameGoneOutWhole
  split
  · exact .next (.refl s)
  · refine .next ?_
    split
    · exact .refl s
    · exact .of_refresh

theorem execEchoMismatch_keepsAlerts (ch : Chan) : EndsIn s.KeepsAlerts (execEchoMismatch ch s) := by
  unfold execEchoMismatch
  split
  · exact .next (.refl s)
  · refine .next ?_
    split
    · exact .refl s
    · split
      · exact .of_refresh
      · exact s.afterFrame_keepsAlerts ch _ _

theorem execBitRateFixed_keepsAlerts (ch : Chan) (rate : BitRate) : EndsIn s.KeepsAlerts (execBitRateFixed ch rate s) := by
  refine .ite (fun _ => .of_link (fun other => ?_) (by simp)) (.refl s)
  cases ch <;> cases other <;> rfl

theorem execInhibitedFrameEnd_keepsAlerts (ch : Chan) : EndsIn s.KeepsAlerts (execInhibitedFrameEnd ch s) := by
  unfold execInhibitedFrameEnd
  split
  · exact .next (.refl s)
  · exact .ite (fun _ => s.afterFrame_keepsAlerts ch _ _) (.refl s)

end

/-- Every command does to the alert lines what a step may do. -/
theorem exec_alertStep {s : State} (hs : s.alertsFollow) (i : Instr) : EndsIn (s.AlertStep (some i)) (exec i s) := by
  have keeps {o : Host.Outcome State Fault Refusal} (h : EndsIn s.KeepsAlerts o) : EndsIn (s.AlertStep (some i)) o :=
    h.mono fun _ ht => ht.alertStep hs _
  have pulse {line : Fin 8} {role : LineRole} {k : State → State} (hne : role ≠ .fault)
      (hk : ∀ u : State, u.KeepsAlerts (k u)) :
      EndsIn s.KeepsAlerts (.next (if s.pulsePossible line role then k (s.setLevel line (s.countedEdge line)) else s)) :=
    .ite (fun h => (State.pulse_keepsAlerts h hne _).trans (hk _)) (.refl s)
  cases i with
  | hardwareReset => exact .next (s.reset_alertStep _)
  | resetRelease straps levels inhibitA inhibitB =>
    refine keeps (.ite (fun h => .of_loading ?_ rfl) (.refl s))
    simp [s.inReset_iff.mp h]
  | imageReadAttempt memory now => exact execImageReadAttempt_alertStep hs memory now _
  | retryWaitEnd => exact keeps (.ite (fun h => .of_loading (by simp [h]) rfl) (.refl s))
  | internalSecond => exact keeps (.next (by split; exacts [.refl s, s.baseTick_keepsAlerts]))
  | secondPulse line => exact keeps (pulse (role := .second) (by decide) State.secondPulse_keepsAlerts)
  | lossWatchExpiry => exact keeps (.ite (fun _ => .of_refresh) (.refl s))
  | periodExpiry => exact keeps (.ite (fun _ => s.ownExpiry_keepsAlerts) (.refl s))
  | soloWaitEnd => exact keeps (.ite (fun _ => s.soloEnd_keepsAlerts) (.refl s))
  | sampleTick => exact keeps (.ite (fun _ => s.takeSample_keepsAlerts) (.refl s))
  | waitTimerExpiry number => exact keeps (execWaitTimerExpiry_keepsAlerts s number)
  | alertPulseEnd alert => exact execAlertPulseEnd_alertStep hs alert
  | energyPulse line =>
    exact keeps (pulse (role := .energy) (by decide) fun u => (.of_book : u.KeepsAlerts (u.energyPulse line)))
  | cutPulse line =>
    exact keeps (pulse (role := .cut) (by decide) fun u => (.of_book : u.KeepsAlerts u.cutPulse))
  | rejectPulse line =>
    exact keeps (pulse (role := .reject) (by decide) fun u => (.of_book : u.KeepsAlerts u.rejectPulse))
  | runningLevelChange line edge => exact keeps (execRunningLevelChange_keepsAlerts s line edge)
  | faultLevelChange line edge => exact keeps (.ite (fun _ => s.faultChange_keepsAlerts line edge) (.refl s))
  | debouncedEdge line edge time => exact keeps (execDebouncedEdge_keepsAlerts s line edge time)
  | meterLineQuiet elapsed =>
    have hquiet : s.KeepsAlerts (s.meterQuiet elapsed) := .of_members rfl rfl rfl
    exact keeps (.next (by split; exacts [.refl s, hquiet.trans (State.sendRequest_keepsAlerts _)]))
  | quietWaitTimeout => exact keeps (execQuietWaitTimeout_keepsAlerts s)
  | requestSent => exact keeps (execRequestSent_keepsAlerts s)
  | replyReceived reply => exact keeps (.next (s.judgeReply_keepsAlerts reply))
  | replyWindowClose window => exact keeps (execReplyWindowClose_keepsAlerts s window)
  | strayMeterByte byte => exact keeps (.next (by split; exacts [.refl s, s.byteStarted_keepsAlerts _]))
  | frameBegin ch elapsed => exact keeps (execFrameBegin_keepsAlerts s ch elapsed)
  | defer ch => exact keeps (.next (by split; exacts [.refl s, s.setChan_keepsAlerts ch]))
  | frameGoneOutWhole ch => exact keeps (execFrameGoneOutWhole_keepsAlerts s ch)
  | echoMismatch ch => exact keeps (execEchoMismatch_keepsAlerts s ch)
  | inhibitActive ch => exact keeps (.next (by split; exacts [.refl s, .of_refresh]))
  | inhibitReleased ch => exact keeps (.ite (fun _ => .of_refresh) (.refl s))
  | receiveError ch raw => exact keeps (.ite (fun _ => s.setChan_keepsAlerts ch) (.refl s))
  | bitRateFixed ch rate => exact keeps (execBitRateFixed_keepsAlerts s ch rate)
  | mark ch frame => exact keeps (.next (s.receive_keepsAlerts _ _ _ fun u => u.heardMark_keepsAlerts _ _))
  | tally ch frame =>
    exact keeps (.next (s.receive_keepsAlerts _ _ _ fun u => u.takeRecord_keepsAlerts _ _ fun v =>
      v.tallyToBook_keepsAlerts frame))
  | allotment ch frame =>
    exact keeps (.next (s.receive_keepsAlerts _ _ _ fun u => u.takeRecord_keepsAlerts _ _ fun v =>
      v.allotmentToBook_keepsAlerts frame))
  | answerHeard ch frame => exact keeps (.next (s.receive_keepsAlerts _ _ _ .refl))
  | queryResult ch frame =>
    exact keeps (.next (s.receive_keepsAlerts _ _ _ fun u => u.query_keepsAlerts _ fun v => v.answerResult_keepsAlerts _))
  | queryLatest ch frame =>
    exact keeps (.next (s.receive_keepsAlerts _ _ _ fun u => u.query_keepsAlerts _ fun v => v.answerLatest_keepsAlerts _))
  | queryCampaign ch frame =>
    exact keeps (.next (s.receive_keepsAlerts _ _ _ fun u => u.query_keepsAlerts _ fun v => v.handOver_keepsAlerts _))
  | queryCondition ch frame =>
    exact keeps (.next (s.receive_keepsAlerts _ _ _ fun u =>
      .trans (.of_book (t := u.countQuery)) (State.answerCondition_keepsAlerts _ _)))
  | queryChannels ch frame =>
    exact keeps (.next (s.receive_keepsAlerts _ _ _ fun u => u.query_keepsAlerts _ fun v => v.handOver_keepsAlerts _))
  | unknownRequest ch frame =>
    exact keeps (.next (s.receive_keepsAlerts _ _ _ fun u => u.unknownRequest_keepsAlerts frame))
  | orderZero ch frame => exact keeps (.next (s.receive_keepsAlerts _ _ _ fun u => u.takeZero_keepsAlerts frame))
  | orderJob ch frame => exact keeps (.next (s.receive_keepsAlerts _ _ _ fun u => u.takeJob_keepsAlerts frame))
  | receiverStart ch => exact keeps (.ite (fun _ => s.setChan_keepsAlerts ch) (.refl s))
  | inhibitedFrameEnd ch => exact keeps (execInhibitedFrameEnd_keepsAlerts s ch)

/-- Every step does to the alert lines what the command at the front of the queue may do; an idle step leaves them. -/
theorem step_alertStep {s t : State} (hs : s.alertsFollow) (h : step s = .next t) : s.AlertStep s.pending.head? t := by
  unfold step at h
  split at h
  · obtain rfl : s = t := by simpa using h
    exact (State.KeepsAlerts.refl s).alertStep hs _
  · next c rest hpending =>
    rw [hpending]
    obtain ⟨hfollows, hrises, hruns⟩ := exec_alertStep (s := { s with pending := rest }) hs c t h
    exact ⟨hfollows, hrises, hruns⟩

/-- Settles O16: what a step does to each line, and the line's activity by its mode; the end of a pulse; the members and the phase
code by their definitions. -/
theorem alertLinesFollowTheirGroups : Obligations.AlertLinesFollowTheirGroups := by
  unfold Obligations.AlertLinesFollowTheirGroups
  refine ⟨fun s t hs h => ?step, fun s => ⟨rfl, rfl, fun l => ⟨?pulse, ?level⟩⟩, fun s => ?members⟩
  case step =>
    obtain ⟨hfollows, hrises, hruns⟩ := step_alertStep hs h
    have ⟨hone, htwo, _⟩ := hfollows
    exact ⟨hfollows, hone.active_level, htwo.active_level, hone.active_pulse (hrises .one),
      htwo.active_pulse (hrises .two), fun hended hreset => ⟨hruns hended hreset .one, hruns hended hreset .two⟩⟩
  case pulse => exact fun hmode => AlertLine.active_pulse hmode
  case level =>
    intro hmode
    have hended : ({ l with pulse := false } : AlertLine).active = l.lastOr := AlertLine.active_level hmode
    exact hended.trans (AlertLine.active_level hmode).symm
  case members =>
    intro active fault failed meter channel settling
    have hmeter : s.meterCondition = true ↔ meter := by
      rw [State.meterCondition_iff, State.faultActive_iff, State.meterFailed_iff]
    refine ⟨s.faultActive_iff, s.meterFailed_iff, hmeter, s.channelCondition_iff, fun g => ?_, ?_,
      State.phaseCode_starting, fun h hsettling => ?_, fun h hnone => ?_⟩
    · rw [State.groupOr_iff, hmeter, State.channelCondition_iff]
    · rintro (h | h)
      exacts [State.phaseCode_loading h, State.phaseCode_unconfigured h]
    · rw [State.phaseCode_accounting h, decide_eq_true hsettling]
    · rw [State.phaseCode_accounting h, decide_eq_false hnone]

end Sys2Proof.Machine
end

section
/-! SUPPORT. The queue of commands: what a step takes from it, and that every command completes and leaves the commands that wait
(log entries 2 and 3). -/

namespace Sys2Proof.Machine

open Sys2Proof

/-! ### One step -/

theorem step_of_pending {s : State} {c : Instr} {rest : List Instr} (h : s.pending = c :: rest) :
    step s = exec c { s with pending := rest } := by
  simp only [step, h]

theorem step_of_idle {s : State} (h : s.pending = []) : step s = .next s := by
  simp only [step, h]

/-- Settles O1: by the two forms of the queue. -/
theorem stepTakesTheFrontCommand : Obligations.StepTakesTheFrontCommand := by
  unfold Obligations.StepTakesTheFrontCommand
  intro s c rest
  exact ⟨step_of_pending rfl, step_of_idle rfl⟩

/-! ### The commands that wait -/

/-- A received frame leaves the commands that wait when what its block does leaves them (R130, R145 to R148). -/
theorem State.receive_pending (s : State) (row : FrameRow) (ch : Chan) (f : Frame) {k : State → State}
    (hk : ∀ u : State, (k u).pending = u.pending) : (s.receive row ch f k).pending = s.pending :=
  State.receive_keeps (P := fun t => t.pending = s.pending) rfl rfl rfl rfl rfl (hk _)

theorem State.query_pending (s : State) (f : Frame) {k : State → State}
    (hk : ∀ u : State, (k u).pending = u.pending) : (s.query f k).pending = s.pending :=
  State.query_keeps (P := fun t => t.pending = s.pending) rfl (hk _)

theorem State.takeRecord_pending (s : State) (n : Period) (station : Nat) {k : State → State}
    (hk : ∀ u : State, (k u).pending = u.pending) : (s.takeRecord n station k).pending = s.pending := by
  unfold State.takeRecord
  dsimp only
  split <;> simp [hk]

theorem State.unknownRequest_pending (s : State) (f : Frame) :
    (if isOrder f then s.unknownOrder f else s.unknownQuery f).pending = s.pending := by
  split
  · exact s.unknownOrder_pending f
  · exact s.query_pending f fun u => by simp

/-! ### Commands that complete -/

/-- The outcome is a next state in which the commands that wait are those of `s`. -/
def State.Completes (s : State) (o : Host.Outcome State Fault Refusal) : Prop := ∃ t, o = .next t ∧ t.pending = s.pending

theorem State.Completes.next {s t : State} (h : t.pending = s.pending) : s.Completes (.next t) := ⟨t, rfl, h⟩

theorem State.Completes.ite {s u v : State} {test : Prop} [Decidable test] (hu : u.pending = s.pending)
    (hv : v.pending = s.pending) : s.Completes (.next (if test then u else v)) := by
  refine .next ?_
  split
  · exact hu
  · exact hv

section
variable (s : State)

theorem execImageReadAttempt_completes (memory : List Byte) (now : Nat) : s.Completes (execImageReadAttempt memory now s) := by
  refine .ite ?_ rfl
  split
  · split
    · exact s.loadSucceeds_pending _ _ _
    · exact s.loadFails_pending
  · exact s.attemptFails_pending

theorem execWaitTimerExpiry_completes (number : Period) : s.Completes (execWaitTimerExpiry number s) := by
  unfold execWaitTimerExpiry
  split
  · exact .ite (s.strike_pending _) rfl
  · exact .next rfl

theorem execAlertPulseEnd_completes (alert : AlertNo) : s.Completes (execAlertPulseEnd alert s) := by
  cases alert
  · exact .next rfl
  · exact .next rfl

theorem execQuietWaitTimeout_completes : s.Completes (execQuietWaitTimeout s) := by
  unfold execQuietWaitTimeout
  split
  · exact .ite (s.pollFails_pending _ _) rfl
  · exact .next rfl

theorem execRequestSent_completes : s.Completes (execRequestSent s) := by
  unfold execRequestSent
  split
  · exact .next rfl
  · exact .next rfl

theorem execReplyWindowClose_completes (window : WindowEnd) : s.Completes (execReplyWindowClose window s) := by
  unfold execReplyWindowClose
  split
  · exact .ite (State.pollFails_pending _ _ _) rfl
  · exact .next rfl

theorem execFrameGoneOutWhole_completes (ch : Chan) : s.Completes (execFrameGoneOutWhole ch s) := by
  unfold execFrameGoneOutWhole
  split
  · exact .next rfl
  · exact .ite rfl rfl

theorem execEchoMismatch_completes (ch : Chan) : s.Completes (execEchoMismatch ch s) := by
  unfold execEchoMismatch
  split
  · exact .next rfl
  · refine .ite rfl ?_
    split
    · rfl
    · rfl

theorem execInhibitedFrameEnd_completes (ch : Chan) : s.Completes (execInhibitedFrameEnd ch s) := by
  unfold execInhibitedFrameEnd
  split
  · exact .next rfl
  · exact .ite rfl rfl

end

theorem exec_completes (i : Instr) (s : State) : s.Completes (exec i s) := by
  cases i with
  | hardwareReset => exact .next rfl
  | resetRelease straps levels inhibitA inhibitB => exact .ite rfl rfl
  | imageReadAttempt memory now => exact execImageReadAttempt_completes s memory now
  | retryWaitEnd => exact .ite rfl rfl
  | internalSecond => exact .ite rfl s.baseTick_pending
  | secondPulse line => exact .ite (State.secondPulse_pending _) rfl
  | lossWatchExpiry => exact .ite rfl rfl
  | periodExpiry => exact .ite s.ownExpiry_pending rfl
  | soloWaitEnd => exact .ite s.soloEnd_pending rfl
  | sampleTick => exact .ite s.takeSample_pending rfl
  | waitTimerExpiry number => exact execWaitTimerExpiry_completes s number
  | alertPulseEnd alert => exact execAlertPulseEnd_completes s alert
  | energyPulse line => exact .ite (State.energyPulse_pending _ line) rfl
  | cutPulse line => exact .ite (State.cutPulse_pending _) rfl
  | rejectPulse line => exact .ite (State.rejectPulse_pending _) rfl
  | runningLevelChange line edge => exact .ite rfl rfl
  | faultLevelChange line edge => exact .ite (s.faultChange_pending line edge) rfl
  | debouncedEdge line edge time => exact .ite (State.recordEdge_pending _ line edge time) rfl
  | meterLineQuiet elapsed => exact .ite rfl (State.sendRequest_pending _)
  | quietWaitTimeout => exact execQuietWaitTimeout_completes s
  | requestSent => exact execRequestSent_completes s
  | replyReceived reply => exact .next (s.judgeReply_pending reply)
  | replyWindowClose window => exact execReplyWindowClose_completes s window
  | strayMeterByte byte => exact .ite rfl rfl
  | frameBegin ch elapsed => exact .ite rfl (s.tryBegin_pending ch _)
  | defer ch => exact .ite rfl rfl
  | frameGoneOutWhole ch => exact execFrameGoneOutWhole_completes s ch
  | echoMismatch ch => exact execEchoMismatch_completes s ch
  | inhibitActive ch => exact .ite rfl rfl
  | inhibitReleased ch => exact .ite rfl rfl
  | receiveError ch raw => exact .ite rfl rfl
  | bitRateFixed ch rate => exact .ite rfl rfl
  | mark ch frame => exact .next (s.receive_pending _ _ _ fun u => u.heardMark_pending _ _)
  | tally ch frame =>
    exact .next (s.receive_pending _ _ _ fun u => u.takeRecord_pending _ _ fun v => v.tallyToBook_pending frame)
  | allotment ch frame =>
    exact .next (s.receive_pending _ _ _ fun u => u.takeRecord_pending _ _ fun v => v.allotmentToBook_pending frame)
  | answerHeard ch frame => exact .next (s.receive_pending _ _ _ fun _ => rfl)
  | queryResult ch frame =>
    exact .next (s.receive_pending _ _ _ fun u => u.query_pending _ fun v => v.answerResult_pending frame)
  | queryLatest ch frame =>
    exact .next (s.receive_pending _ _ _ fun u => u.query_pending _ fun v => v.answerLatest_pending frame)
  | queryCampaign ch frame =>
    exact .next (s.receive_pending _ _ _ fun u => u.query_pending _ fun v => v.answer_pending frame _ _)
  | queryCondition ch frame => exact .next (s.receive_pending _ _ _ fun u => u.countQuery.answerCondition_pending frame)
  | queryChannels ch frame =>
    exact .next (s.receive_pending _ _ _ fun u => u.query_pending _ fun v => v.answer_pending frame _ _)
  | unknownRequest ch frame => exact .next (s.receive_pending _ _ _ fun u => u.unknownRequest_pending frame)
  | orderZero ch frame => exact .next (s.receive_pending _ _ _ fun u => u.takeZero_pending frame)
  | orderJob ch frame => exact .next (s.receive_pending _ _ _ fun u => u.takeJob_pending frame)
  | receiverStart ch => exact .ite rfl rfl
  | inhibitedFrameEnd ch => exact execInhibitedFrameEnd_completes s ch

/-- Settles O2: command by command, each by what its own operations leave of the queue. -/
theorem everyCommandCompletes : Obligations.EveryCommandCompletes := by
  unfold Obligations.EveryCommandCompletes
  exact exec_completes

end Sys2Proof.Machine
end

section
/-! SUPPORT. The events that cannot occur: each by the test that its command makes (log entry 2). -/

namespace Sys2Proof.Machine

open Sys2Proof

/-- An event whose condition does not hold leaves the station as it is. -/
theorem next_of_not_possible {s u : State} {possible : Bool} (h : possible = false) :
    (.next (if possible then u else s) : Host.Outcome State Fault Refusal) = .next s := by
  simp [h]

/-- An event that its guard rules out leaves the station as it is. -/
theorem next_of_excluded {s u : State} {excluded : Bool} (h : excluded = true) :
    (.next (if excluded then s else u) : Host.Outcome State Fault Refusal) = .next s := by
  simp [h]

section
variable {s : State}

/-! ### The input lines (R24 to R27) -/

theorem exec_runningLevelChange_of_not_possible {line : Fin 8} {edge : Edge}
    (h : s.lineHasRole line .running = false ∨ s.edgePossible line edge = false) :
    exec (.runningLevelChange line edge) s = .next s :=
  next_of_not_possible (Bool.and_eq_false_iff.mpr h)

theorem exec_faultLevelChange_of_not_possible {line : Fin 8} {edge : Edge}
    (h : s.lineHasRole line .fault = false ∨ s.edgePossible line edge = false) :
    exec (.faultLevelChange line edge) s = .next s :=
  next_of_not_possible (Bool.and_eq_false_iff.mpr h)

theorem exec_debouncedEdge_of_not_possible {line : Fin 8} {edge : Edge} (h : s.edgePossible line edge = false) (time : Nat) :
    exec (.debouncedEdge line edge time) s = .next s :=
  next_of_not_possible (by simp [h])

/-! ### The meter port (R49 to R51) -/

/-- The wait for quiet ends only for a poll that waits on a line that is not quiet (R50 step 1). -/
theorem exec_quietWaitTimeout_of_not_waiting
    (h : ∀ m : Fin 8, s.meter.poll = some { entry := m, phase := .waitQuiet } → 30 ≤ s.meter.quietTime) :
    exec .quietWaitTimeout s = .next s := by
  show execQuietWaitTimeout s = _
  unfold execQuietWaitTimeout
  split
  · next m _ hp => exact congrArg Host.Outcome.next (if_neg (Nat.not_lt.mpr (h m hp)))
  · rfl

/-- A request ends only while one is sent (R50 step 2). -/
theorem exec_requestSent_of_not_sending
    (h : ∀ (m : Fin 8) (request : MeterRequest), s.meter.poll ≠ some { entry := m, phase := .sending request }) :
    exec .requestSent s = .next s := by
  show execRequestSent s = _
  unfold execRequestSent
  split
  · next m request hp => exact absurd hp (h m request)
  · rfl

/-- A reply is judged only in a reply window (R50 step 3). -/
theorem exec_replyReceived_of_no_window
    (h : ∀ (m : Fin 8) (request : MeterRequest), s.meter.poll ≠ some { entry := m, phase := .window request })
    (reply : MeterReply) : exec (.replyReceived reply) s = .next s := by
  show Host.Outcome.next (s.judgeReply reply) = _
  unfold State.judgeReply
  split
  · next p _ hp =>
    split
    · next request _ hphase _ => exact absurd (by rw [hp, ← hphase]) (h p.entry request)
    · rfl
  · rfl

/-- A window closes only when one is open and fewer than its eight bytes have come (R50 step 3). -/
theorem exec_replyWindowClose_of_not_short {window : WindowEnd}
    (h : ∀ (m : Fin 8) (request : MeterRequest),
      s.meter.poll = some { entry := m, phase := .window request } → 8 ≤ window.received) :
    exec (.replyWindowClose window) s = .next s := by
  show execReplyWindowClose window s = _
  unfold execReplyWindowClose
  split
  · next m request _ hp => exact congrArg Host.Outcome.next (if_neg (Nat.not_lt.mpr (h m request hp)))
  · rfl

/-- A byte in a reply window is no stray byte (R51). -/
theorem exec_strayMeterByte_of_window {m : Fin 8} {request : MeterRequest}
    (h : s.meter.poll = some { entry := m, phase := .window request }) (byte : Option Byte) :
    exec (.strayMeterByte byte) s = .next s := by
  have hwindow : s.meter.inWindow = true := by simp only [MeterPort.inWindow, h]
  exact next_of_excluded (by simp [hwindow])

/-! ### The link (R130, R132 to R139, R152) -/

section
variable {ch : Chan}

/-- Only a frame that is echo-checked goes out whole (R134). -/
theorem exec_frameGoneOutWhole_of_unchecked (h : ∀ f, (s.link.chan ch).inFlight = some f → f.unchecked = true) :
    exec (.frameGoneOutWhole ch) s = .next s := by
  show execFrameGoneOutWhole ch s = _
  unfold execFrameGoneOutWhole
  split
  · rfl
  · next f hf => exact next_of_excluded (h f hf)

/-- Only a frame that is echo-checked meets an echo mismatch (R135). -/
theorem exec_echoMismatch_of_unchecked (h : ∀ f, (s.link.chan ch).inFlight = some f → f.unchecked = true) :
    exec (.echoMismatch ch) s = .next s := by
  show execEchoMismatch ch s = _
  unfold execEchoMismatch
  split
  · rfl
  · next f hf => exact next_of_excluded (h f hf)

/-- Only a frame that runs on unchecked ends without echo comparison (R138). -/
theorem exec_inhibitedFrameEnd_of_checked (h : ∀ f, (s.link.chan ch).inFlight = some f → f.unchecked = false) :
    exec (.inhibitedFrameEnd ch) s = .next s := by
  show execInhibitedFrameEnd ch s = _
  unfold execInhibitedFrameEnd
  split
  · rfl
  · next f hf => exact next_of_not_possible (h f hf)

/-- A channel on which the station transmits does not count (R132). -/
theorem exec_frameBegin_of_transmitting (h : (s.link.chan ch).inFlight.isSome = true) (elapsed : Nat) :
    exec (.frameBegin ch elapsed) s = .next s :=
  next_of_excluded (by simp [h])

/-- What the station hears on a channel on which it transmits is its own echo (R130, R134). -/
theorem exec_defer_of_transmitting (h : (s.link.chan ch).inFlight.isSome = true) : exec (.defer ch) s = .next s :=
  next_of_excluded (by simp [h])

theorem exec_inhibitActive_of_inhibited (h : (s.link.chan ch).state = .inhibited) : exec (.inhibitActive ch) s = .next s :=
  next_of_excluded (by simp [h])

/-- A receiver starts once, and only with an image loaded (R152). -/
theorem exec_receiverStart_of_not_possible (h : s.settings = none ∨ (s.link.chan ch).receiving = true) :
    exec (.receiverStart ch) s = .next s :=
  next_of_not_possible (by rcases h with h | h <;> simp [h])

end

/-! ### Wait timers (R70, R71) -/

/-- Only the wait of an entry that the book holds runs out. -/
theorem exec_waitTimerExpiry_of_running {n : Period}
    (h : ∀ c e, s.settings = some c → s.held n = some e → e.waitOver c.wait = false) :
    exec (.waitTimerExpiry n) s = .next s := by
  show execWaitTimerExpiry n s = _
  unfold execWaitTimerExpiry
  split
  · next c e hc he => exact next_of_not_possible (h c e hc he)
  · rfl

end

/-- Settles O33: each event by the test of its command that fails. -/
theorem eventsThatCannotOccurChangeNothing : Obligations.EventsThatCannotOccurChangeNothing := by
  unfold Obligations.EventsThatCannotOccurChangeNothing
  intro s line edge time window reply ch n memory straps levels inhibitA inhibitB byte raw
  refine ⟨fun h => next_of_not_possible h, fun h => next_of_not_possible h, fun h => next_of_not_possible h,
    fun h => ⟨exec_runningLevelChange_of_not_possible (.inr h), exec_faultLevelChange_of_not_possible (.inr h),
      exec_debouncedEdge_of_not_possible h time⟩,
    fun h => exec_runningLevelChange_of_not_possible (.inl h), fun h => exec_faultLevelChange_of_not_possible (.inl h),
    fun hpoll => ?noPoll, fun m phase hpoll => ?otherPhase, fun h => next_of_not_possible h, fun hfree => ?noFrame,
    fun f hf => ?otherFrame, exec_inhibitActive_of_inhibited, fun h => congrArg Host.Outcome.next (if_neg h),
    exec_receiverStart_of_not_possible, fun h => next_of_not_possible (by simp [h]), fun hheld => ?notHeld,
    fun c e hc he hruns => ?waitRuns, fun h => congrArg Host.Outcome.next (if_neg h),
    fun h => congrArg Host.Outcome.next (if_neg (mt s.inReset_iff.mp h))⟩
  case noPoll =>
    have hnone (p : Poll) : s.meter.poll ≠ some p := by simp [hpoll]
    exact ⟨exec_quietWaitTimeout_of_not_waiting fun _ hp => absurd hp (hnone _),
      exec_requestSent_of_not_sending fun _ _ => hnone _, exec_replyReceived_of_no_window (fun _ _ => hnone _) reply,
      exec_replyWindowClose_of_not_short fun _ _ hp => absurd hp (hnone _)⟩
  case otherPhase =>
    have hphase {k : Fin 8} {other : PollPhase} (hp : s.meter.poll = some { entry := k, phase := other }) : phase = other :=
      congrArg Poll.phase (Option.some.inj (hpoll.symm.trans hp))
    refine ⟨fun h => exec_quietWaitTimeout_of_not_waiting fun _ hp => h.resolve_left (not_not.mpr (hphase hp)),
      fun h => exec_requestSent_of_not_sending fun _ request hp => h request (hphase hp),
      fun h => ⟨exec_replyReceived_of_no_window (fun _ request hp => h request (hphase hp)) reply,
        exec_replyWindowClose_of_not_short fun _ request hp => absurd (hphase hp) (h request)⟩,
      fun h => exec_replyWindowClose_of_not_short fun _ _ _ => h, fun request h => ?_⟩
    exact exec_strayMeterByte_of_window (h ▸ hpoll) byte
  case noFrame =>
    have hnone (f : InFlight) : (s.link.chan ch).inFlight ≠ some f := by simp [hfree]
    exact ⟨exec_frameGoneOutWhole_of_unchecked fun f hf => absurd hf (hnone f),
      exec_echoMismatch_of_unchecked fun f hf => absurd hf (hnone f),
      exec_inhibitedFrameEnd_of_checked fun f hf => absurd hf (hnone f)⟩
  case otherFrame =>
    have hsame {g : InFlight} (hg : (s.link.chan ch).inFlight = some g) : g = f := Option.some.inj (hg.symm.trans hf)
    have htransmits : (s.link.chan ch).inFlight.isSome = true := by simp [hf]
    exact ⟨fun h => ⟨exec_frameGoneOutWhole_of_unchecked fun _ hg => hsame hg ▸ h,
        exec_echoMismatch_of_unchecked fun _ hg => hsame hg ▸ h⟩,
      fun h => exec_inhibitedFrameEnd_of_checked fun _ hg => hsame hg ▸ h,
      exec_frameBegin_of_transmitting htransmits time, exec_defer_of_transmitting htransmits⟩
  case notHeld => exact exec_waitTimerExpiry_of_running fun _ _ _ he => nomatch hheld.symm.trans he
  case waitRuns =>
    refine exec_waitTimerExpiry_of_running fun c' e' hc' he' => ?_
    obtain rfl := Option.some.inj (hc.symm.trans hc')
    obtain rfl := Option.some.inj (he.symm.trans he')
    exact hruns

end Sys2Proof.Machine
end
